-- ==== Sys2Proof/Word.lean ====
section
/-! DEFINITION. Words of the HK430's wires: the bytes of its four ports (chapter 10) and the 32-bit slots of its sense
link (R180). Everything that is counted or weighed is a `Nat` or an `Int` (R1: exact, held wide enough). -/

namespace Sys2Proof

/-- One byte on a port (chapter 10, "Bytes and frames"). -/
abbrev Byte := BitVec 8

/-- One slot of a sense link frame (R180). -/
abbrev Slot := BitVec 32

/-- An order reference: eight printable ASCII characters (chapter 8, "The order record"). The length and the characters
are checked where a reference arrives (R173). -/
abbrev Ref := List Byte

end Sys2Proof
end

