-- ==== Sys2Proof/Config.lean ====
section
/-! DEFINITION. What the part is built of: its spouts, ports and inbound channels, and the 41 parameters that configure it
(chapter 11, "The parameter table"). The parameters are working values of the machine, so they are a structure held in
`State`; their ids, ranges and defaults stand in `Machine/Params.lean`. The spec calls no result undefined, so there is
no free value here. -/

namespace Sys2Proof

/-- The spouts A, B and C; a bay port, an interlock line and a Gate Controller take the letter of their spout. -/
inductive Spout where
  | A | B | C
  deriving DecidableEq, Repr

/-- The spouts in the tie order of R1. -/
def Spout.all : List Spout := [.A, .B, .C]

/-- One value for each spout. -/
structure PerSpout (α : Type) where
  a : α
  b : α
  c : α
  deriving DecidableEq, Repr

def PerSpout.get {α : Type} (x : PerSpout α) : Spout → α
  | .A => x.a
  | .B => x.b
  | .C => x.c

def PerSpout.set {α : Type} (x : PerSpout α) (i : Spout) (v : α) : PerSpout α :=
  match i with
  | .A => { x with a := v }
  | .B => { x with b := v }
  | .C => { x with c := v }

/-- The same value for every spout. -/
def PerSpout.all {α : Type} (v : α) : PerSpout α := ⟨v, v, v⟩

/-- A value computed for each spout. -/
def PerSpout.of {α : Type} (f : Spout → α) : PerSpout α := ⟨f .A, f .B, f .C⟩

/-- The four serial ports. -/
inductive Port where
  | bay (i : Spout)
  | dispatch
  deriving DecidableEq, Repr

/-- The seven inbound channels of the sense link (chapter 1). -/
inductive Chan where
  | bin
  | impact (i : Spout)
  | feedback (i : Spout)
  deriving DecidableEq, Repr

inductive SyncRole where
  | master | follower
  deriving DecidableEq, Repr

inductive SensorPolicy where
  | hold | binSolo
  deriving DecidableEq, Repr

/-- The value of every parameter of chapter 11's table. -/
structure Params where
  framePeriodUs : Nat
  syncRole : SyncRole
  staleFrames : Nat
  binZero : Int
  binSpan : Nat
  binCapacityG : Nat
  rateSpan : Nat
  settleWindows : Nat
  disturbG : Nat
  spoutZero : PerSpout Int
  spoutGain : PerSpout Nat
  tailMs : PerSpout Nat
  learnEnable : Bool
  sensorPolicy : SensorPolicy
  leakFlow : Nat
  spoutMaxFlow : Nat
  minRate : Nat
  budget : Nat
  startPos : Nat
  gearStep : Nat
  kp : Nat
  dribbleMassG : Nat
  dribblePos : Nat
  tailEndFlow : Nat
  tailMaxMs : Nat
  gateCloseMs : Nat
  maxLoadG : Nat
  linkTimeoutMs : Nat
  holdLimitS : Nat
  lHigh : Nat
  lLow : Nat
  lEmpty : Nat
  refillDeferMaxS : Nat
  refillMaxS : Nat
  portBaud : Nat
  deriving DecidableEq, Repr

/-- What the image store holds (R183, R185): an image never written, an image whose write has begun and not completed
(which does not agree with its CRC-32), or 41 values and the CRC-32 that stands behind them. -/
inductive StoredImage where
  | neverWritten
  | cutOff
  | written (values : Params) (crc : BitVec 32)
  deriving DecidableEq, Repr

/-- The levels of the input lines at the moment of a restart (R127, R165, R187). -/
structure Lines where
  interlock : PerSpout Bool
  aerationOk : Bool
  deriving DecidableEq, Repr

/-- One inbound sense link frame: slots 0 to 7 as clocked in (R180). -/
structure InFrame where
  bin : Slot
  impact : PerSpout Slot
  feedback : PerSpout Slot
  sequence : Slot
  deriving DecidableEq, Repr

/-- The order in which the blocks take the separate events of one frame position, where the rules say that either may be
taken first (R66, R92, R96, R98) or give no order. DESIGN CHOICE (log 4): the command says which order is taken, one for
all three spouts, and only four of the six orders of masses, flows and close can be named; all `false` is the order in
which chapter 0 tells the frame path and then the window path. -/
structure Sched where
  /-- The Gate Controllers take a position's flows before the OAU takes its frame masses (R98). -/
  flowsBeforeMass : Bool
  /-- A window close is taken before the Gate Controllers take the flows of its tenth position (R92, R96). -/
  closeBeforeFlows : Bool
  /-- The Gate Controllers take a position's flows before its feedback, and then its window close too; else the feedback
  comes before both (log 4). -/
  flowsBeforeFeedback : Bool
  deriving DecidableEq, Repr

end Sys2Proof
end

