-- ==== Sys2Proof/Syntax.lean ====
section
/-! DEFINITION. The commands of the HK430: one constructor per row of spec/opcode_table.json. A request carries the port
it came on, its length byte L (R173 checks it) and its fields. -/

namespace Sys2Proof

/-- A step of the part (chapter 95). -/
inductive Instr where
  /-- A sync begins a frame (R2, R16). -/
  | frameSync
  /-- The 256th inbound bit is clocked in (R3). -/
  | frameArrival (frame : InFrame) (order : Sched)
  /-- A sync before 256 bits are clocked, FOLLOWER role (R4). -/
  | earlySync
  | lockTimerExpiry
  | stalenessTimerExpiry (channel : Chan)
  | closeTimerExpiry (spout : Spout)
  | tailTimerExpiry (spout : Spout)
  | linkTimerExpiry (spout : Spout)
  | holdExpired (spout : Spout)
  | deferralTimerExpiry
  | refillTimerExpiry
  | gapTimerExpiry (port : Port)
  /-- The save times out; `left` is what the store is left holding (R185). -/
  | saveTimerExpiry (left : StoredImage)
  /-- The store takes the last byte; `readBack` is what the PM reads back (R185). -/
  | saveWriteCompletion (readBack : StoredImage)
  | interlockFallingEdge (spout : Spout)
  | interlockRisingEdge (spout : Spout)
  | aerationOkChange (high : Bool)
  /-- Power-up or release of RESET, with the SERVICE level and the lines as they stand (R187). -/
  | coldStart (service : Bool) (lines : Lines)
  | warmRestart (lines : Lines)
  | portByteReceived (port : Port) (byte : Byte) (stopHigh : Bool)
  | replySent (port : Port)
  | portBaudTakenUp (port : Port)
  | applyWindowReport
  | unknownRequest (port : Port) (kind : Byte) (len : Nat)
  | openLoad (port : Port) (len : Nat) (ref : Ref) (target rate : BitVec 32)
  | start (port : Port) (len : Nat)
  | hold (port : Port) (len : Nat)
  | resume (port : Port) (len : Nat)
  | finish (port : Port) (len : Nat)
  | spoutStatus (port : Port) (len : Nat)
  | clearFault (port : Port) (len : Nat)
  | postOrder (port : Port) (len : Nat) (ref : Ref) (mass : BitVec 32) (baySet : Byte) (tolerance : BitVec 32)
  | cancelOrder (port : Port) (len : Nat) (ref : Ref)
  | removeOrder (port : Port) (len : Nat) (ref : Ref)
  | orderStatus (port : Port) (len : Nat) (ref : Ref)
  | readTicket (port : Port) (len : Nat)
  | takeTicket (port : Port) (len : Nat) (number : BitVec 16)
  | binStatus (port : Port) (len : Nat)
  | setParameter (port : Port) (len : Nat) (id : Byte) (value : BitVec 32)
  | readParameter (port : Port) (len : Nat) (id : Byte)
  | saveParameters (port : Port) (len : Nat)
  | zeroBin (port : Port) (len : Nat)
  | setCustodyLock (port : Port) (len : Nat)
  | clearUnassigned (port : Port) (len : Nat)
  | clearSupplyFault (port : Port) (len : Nat)
  | restart (port : Port) (len : Nat)
  | partStatus (port : Port) (len : Nat)
  | resetLineRaised
  | powerLost
  deriving DecidableEq, Repr

end Sys2Proof
end

