-- ==== Sys2Proof/Machine/Params.lean ====
section
/-! DEFINITION. The parameter table of chapter 11: ids, ranges, defaults, and reading and writing one working value by its
id. -/

namespace Sys2Proof.Machine

/-- The parameters by name, a spout's parameters carrying their spout. -/
inductive ParamId where
  | framePeriodUs | syncRole | staleFrames
  | binZero | binSpan | binCapacityG | rateSpan | settleWindows | disturbG
  | spoutZero (i : Spout) | spoutGain (i : Spout) | tailMs (i : Spout)
  | learnEnable | sensorPolicy | leakFlow
  | spoutMaxFlow | minRate | budget
  | startPos | gearStep | kp | dribbleMassG | dribblePos | tailEndFlow | tailMaxMs | gateCloseMs
  | maxLoadG | linkTimeoutMs | holdLimitS
  | lHigh | lLow | lEmpty | refillDeferMaxS | refillMaxS
  | portBaud
  deriving DecidableEq, Repr

/-- The id column of the table, in the order of the ids. -/
def paramTable : List (Nat × ParamId) :=
  [(0x01, .framePeriodUs), (0x02, .syncRole), (0x03, .staleFrames),
   (0x10, .binZero), (0x11, .binSpan), (0x12, .binCapacityG), (0x13, .rateSpan), (0x14, .settleWindows),
   (0x15, .disturbG),
   (0x20, .spoutZero .A), (0x21, .spoutZero .B), (0x22, .spoutZero .C),
   (0x23, .spoutGain .A), (0x24, .spoutGain .B), (0x25, .spoutGain .C),
   (0x26, .tailMs .A), (0x27, .tailMs .B), (0x28, .tailMs .C),
   (0x30, .learnEnable), (0x31, .sensorPolicy), (0x32, .leakFlow),
   (0x40, .spoutMaxFlow), (0x41, .minRate), (0x42, .budget),
   (0x50, .startPos), (0x51, .gearStep), (0x52, .kp), (0x53, .dribbleMassG), (0x54, .dribblePos),
   (0x55, .tailEndFlow), (0x56, .tailMaxMs), (0x57, .gateCloseMs),
   (0x60, .maxLoadG), (0x61, .linkTimeoutMs), (0x62, .holdLimitS),
   (0x70, .lHigh), (0x71, .lLow), (0x72, .lEmpty), (0x73, .refillDeferMaxS), (0x74, .refillMaxS),
   (0x80, .portBaud)]

/-- The parameter an id names, if the table has it (R181, R182). -/
def paramOfId (id : Byte) : Option ParamId :=
  (paramTable.find? fun row => row.1 = id.toNat).map Prod.snd

/-- The default column (R183). -/
def paramDefaults : Params where
  framePeriodUs := 10000
  syncRole := .master
  staleFrames := 5
  binZero := 0
  binSpan := 2560
  binCapacityG := 60000000
  rateSpan := 20
  settleWindows := 20
  disturbG := 150000
  spoutZero := .all 0
  spoutGain := .all 65536
  tailMs := .all 600
  learnEnable := true
  sensorPolicy := .binSolo
  leakFlow := 3000
  spoutMaxFlow := 150000
  minRate := 10000
  budget := 240000
  startPos := 100
  gearStep := 50
  kp := 4
  dribbleMassG := 300000
  dribblePos := 250
  tailEndFlow := 1500
  tailMaxMs := 6000
  gateCloseMs := 3000
  maxLoadG := 40000000
  linkTimeoutMs := 5000
  holdLimitS := 1800
  lHigh := 50000000
  lLow := 25000000
  lEmpty := 4000000
  refillDeferMaxS := 30
  refillMaxS := 600
  portBaud := 19200

/-- `lo..hi`, both ends included. -/
def within (lo hi v : Int) : Bool := decide (lo ≤ v) && decide (v ≤ hi)

/-- The range column: whether a value lies in the parameter's range (R182, second check). -/
def paramInRange (p : ParamId) (v : Int) : Bool :=
  match p with
  | .framePeriodUs => within 5000 20000 v
  | .syncRole => within 0 1 v
  | .staleFrames => within 2 50 v
  | .binZero => within (-8388608) 8388607 v
  | .binSpan => within 16 65535 v
  | .binCapacityG => within 1000000 100000000 v
  | .rateSpan => within 12 32 v
  | .settleWindows => within 5 100 v
  | .disturbG => within 1000 2000000 v
  | .spoutZero _ => within (-8388608) 8388607 v
  | .spoutGain _ => within 4096 262143 v
  | .tailMs _ => within 0 4000 v
  | .learnEnable => within 0 1 v
  | .sensorPolicy => within 0 1 v
  | .leakFlow => within 1000 20000 v
  | .spoutMaxFlow => within 20000 200000 v
  | .minRate => within 5000 50000 v
  | .budget => within 0 400000 v
  | .startPos => within 0 500 v
  | .gearStep => within 10 200 v
  | .kp => within 0 50 v
  | .dribbleMassG => within 0 2000000 v
  | .dribblePos => within 50 500 v
  | .tailEndFlow => within 500 20000 v
  | .tailMaxMs => within 1000 20000 v
  | .gateCloseMs => within 500 10000 v
  | .maxLoadG => within 1000000 120000000 v
  | .linkTimeoutMs => decide (v = 0) || within 500 60000 v
  | .holdLimitS => within 0 7200 v
  | .lHigh => within 0 100000000 v
  | .lLow => within 0 100000000 v
  | .lEmpty => within 0 100000000 v
  | .refillDeferMaxS => within 0 120 v
  | .refillMaxS => within 10 1800 v
  | .portBaud => decide (v = 9600) || decide (v = 19200) || decide (v = 38400) || decide (v = 57600)

/-- The parameters refused LOCKED while the custody lock is set (R182, R186). -/
def paramLocked : ParamId → Bool
  | .framePeriodUs | .syncRole | .binZero | .binSpan | .rateSpan => true
  | _ => false

/-- The working value of a parameter, in the codes of the table. -/
def paramGet (w : Params) (p : ParamId) : Int :=
  match p with
  | .framePeriodUs => w.framePeriodUs
  | .syncRole => match w.syncRole with | .master => 0 | .follower => 1
  | .staleFrames => w.staleFrames
  | .binZero => w.binZero
  | .binSpan => w.binSpan
  | .binCapacityG => w.binCapacityG
  | .rateSpan => w.rateSpan
  | .settleWindows => w.settleWindows
  | .disturbG => w.disturbG
  | .spoutZero i => w.spoutZero.get i
  | .spoutGain i => w.spoutGain.get i
  | .tailMs i => w.tailMs.get i
  | .learnEnable => if w.learnEnable then 1 else 0
  | .sensorPolicy => match w.sensorPolicy with | .hold => 0 | .binSolo => 1
  | .leakFlow => w.leakFlow
  | .spoutMaxFlow => w.spoutMaxFlow
  | .minRate => w.minRate
  | .budget => w.budget
  | .startPos => w.startPos
  | .gearStep => w.gearStep
  | .kp => w.kp
  | .dribbleMassG => w.dribbleMassG
  | .dribblePos => w.dribblePos
  | .tailEndFlow => w.tailEndFlow
  | .tailMaxMs => w.tailMaxMs
  | .gateCloseMs => w.gateCloseMs
  | .maxLoadG => w.maxLoadG
  | .linkTimeoutMs => w.linkTimeoutMs
  | .holdLimitS => w.holdLimitS
  | .lHigh => w.lHigh
  | .lLow => w.lLow
  | .lEmpty => w.lEmpty
  | .refillDeferMaxS => w.refillDeferMaxS
  | .refillMaxS => w.refillMaxS
  | .portBaud => w.portBaud

/-- The working values with one of them replaced; the value lies in the parameter's range (R182). -/
def paramSet (w : Params) (p : ParamId) (v : Int) : Params :=
  match p with
  | .framePeriodUs => { w with framePeriodUs := v.toNat }
  | .syncRole => { w with syncRole := if v = 0 then .master else .follower }
  | .staleFrames => { w with staleFrames := v.toNat }
  | .binZero => { w with binZero := v }
  | .binSpan => { w with binSpan := v.toNat }
  | .binCapacityG => { w with binCapacityG := v.toNat }
  | .rateSpan => { w with rateSpan := v.toNat }
  | .settleWindows => { w with settleWindows := v.toNat }
  | .disturbG => { w with disturbG := v.toNat }
  | .spoutZero i => { w with spoutZero := w.spoutZero.set i v }
  | .spoutGain i => { w with spoutGain := w.spoutGain.set i v.toNat }
  | .tailMs i => { w with tailMs := w.tailMs.set i v.toNat }
  | .learnEnable => { w with learnEnable := decide (v = 1) }
  | .sensorPolicy => { w with sensorPolicy := if v = 0 then .hold else .binSolo }
  | .leakFlow => { w with leakFlow := v.toNat }
  | .spoutMaxFlow => { w with spoutMaxFlow := v.toNat }
  | .minRate => { w with minRate := v.toNat }
  | .budget => { w with budget := v.toNat }
  | .startPos => { w with startPos := v.toNat }
  | .gearStep => { w with gearStep := v.toNat }
  | .kp => { w with kp := v.toNat }
  | .dribbleMassG => { w with dribbleMassG := v.toNat }
  | .dribblePos => { w with dribblePos := v.toNat }
  | .tailEndFlow => { w with tailEndFlow := v.toNat }
  | .tailMaxMs => { w with tailMaxMs := v.toNat }
  | .gateCloseMs => { w with gateCloseMs := v.toNat }
  | .maxLoadG => { w with maxLoadG := v.toNat }
  | .linkTimeoutMs => { w with linkTimeoutMs := v.toNat }
  | .holdLimitS => { w with holdLimitS := v.toNat }
  | .lHigh => { w with lHigh := v.toNat }
  | .lLow => { w with lLow := v.toNat }
  | .lEmpty => { w with lEmpty := v.toNat }
  | .refillDeferMaxS => { w with refillDeferMaxS := v.toNat }
  | .refillMaxS => { w with refillMaxS := v.toNat }
  | .portBaud => { w with portBaud := v.toNat }

/-- The order L_EMPTY < L_LOW < L_HIGH ≤ BIN_CAPACITY_G (R155, R182, R183). -/
def levelsOrdered (w : Params) : Bool :=
  decide (w.lEmpty < w.lLow) && decide (w.lLow < w.lHigh) && decide (w.lHigh ≤ w.binCapacityG)

/-- Whether the third check of R182 looks at this parameter. -/
def paramIsLevel : ParamId → Bool
  | .lEmpty | .lLow | .lHigh | .binCapacityG => true
  | _ => false

/-- Every value of the table lies in its range and the levels stand in their order (R183). -/
def paramsSound (w : Params) : Bool :=
  (paramTable.all fun row => paramInRange row.2 (paramGet w row.2)) && levelsOrdered w

/-- The window length W_us in microseconds (chapter 0, Conventions). -/
def windowUs (w : Params) : Nat := 10 * w.framePeriodUs

end Sys2Proof.Machine
end

