-- ==== Sys2Proof/Machine/State.lean ====
section
/-! DEFINITION. The state of the HK430: for each of its blocks what the block's chapter says it holds, the levels of the
lines, and the queue of waiting commands. All of it is plain data. -/

namespace Sys2Proof.Machine

/-- Whether the part runs (R187: at rest while RESET is held; R185: off when the 24 V supply is lost). -/
inductive Power where
  | running | atRest | off
  deriving DecidableEq, Repr

/-! ### Sense Link Interface (chapter 1) -/

inductive LockState where
  | seeking | locked
  deriving DecidableEq, Repr

inductive ChanState where
  | awaiting | fresh | stale
  deriving DecidableEq, Repr

/-- One inbound channel: its state, its last good sample and its staleness timer in ms (R12, R13). -/
structure Channel where
  state : ChanState
  lastGood : Int
  timer : Option Nat
  deriving DecidableEq, Repr

structure Sli where
  lock : LockState
  /-- LOCKED: the number of the last frame handed on. SEEKING: the candidate's number, or absent (R6). -/
  lastSeq : Option Nat
  lockTimer : Option Nat
  bin : Channel
  impact : PerSpout Channel
  feedback : PerSpout Channel
  frameErrors : Nat
  missedFrames : Nat
  gateCommand : PerSpout Nat
  refillCommand : Bool
  /-- A sync has begun a frame whose 256th bit has not been clocked (R2, R4). -/
  frameInProgress : Bool
  /-- Slots 0 to 7 of the outbound frame, as taken at the last sync (R16, R180). -/
  outbound : List Slot
  /-- Microseconds since the last sync raised in the MASTER role (R2). -/
  syncClockUs : Nat
  deriving DecidableEq, Repr

/-! ### Bin Measurement Unit (chapter 2) -/

inductive Mode where
  | blind | unready | gravimetric | refilling | settling
  deriving DecidableEq, Repr

/-- One entry of the history ring. -/
structure Entry where
  mean : Int
  valid : Bool
  refill : Bool
  disturbed : Bool
  flowing : PerSpout Bool
  m : PerSpout Nat
  deriving DecidableEq, Repr

inductive ZeroState where
  | idle | running | done | aborted
  deriving DecidableEq, Repr

/-- The ZERO BIN operation (R35, R36). -/
structure ZeroOp where
  state : ZeroState
  windowCount : Nat
  rawSum : Int
  sampleCount : Nat
  /-- The window in progress already had a position filled at acceptance and is not used (R36). -/
  skipWindow : Bool
  deriving DecidableEq, Repr

structure Bmu where
  position : Nat
  massSum : Int
  goodCount : Nat
  rawSum : Int
  refillMark : Bool
  disturbedMark : Bool
  /-- Oldest first, at most 32. -/
  ring : List Entry
  cleanRun : Nat
  mode : Mode
  /-- The model's own field (log 33): the BMU has reported an entry to BLIND (R28) since the last restart. A restart sets
  the mode BLIND without an entry (R39), and the SSU takes no sensor close before the first one (R44, R73). -/
  blindEntered : Bool
  /-- The mode and F at the last window close (R24). -/
  previous : Option (Mode × Nat)
  f : Nat
  zero : ZeroOp
  deriving DecidableEq, Repr

/-! ### Spout Sensor Unit (chapter 3) -/

/-- What the SSU holds for one spout. -/
structure Sensor where
  lastQ : Nat
  substitution : Bool
  carry : Nat
  massSum : Nat
  count : Nat
  feedbackOpenMark : Bool
  impactGapMark : Bool
  substitutedMark : Bool
  /-- The sensor hold demand as last reported to the LM (R45, R46). -/
  demand : Bool
  solo : Nat
  driftSuspended : Bool
  leakAlarm : Bool
  leakSet : Nat
  leakClear : Nat
  deriving DecidableEq, Repr

/-! ### Outflow Accounting Unit (chapter 4) -/

/-- The pending part of a spout: the closed window's m_i and the load it is to be credited to. -/
structure Pending where
  mass : Nat
  load : Nat
  deriving DecidableEq, Repr

/-- A credit named in a window report (R62). -/
structure Credit where
  load : Nat
  grams : Nat
  deriving DecidableEq, Repr

/-- A window report handed to the LM (R62). -/
structure WindowReport where
  gravimetric : Bool
  credits : PerSpout (Option Credit)
  deriving DecidableEq, Repr

structure Oau where
  modeRecord : Mode
  carry : Nat
  openPart : PerSpout Int
  pending : PerSpout (Option Pending)
  unassigned : Nat
  /-- Reports the LM has not yet applied, oldest first. -/
  reports : List WindowReport
  deriving DecidableEq, Repr

/-! ### Discharge Budget Arbiter (chapter 5) -/

/-- A granted allocation (R75); also a pending grant at a gate (R91). -/
structure Allocation where
  load : Nat
  rate : Nat
  deriving DecidableEq, Repr

/-- A place in the allocation queue (R77). -/
structure QueuePlace where
  spout : Spout
  load : Nat
  rate : Nat
  deriving DecidableEq, Repr

structure Dba where
  effectiveBudget : Nat
  aerationLow : Bool
  starved : Bool
  allocation : PerSpout (Option Allocation)
  /-- The head first. -/
  queue : List QueuePlace
  deriving DecidableEq, Repr

/-! ### Gate Controllers (chapter 6) -/

inductive GateMode where
  | closed | opening | regulating | dribble | closing | fault
  deriving DecidableEq, Repr

/-- The cutoff record (R99). D_cut is a provisional mass, so it is signed. -/
structure CutoffRecord where
  dCut : Int
  qCut : Nat
  load : Nat
  substituted : Bool
  deriving DecidableEq, Repr

inductive TailKind where
  | cutoff | finished
  deriving DecidableEq, Repr

structure Tail where
  kind : TailKind
  timer : Nat
  lowCount : Nat
  spoiled : Bool
  deriving DecidableEq, Repr

structure Gate where
  mode : GateMode
  command : Nat
  pendingGrant : Option Allocation
  flowSum : Nat
  flowCount : Nat
  closeTimer : Option Nat
  cutoff : Option CutoffRecord
  tail : Option Tail
  deriving DecidableEq, Repr

/-! ### Load Manager (chapter 7) -/

inductive LoadState where
  | armed | waiting | discharging | held | tailing
  deriving DecidableEq, Repr

inductive Cause where
  | bay | interlock | link | aeration | starve | sensor | sense
  deriving DecidableEq, Repr

/-- A hold cause set: each cause at most once. -/
structure Causes where
  bay : Bool
  interlock : Bool
  link : Bool
  aeration : Bool
  starve : Bool
  sensor : Bool
  sense : Bool
  deriving DecidableEq, Repr

inductive FaultKind where
  | gateStuck | gateFeedback | sensorDrift
  deriving DecidableEq, Repr

/-- The load in a slot (chapter 7, "The load slot"). -/
structure Load where
  number : Nat
  order : Ref
  target : Nat
  rate : Nat
  state : LoadState
  d : Nat
  gravimetric : Nat
  causes : Causes
  holdMs : Nat
  trips : Nat
  finished : Bool
  cutoff : Option CutoffRecord
  drift : Bool
  firstFault : Option FaultKind
  deriving DecidableEq, Repr

/-- A latched fault: its kind, the load then in the slot and that load's D (R136). -/
structure LatchedFault where
  kind : FaultKind
  load : Option Nat
  d : Nat
  deriving DecidableEq, Repr

structure FaultLatch where
  fault : Option LatchedFault
  count : Nat
  deriving DecidableEq, Repr

structure Lm where
  slot : PerSpout (Option Load)
  counter : Nat
  latch : PerSpout FaultLatch
  linkTimer : PerSpout (Option Nat)
  /-- The INTERLOCK lines as last sampled (R127); high means permit. -/
  interlock : PerSpout Bool
  aerationLow : Bool
  starved : Bool
  seeking : Bool
  demand : PerSpout Bool
  deriving DecidableEq, Repr

/-! ### Order and Ticket Store (chapter 8) -/

inductive OrderState where
  | opened | filled | cancelled
  deriving DecidableEq, Repr

structure Order where
  ref : Ref
  ordered : Nat
  bays : PerSpout Bool
  tolerance : Nat
  loaded : Nat
  reserved : Nat
  state : OrderState
  deriving DecidableEq, Repr

inductive TicketOutcome where
  | inTolerance | over | under
  deriving DecidableEq, Repr

inductive EndCause where
  | cutoff | finished | holdExpired | spoutFault | restart
  deriving DecidableEq, Repr

structure Ticket where
  number : Nat
  ref : Ref
  spout : Spout
  load : Nat
  target : Nat
  d : Nat
  share : Nat
  outcome : TicketOutcome
  endCause : EndCause
  holdS : Nat
  trips : Nat
  drift : Bool
  firstFault : Option FaultKind
  deriving DecidableEq, Repr

structure Ots where
  orders : List Order
  /-- Oldest first. -/
  tickets : List Ticket
  counter : Nat
  placesHeld : Nat
  deriving DecidableEq, Repr

/-! ### Bin Supply Controller (chapter 9) -/

inductive RefillState where
  | idle | deferred | opened | suspended | supplyFault
  deriving DecidableEq, Repr

structure Bsc where
  state : RefillState
  deferralTimer : Option Nat
  refillTimer : Option Nat
  supplyFault : Bool
  dribbleSet : PerSpout Bool
  blindRecord : Bool
  zeroRecord : Bool
  starved : Bool
  /-- The AERATION OK line as last sampled (R165). -/
  aerationHigh : Bool
  deriving DecidableEq, Repr

/-! ### Port Controller (chapter 10) -/

inductive ReceiveState where
  | idle | receiving | answering
  deriving DecidableEq, Repr

/-- The result codes of chapter 10. -/
inductive Result where
  | ok | busy | wrongState | conditionPresent | spoutInUse | spoutFault | ticketsFull | noBudget | noOrder
  | orderClosed | wrongBay | orderExhausted | tableFull | duplicate | loadsOpen | notOldest | none | locked
  | notReady | outOfRange | wrongPort | unknown
  deriving DecidableEq, Repr

/-- A reply that has been formed: the kind byte as sent, the result and the reply's field bytes (R174). -/
structure Reply where
  kind : Byte
  result : Result
  fields : List Byte
  deriving DecidableEq, Repr

structure PortState where
  receive : ReceiveState
  buffer : List Byte
  gapTimer : Option Nat
  /-- The request taken from a well-formed frame and not yet answered in full (R172). -/
  request : Option Instr
  /-- The reply formed for it, until its last byte has been sent (R174). -/
  reply : Option Reply
  errors : Nat
  /-- The rate the port runs at, which PORT_BAUD reaches by R178. -/
  baud : Nat
  deriving DecidableEq, Repr

structure Pc where
  bay : PerSpout PortState
  dispatch : PortState
  deriving DecidableEq, Repr

/-! ### Parameter Memory (chapter 11) -/

inductive StoreStatus where
  | none | writing | done | failed | timedOut
  deriving DecidableEq, Repr

inductive RestartCause where
  | cold | coldService | warm
  deriving DecidableEq, Repr

structure Pm where
  working : Params
  image : StoredImage
  snapshot : Option Params
  saveTimer : Option Nat
  status : StoreStatus
  defaulted : Bool
  custodyLock : Bool
  restartCause : RestartCause
  /-- The PC has handed over a warm restart that has not been taken (R179). -/
  warmPending : Bool
  deriving DecidableEq, Repr

/-! ### The machine -/

structure State where
  power : Power
  sli : Sli
  bmu : Bmu
  ssu : PerSpout Sensor
  oau : Oau
  dba : Dba
  gate : PerSpout Gate
  lm : Lm
  ots : Ots
  bsc : Bsc
  pc : Pc
  pm : Pm
  /-- The commands that are waiting, first in, first out: the model's own field. -/
  pending : List Instr
  deriving DecidableEq, Repr

/-- Why the machine stops. No rule of the spec stops the part, and no meaning of this model raises a fault (log 26). -/
inductive Fault where
  /-- Raised by nothing: it keeps the type inhabited. Safe. -/
  | neverRaised
  deriving DecidableEq, Repr

/-- Why a command has no meaning. -/
inductive Refusal where
  /-- A command not yet modelled; raised by `exec`'s refused arms only (there is none). Safe. -/
  | notModelled (mnemonic : String)
  deriving DecidableEq, Repr

/-! ### Values after a restart -/

/-- A channel after a restart and on entry to SEEKING (R7, R18). -/
def Channel.awaiting : Channel := { state := .awaiting, lastGood := 0, timer := none }

/-- The zero operation after a restart (R39). -/
def ZeroOp.idle : ZeroOp := { state := .idle, windowCount := 0, rawSum := 0, sampleCount := 0, skipWindow := false }

/-- A spout's sensor after a cold start (R54). -/
def Sensor.reset : Sensor where
  lastQ := 0
  substitution := false
  carry := 0
  massSum := 0
  count := 0
  feedbackOpenMark := false
  impactGapMark := false
  substitutedMark := false
  demand := true
  solo := 0
  driftSuspended := false
  leakAlarm := false
  leakSet := 0
  leakClear := 0

/-- A gate after a restart (R115). -/
def Gate.reset : Gate where
  mode := .closing
  command := 0
  pendingGrant := none
  flowSum := 0
  flowCount := 0
  closeTimer := some 0
  cutoff := none
  tail := none

/-- A clear fault latch (R136). -/
def FaultLatch.clear : FaultLatch := { fault := none, count := 0 }

/-- A port after a restart (R179), at a rate. -/
def PortState.reset (baud : Nat) : PortState where
  receive := .idle
  buffer := []
  gapTimer := none
  request := none
  reply := none
  errors := 0
  baud := baud

/-- The machine right after the cold start of a part as delivered (R183, R186: image never written, lock cell clear),
with SERVICE low. The levels of the INTERLOCK and AERATION OK lines at that moment are low: DESIGN CHOICE (log 13), the
spec gives the lines no level. Chapters' restart rules: R18, R39, R54, R73, R88, R115, R139, R154, R167, R179, R187. -/
def State.reset : State where
  power := .running
  sli :=
    { lock := .seeking, lastSeq := none, lockTimer := none, bin := .awaiting, impact := .all .awaiting,
      feedback := .all .awaiting, frameErrors := 0, missedFrames := 0, gateCommand := .all 0,
      refillCommand := false, frameInProgress := false, outbound := List.replicate 8 0, syncClockUs := 9000 }
  bmu :=
    { position := 0, massSum := 0, goodCount := 0, rawSum := 0, refillMark := false, disturbedMark := false,
      ring := [], cleanRun := 0, mode := .blind, blindEntered := false, previous := none, f := 0, zero := .idle }
  ssu := .all .reset
  oau :=
    { modeRecord := .blind, carry := 0, openPart := .all 0, pending := .all none, unassigned := 0, reports := [] }
  dba := { effectiveBudget := 0, aerationLow := true, starved := false, allocation := .all none, queue := [] }
  gate := .all .reset
  lm :=
    { slot := .all none, counter := 1, latch := .all .clear, linkTimer := .all none, interlock := .all false,
      aerationLow := true, starved := false, seeking := true, demand := .all true }
  ots := { orders := [], tickets := [], counter := 1, placesHeld := 0 }
  bsc :=
    { state := .idle, deferralTimer := none, refillTimer := none, supplyFault := false, dribbleSet := .all false,
      blindRecord := true, zeroRecord := false, starved := false, aerationHigh := false }
  pc := { bay := .all (.reset 19200), dispatch := .reset 19200 }
  pm :=
    { working := paramDefaults, image := .neverWritten, snapshot := none, saveTimer := none, status := .none,
      defaulted := true, custodyLock := false, restartCause := .cold, warmPending := false }
  pending := []

end Sys2Proof.Machine
end

