-- ==== Sys2Proof/Machine/Ops.lean ====
section
/-! DEFINITION. The named operations over State that every block uses: replacing one block, reading and writing one
spout's slot, gate, sensor or channel, and the arithmetic of R1. -/

namespace Sys2Proof.Machine

/-! ### One block replaced -/

def State.withPower (s : State) (x : Power) : State := { s with power := x }

def State.withSli (s : State) (x : Sli) : State := { s with sli := x }

def State.withBmu (s : State) (x : Bmu) : State := { s with bmu := x }

def State.withSsu (s : State) (x : PerSpout Sensor) : State := { s with ssu := x }

def State.withOau (s : State) (x : Oau) : State := { s with oau := x }

def State.withDba (s : State) (x : Dba) : State := { s with dba := x }

def State.withGate (s : State) (x : PerSpout Gate) : State := { s with gate := x }

def State.withLm (s : State) (x : Lm) : State := { s with lm := x }

def State.withOts (s : State) (x : Ots) : State := { s with ots := x }

def State.withBsc (s : State) (x : Bsc) : State := { s with bsc := x }

def State.withPc (s : State) (x : Pc) : State := { s with pc := x }

def State.withPm (s : State) (x : Pm) : State := { s with pm := x }

def State.withPending (s : State) (x : List Instr) : State := { s with pending := x }


/-! ### Reading and writing one spout's state -/

/-- The load in a spout's slot (R116). -/
def loadOf (s : State) (i : Spout) : Option Load := s.lm.slot.get i

def setLoad (s : State) (i : Spout) (l : Option Load) : State :=
  s.withLm { s.lm with slot := s.lm.slot.set i l }

def gateOf (s : State) (i : Spout) : Gate := s.gate.get i

def setGate (s : State) (i : Spout) (g : Gate) : State := s.withGate (s.gate.set i g)

def sensorOf (s : State) (i : Spout) : Sensor := s.ssu.get i

def setSensor (s : State) (i : Spout) (x : Sensor) : State := s.withSsu (s.ssu.set i x)

/-- The working values every block reads (chapter 11). -/
def working (s : State) : Params := s.pm.working

def setWorking (s : State) (w : Params) : State := s.withPm { s.pm with working := w }

/-- An event taken for each spout in the tie order A, B, C (R1). -/
def eachSpout (f : Spout → State → State) (s : State) : State := f .C (f .B (f .A s))

/-! ### Arithmetic (R1) -/

/-- A total that can only grow saturates at its stated maximum (R1). -/
def satAdd (limit now more : Nat) : Nat := min limit (now + more)

/-- The largest value of a four-byte mass, the range of D and of the hold time (chapter 7). -/
def maxU32 : Nat := 4294967295

/-- The largest value of the unassigned account (R71). -/
def maxUnassigned : Nat := 999999999999

/-- A counter of 1..65,535 that goes from 65,535 to 1 (R116, R150). -/
def nextNumber (n : Nat) : Nat := if n ≥ 65535 then 1 else n + 1

/-- `v` limited to `lo..hi` (R1: clamped after the division). -/
def clamp (lo hi v : Int) : Int := max lo (min hi v)

/-- Microseconds converted to milliseconds and rounded up to a whole one (R5, R13). -/
def msRoundedUp (us : Nat) : Nat := (us + 999) / 1000

/-- The meaning of a command while the part runs; at rest or off every event but a cold start, the RESET line and the
loss of power leaves the state as it is (R187, log 14). -/
def whileRunning (f : State → State) (s : State) : Host.Outcome State Fault Refusal :=
  if s.power = .running then .next (f s) else .next s

end Sys2Proof.Machine
end

