-- ==== Sys2Proof/Machine/Sli.lean ====
section
/-! DEFINITION. The Sense Link Interface's own operations (chapter 1): slots and samples, channels, timers' limits, the
outbound commands and the two counters. -/

namespace Sys2Proof.Machine

/-! ### Slots (R180) -/

/-- Bits 31 to 8 of a slot: the sample, a signed 24-bit count. -/
def slotSample (x : Slot) : Int := (x.extractLsb' 8 24).toInt

/-- Bits 7 to 0 of a slot: the channel condition; 0 is normal. -/
def slotCondition (x : Slot) : Nat := (x.extractLsb' 0 8).toNat

/-- An outbound slot: the command in bits 31 to 8, bits 7 to 0 zero. -/
def outboundSlot (command : Nat) : Slot := BitVec.ofNat 32 (command * 256)

/-- A bin or impact sample is good when its condition is 0 (R12). -/
def goodSample (x : Slot) : Option Int := if slotCondition x = 0 then some (slotSample x) else none

/-- A feedback sample is good when its condition is 0 and it lies within 0..1000 (R12). -/
def goodFeedback (x : Slot) : Option Int :=
  if slotCondition x = 0 && within 0 1000 (slotSample x) then some (slotSample x) else none

/-- The sequence number of a well-formed frame; `none` for a malformed one (R3). -/
def frameSequence (f : InFrame) : Option Nat :=
  if slotCondition f.sequence = 0 && within 0 255 (slotSample f.sequence)
  then some (slotSample f.sequence).toNat else none

/-! ### Channels -/

/-- A frame's sample taken by its channel: a good one is kept, moves the channel to FRESH and restarts its staleness
timer; any other leaves the channel as it was (R12, R13). -/
def Channel.take (c : Channel) (good : Option Int) : Channel :=
  match good with
  | some v => { state := .fresh, lastGood := v, timer := some 0 }
  | none => c

/-- FRESH to STALE (R13). -/
def Channel.goStale (c : Channel) : Channel := { c with state := .stale, timer := none }

/-- What a consumer is given for a channel at a frame position (R15). -/
inductive Mark where
  | good (v : Int)
  | held (v : Int)
  | nothing
  deriving DecidableEq, Repr

/-- The mark of a channel, after the frame's sample has been taken (R15). -/
def markOf (c : Channel) (good : Option Int) : Mark :=
  match good with
  | some v => .good v
  | none => match c.state with
    | .fresh => .held c.lastGood
    | _ => .nothing

/-- The sample given under either mark; `none` where nothing is given. -/
def Mark.value? : Mark → Option Int
  | .good v => some v
  | .held v => some v
  | .nothing => none

def channelOf (s : State) (c : Chan) : Channel :=
  match c with
  | .bin => s.sli.bin
  | .impact i => s.sli.impact.get i
  | .feedback i => s.sli.feedback.get i

def setChannel (s : State) (c : Chan) (x : Channel) : State :=
  match c with
  | .bin => s.withSli { s.sli with bin := x }
  | .impact i => s.withSli { s.sli with impact := s.sli.impact.set i x }
  | .feedback i => s.withSli { s.sli with feedback := s.sli.feedback.set i x }

/-- The spout's sensor condition: its impact channel is not FRESH (R45). -/
def sensorCondition (s : State) (i : Spout) : Bool := decide ((s.sli.impact.get i).state ≠ .fresh)

/-! ### Timers' limits -/

/-- 3 × P in whole milliseconds, rounded up (R5). -/
def lockLimitMs (w : Params) : Nat := msRoundedUp (3 * w.framePeriodUs)

/-- STALE_FRAMES × P in whole milliseconds, rounded up (R13). -/
def staleLimitMs (w : Params) : Nat := msRoundedUp (w.staleFrames * w.framePeriodUs)

/-- A running timer at or past its limit. Every expiry acts on this alone, so an expiry that waits behind an event that
has restarted or stopped its timer finds the count below the limit and does nothing (log 2). -/
def reached (limit : Nat) (t : Option Nat) : Bool :=
  match t with
  | some n => decide (limit ≤ n)
  | none => false

/-! ### Outbound commands (R16) -/

/-- A Gate Controller sets its spout's outbound command. -/
def setGateCommand (s : State) (i : Spout) (c : Nat) : State :=
  s.withSli { s.sli with gateCommand := s.sli.gateCommand.set i c }

/-- The BSC sets the refill command. -/
def setRefillCommand (s : State) (on : Bool) : State := s.withSli { s.sli with refillCommand := on }

/-- The eight outbound slots as the commands stand (R16, R180). -/
def outboundSlots (x : Sli) : List Slot :=
  [outboundSlot x.gateCommand.a, outboundSlot x.gateCommand.b, outboundSlot x.gateCommand.c,
   outboundSlot (if x.refillCommand then 1 else 0), 0, 0, 0, 0]

/-- A sync begins a frame: the outbound slots are taken from the commands (R16). -/
def beginFrame (s : State) : State :=
  s.withSli { s.sli with frameInProgress := true, outbound := outboundSlots s.sli }

/-! ### Counters (R17) -/

def countFrameError (s : State) : State :=
  s.withSli { s.sli with frameErrors := satAdd 65535 s.sli.frameErrors 1 }

def countMissed (k : Nat) (s : State) : State :=
  s.withSli { s.sli with missedFrames := satAdd 65535 s.sli.missedFrames k }

/-- An early sync: the partial frame is discarded and counted, a candidate held in SEEKING is dropped (with the lock timer,
which runs only while one is held, R5), and a new frame begins (R4). -/
def earlySync (s : State) : State :=
  let s := countFrameError s
  let s := match s.sli.lock with
    | .seeking => s.withSli { s.sli with lastSeq := none, lockTimer := none }
    | .locked => s
  beginFrame s

/-- The SLI's own part of entering SEEKING (R7). -/
def sliSeek (s : State) : State :=
  s.withSli { s.sli with
    lock := .seeking, lastSeq := none, lockTimer := none,
    bin := .awaiting, impact := .all .awaiting, feedback := .all .awaiting }

end Sys2Proof.Machine
end

