-- ==== Sys2Proof/Machine/Oau.lean ====
section
/-! DEFINITION. Outflow accounting (chapter 4): the mode record, the provisional mass, and classing, apportioning and
crediting a closed window. -/

namespace Sys2Proof.Machine

/-- A mode report of the BMU: the gravimetric carry is cleared when the mode leaves GRAVIMETRIC (R56). -/
def oauModeReport (m : Mode) (s : State) : State :=
  s.withOau { s.oau with
    carry := if s.oau.modeRecord = .gravimetric ∧ m ≠ .gravimetric then 0 else s.oau.carry,
    modeRecord := m }

/-- Grams added to the unassigned account, which saturates (R71). -/
def addUnassigned (g : Nat) (s : State) : State :=
  s.withOau { s.oau with unassigned := satAdd maxUnassigned s.oau.unassigned g }

/-- The pending part of a spout, where it names load `n` (R68). -/
def pendingFor (s : State) (i : Spout) (n : Nat) : Nat :=
  match s.oau.pending.get i with
  | some p => if p.load = n then p.mass else 0
  | none => 0

/-- The provisional delivered mass of a load on spout `i` (R68). -/
def provisional (s : State) (i : Spout) (l : Load) : Int :=
  (l.d : Int) + (pendingFor s i l.number : Int) + s.oau.openPart.get i

/-- A frame mass joins the spout's open part (R65). -/
def addOpen (i : Spout) (grams : Nat) (s : State) : State :=
  s.withOau { s.oau with openPart := s.oau.openPart.set i (s.oau.openPart.get i + grams) }

/-- The gravimetric share in per-mille (R70). -/
def gravimetricShare (l : Load) : Nat := if l.d = 0 then 0 else l.gravimetric * 1000 / l.d

/-! ### The gravimetric quantum and its division -/

/-- The quantum's numerator F × W_us + carry (R57). -/
def quantumNumerator (w : Params) (f carry : Nat) : Nat := f * windowUs w + carry

/-- The sum of the three indicated masses: the masses that are not participants are 0 (R58). -/
def totalMass (m : PerSpout Nat) : Nat := m.a + m.b + m.c

/-- The truncated share of a spout (R58). -/
def shareOf (e : Nat) (m : PerSpout Nat) (i : Spout) : Nat := e * m.get i / totalMass m

/-- The participant with the largest mass, the first of them in the order A, B, C (R59). -/
def largest (m : PerSpout Nat) : Spout :=
  if m.b ≤ m.a ∧ m.c ≤ m.a then .A else if m.c ≤ m.b then .B else .C

/-- The credits of a gravimetric window with a participant: the truncated shares, the whole remainder going to the
participant with the largest mass (R58, R59). -/
def gravimetricCredits (e : Nat) (m : PerSpout Nat) : PerSpout Nat :=
  let shares := PerSpout.of (shareOf e m)
  let remainder := e - (shares.a + shares.b + shares.c)
  shares.set (largest m) (shares.get (largest m) + remainder)

/-! ### Crediting a close -/

/-- The credit named for a spout's load, if its slot holds one (R61). -/
def creditFor (s : State) (credits : PerSpout Nat) (i : Spout) : Option Credit :=
  (loadOf s i).map fun l => { load := l.number, grams := credits.get i }

/-- The window report handed to the LM (R62). A report that names no load changes nothing and is not kept (log 16). -/
def oauReport (gravimetric : Bool) (credits : PerSpout Nat) (s : State) : State :=
  let r : WindowReport := { gravimetric := gravimetric, credits := PerSpout.of (creditFor s credits) }
  if r.credits = .all none then s else s.withOau { s.oau with reports := s.oau.reports ++ [r] }

/-- The open parts give up the closed window's masses and the pending parts take them (R66). -/
def oauParts (m : PerSpout Nat) (s : State) : State :=
  s.withOau { s.oau with
    openPart := PerSpout.of fun i => s.oau.openPart.get i - m.get i,
    pending := PerSpout.of fun i => (loadOf s i).map fun l => { mass := m.get i, load := l.number } }

/-- What a gravimetric close credits to the unassigned account: all of E without a participant, else the credits of the
spouts whose slot is empty (R59, R61, R71). -/
def unassignedOf (s : State) (e : Nat) (m : PerSpout Nat) (credits : PerSpout Nat) : Nat :=
  if totalMass m = 0 then e
  else (Spout.all.map fun i => if (loadOf s i).isNone then credits.get i else 0).sum

/-- A gravimetric close: the quantum, its division, the report and the unassigned account (R57 to R62). -/
def oauGravimetric (f : Nat) (m : PerSpout Nat) (s : State) : State :=
  let numerator := quantumNumerator (working s) f s.oau.carry
  let e := numerator / 1000000
  let credits := if totalMass m = 0 then .all 0 else gravimetricCredits e m
  let s := s.withOau { s.oau with carry := numerator % 1000000 }
  let s := addUnassigned (unassignedOf s e m credits) s
  oauParts m (oauReport true credits s)

/-- A volumetric close: each occupied slot is credited its m (R61). -/
def oauVolumetric (m : PerSpout Nat) (s : State) : State := oauParts m (oauReport false m s)

/-- An entry is CLEAN when it is VALID, not REFILL and not DISTURBED (chapter 2). -/
def Entry.clean (e : Entry) : Bool := e.valid && !e.refill && !e.disturbed

/-- A close handed on by the BMU, with its entry, the mode after it and F after it (R55, R56). -/
def oauClose (e : Entry) (mode : Mode) (f : Nat) (s : State) : State :=
  let s := oauModeReport mode s
  if e.clean ∧ mode = .gravimetric then oauGravimetric f e.m s else oauVolumetric e.m s

/-! ### The application of a window report -/

/-- Whether a later report still waiting names the same load of the spout; its pending part is then that report's. -/
def namedLater (rest : List WindowReport) (i : Spout) (n : Nat) : Bool :=
  rest.any fun r => match r.credits.get i with
    | some c => decide (c.load = n)
    | none => false

/-- The application reported to the OAU: the pending part the report covered becomes absent (R67, log 16). -/
def oauApplied (r : WindowReport) (rest : List WindowReport) (i : Spout) (s : State) : State :=
  match r.credits.get i, s.oau.pending.get i with
  | some c, some p =>
    if p.load = c.load ∧ namedLater rest i c.load = false
    then s.withOau { s.oau with pending := s.oau.pending.set i none } else s
  | _, _ => s

/-- The end of a load reported to the OAU: a pending part that names it becomes absent (R67). -/
def oauLoadEnded (i : Spout) (n : Nat) (s : State) : State :=
  match s.oau.pending.get i with
  | some p => if p.load = n then s.withOau { s.oau with pending := s.oau.pending.set i none } else s
  | none => s

end Sys2Proof.Machine
end

