-- ==== Sys2Proof/Machine/Bmu.lean ====
section
/-! DEFINITION. Bin weighing (chapter 2): bin mass, the window, the history ring, the mode and the rate F. -/

namespace Sys2Proof.Machine

/-- A change of mode, reported to the OAU (R34, R56); the SSU judges its demands afresh in `settle` (R46). -/
def bmuSetMode (m : Mode) (s : State) : State :=
  oauModeReport m (s.withBmu { s.bmu with mode := m })

/-- The window in progress given up or completed: no position filled, accumulators zero, marks clear (R21, R27). -/
def clearWindow (b : Bmu) : Bmu :=
  { b with position := 0, massSum := 0, goodCount := 0, rawSum := 0, refillMark := false, disturbedMark := false,
           zero := { b.zero with skipWindow := false } }

/-- Emptying the history (R27). F is kept. -/
def bmuEmptyHistory (s : State) : State :=
  let s := s.withBmu { clearWindow s.bmu with ring := [], cleanRun := 0, previous := none }
  match s.bmu.mode with
  | .gravimetric => bmuSetMode .unready s
  | .settling => bmuSetMode .unready s
  | _ => s

/-- The BSC opens the refill command (R31, R23). -/
def bmuRefillOpened (s : State) : State :=
  let s := s.withBmu { s.bmu with refillMark := true }
  match s.bmu.mode with
  | .unready => bmuSetMode .refilling s
  | .gravimetric => bmuSetMode .refilling s
  | .settling => bmuSetMode .refilling s
  | _ => s

/-- The BSC closes the refill command (R31). -/
def bmuRefillClosed (s : State) : State :=
  match s.bmu.mode with
  | .refilling => bmuSetMode .settling s
  | _ => s

/-- A gap of more than three lost frames marks the window in progress (R11, R24); in BLIND there is none. -/
def bmuMarkDisturbed (s : State) : State :=
  match s.bmu.mode with
  | .blind => s
  | _ => s.withBmu { s.bmu with disturbedMark := true }

/-! ### Frame bin mass and the window -/

/-- (raw − BIN_ZERO) × BIN_SPAN / 256 (R19). -/
def frameBinMass (w : Params) (raw : Int) : Int := ((raw - w.binZero) * w.binSpan).tdiv 256

/-- BIN_CAPACITY_G + BIN_CAPACITY_G / 10 (R20). -/
def capacityLimit (w : Params) : Nat := w.binCapacityG + w.binCapacityG / 10

/-- The position's sample joins the accumulators when its mass passes the capacity test (R19, R20, R21). -/
def addBinSample (w : Params) (mark : Mark) (b : Bmu) : Bmu :=
  match mark with
  | .good raw =>
    if frameBinMass w raw ≤ capacityLimit w then
      { b with massSum := b.massSum + frameBinMass w raw, goodCount := b.goodCount + 1, rawSum := b.rawSum + raw }
    else b
  | _ => b

/-- One frame position outside BLIND fills the next place of the window (R21, R23, R36). -/
def countPosition (w : Params) (refill : Bool) (mark : Mark) (b : Bmu) : Bmu :=
  let b := { b with
    refillMark := b.refillMark || refill,
    zero := { b.zero with skipWindow := b.zero.skipWindow && decide (b.position ≠ 0) } }
  let b := addBinSample w mark b
  { b with position := b.position + 1 }

/-! ### The close -/

/-- The window mean (R22). -/
def windowMean (b : Bmu) : Int := if b.goodCount = 0 then 0 else b.massSum.tdiv b.goodCount

/-- VALID: six or more good bin samples (R22). -/
def windowValid (b : Bmu) : Bool := decide (6 ≤ b.goodCount)

/-- The disturbance check against the previous CLEAN entry (R24). -/
def disturbanceCheck (w : Params) (b : Bmu) : Bool :=
  match b.previous, b.ring.getLast? with
  | some (.gravimetric, fPrev), some last =>
    windowValid b &&
      decide (w.disturbG < (windowMean b - (last.mean - ((fPrev * windowUs w / 1000000 : Nat) : Int))).natAbs)
  | _, _ => false

/-- The entry of the closing window (R22 to R25). -/
def closingEntry (w : Params) (b : Bmu) (m : PerSpout Nat) (flowing : PerSpout Bool) : Entry where
  mean := windowMean b
  valid := windowValid b
  refill := b.refillMark
  disturbed := b.disturbedMark || disturbanceCheck w b
  flowing := flowing
  m := m

/-- The entry appended as the newest; of 32 the oldest leaves (R25). -/
def appendEntry (ring : List Entry) (e : Entry) : List Entry :=
  (if 32 ≤ ring.length then ring.tail else ring) ++ [e]

/-- The clean-run count after an entry (R26). -/
def cleanRunAfter (run : Nat) (e : Entry) : Nat := if e.clean then satAdd 255 run 1 else 0

/-- The mode test of a close (R30). -/
def modeTest (w : Params) (mode : Mode) (e : Entry) (run : Nat) : Mode :=
  match mode with
  | .unready => if w.rateSpan ≤ run then .gravimetric else .unready
  | .gravimetric => if e.disturbed || !e.valid then .settling else .gravimetric
  | .settling => if max w.settleWindows w.rateSpan ≤ run then .gravimetric else .settling
  | m => m

/-- The newest `n` entries, oldest first. -/
def newest (n : Nat) (ring : List Entry) : List Entry := ring.drop (ring.length - n)

def sumMeans (es : List Entry) : Int := (es.map Entry.mean).sum

/-- F from the newest S entries (R32). -/
def outflowRate (w : Params) (ring : List Entry) : Nat :=
  let span := newest w.rateSpan ring
  let fRaw := ((sumMeans (span.take 4) - sumMeans (newest 4 span)) * 250000).tdiv
    (((w.rateSpan - 4) * windowUs w : Nat) : Int)
  (clamp 0 400000 fRaw).toNat

/-- The BMU's own part of a close: entry, ring, clean run, mode, F, previous-close record, and a fresh window (R25). The
zero operation's accumulators are not touched here. -/
def bmuCloseWindow (w : Params) (m : PerSpout Nat) (flowing : PerSpout Bool) (b : Bmu) : Bmu :=
  let e := closingEntry w b m flowing
  let ring := appendEntry b.ring e
  let run := cleanRunAfter b.cleanRun e
  let mode := modeTest w b.mode e run
  let f := if mode = .gravimetric then outflowRate w ring else b.f
  { clearWindow b with ring := ring, cleanRun := run, mode := mode, f := f, previous := some (mode, f) }

/-- The mean of the newest VALID entry, if the ring holds one (R155, R176). -/
def newestValidMean (ring : List Entry) : Option Int := (ring.reverse.find? Entry.valid).map Entry.mean

end Sys2Proof.Machine
end

