-- ==== Sys2Proof/Machine/Bsc.lean ====
section
/-! DEFINITION. The Bin Supply Controller's valve (chapter 9), the dribble set, its records of BLIND and ZERO BIN, and the
BMU's entry to and exit from BLIND, which the BSC takes within the same event. -/

namespace Sys2Proof.Machine

/-! ### The valve -/

/-- The BSC opens the valve (R158). -/
def openValve (s : State) : State :=
  let s := s.withBsc { s.bsc with state := .opened, deferralTimer := none, refillTimer := some 0 }
  bmuRefillOpened (setRefillCommand s true)

/-- The BSC closes the valve, going to `next`, and reports the closing to the BMU (R160, R161). -/
def closeValve (next : RefillState) (s : State) : State :=
  let s := s.withBsc { s.bsc with state := next, refillTimer := none }
  bmuRefillClosed (setRefillCommand s false)

/-! ### The dribble set (R156) -/

def dribbleEntered (i : Spout) (s : State) : State :=
  s.withBsc { s.bsc with dribbleSet := s.bsc.dribbleSet.set i true }

/-- A departure that empties the set while the state is DEFERRED opens the valve within the event (R156, R159). -/
def dribbleLeft (i : Spout) (s : State) : State :=
  let s := s.withBsc { s.bsc with dribbleSet := s.bsc.dribbleSet.set i false }
  if s.bsc.dribbleSet = .all false ∧ s.bsc.state = .deferred then openValve s else s

/-! ### BLIND and ZERO BIN (R162) -/

/-- The BMU reports that it has entered BLIND (R162, R28). -/
def bscBlindEntered (s : State) : State :=
  let s := s.withBsc { s.bsc with blindRecord := true }
  match s.bsc.state with
  | .opened => closeValve .suspended s
  | .deferred => s.withBsc { s.bsc with deferralTimer := none, state := .suspended }
  | .idle => s.withBsc { s.bsc with state := .suspended }
  | _ => s

/-- SUSPENDED ends when both records are clear (R162). -/
def leaveSuspended (s : State) : State :=
  if s.bsc.state = .suspended ∧ s.bsc.blindRecord = false ∧ s.bsc.zeroRecord = false
  then s.withBsc { s.bsc with state := .idle } else s

def bscBlindLeft (s : State) : State := leaveSuspended (s.withBsc { s.bsc with blindRecord := false })

/-- The BMU reports that ZERO BIN has been accepted (R162). -/
def bscZeroStarted (s : State) : State :=
  let s := s.withBsc { s.bsc with zeroRecord := true }
  if s.bsc.state = .idle then s.withBsc { s.bsc with state := .suspended } else s

def bscZeroEnded (s : State) : State := leaveSuspended (s.withBsc { s.bsc with zeroRecord := false })

/-- A running zero is aborted (R37). -/
def abortZero (s : State) : State :=
  if s.bmu.zero.state = .running
  then bscZeroEnded (s.withBmu { s.bmu with zero := { ZeroOp.idle with state := .aborted } }) else s

/-- The BMU enters BLIND from any other mode (R28): the history is emptied, a running zero is aborted, the BSC closes the
refill, and the SSU has the entry reported. If the mode is already BLIND nothing changes. -/
def enterBlind (s : State) : State :=
  if s.bmu.mode = .blind then s
  else
    let s := s.withBmu { s.bmu with blindEntered := true }
    bscBlindEntered (abortZero (bmuEmptyHistory (bmuSetMode .blind s)))

/-- In BLIND, the bin channel has become FRESH (R29). -/
def leaveBlind (s : State) : State :=
  if s.bmu.mode = .blind ∧ s.sli.bin.state = .fresh then bscBlindLeft (bmuSetMode .unready s) else s

end Sys2Proof.Machine
end

