-- ==== Sys2Proof/Machine/Gc.lean ====
section
/-! DEFINITION. The budget's allocations (chapter 5) and the Gate Controllers' own operations (chapter 6): opening on a
grant, closing, the pending grant, entry to FAULT and the window step. -/

namespace Sys2Proof.Machine

/-! ### Allocations and queue places -/

/-- The effective budget: BUDGET while neither supply condition is present, 0 while either is (R74). -/
def effectiveBudget (w : Params) (aerationLow starved : Bool) : Nat :=
  if aerationLow || starved then 0 else w.budget

/-- A spout's granted rate, 0 when its allocation is absent. -/
def rateOf (d : Dba) (i : Spout) : Nat :=
  match d.allocation.get i with
  | some a => a.rate
  | none => 0

/-- The sum of granted allocations (R75). -/
def grantedSum (d : Dba) : Nat := rateOf d .A + rateOf d .B + rateOf d .C

/-- A release: the spout's allocation, if present, becomes absent (R80). The queue is examined in `settle`. -/
def dbaRelease (i : Spout) (s : State) : State :=
  s.withDba { s.dba with allocation := s.dba.allocation.set i none }

/-- A removal: the spout's queue place and its allocation go (R81). The queue is examined in `settle`. -/
def dbaRemoval (i : Spout) (s : State) : State :=
  s.withDba { s.dba with
    allocation := s.dba.allocation.set i none,
    queue := s.dba.queue.filter fun q => decide (q.spout ≠ i) }

/-! ### Gate modes -/

/-- OPENING, REGULATING and DRIBBLE (chapter 6). -/
def GateMode.discharging : GateMode → Bool
  | .opening | .regulating | .dribble => true
  | _ => false

/-- The GC changes its command position and sets the outbound command within the event (R89). -/
def setCommand (i : Spout) (c : Nat) (s : State) : State :=
  setGateCommand (setGate s i { gateOf s i with command := c }) i c

/-- The remaining mass of a load: its effective target minus its provisional delivered mass (R90). -/
def remaining (s : State) (i : Spout) (l : Load) : Int := (l.target : Int) - provisional s i l

/-- A grant taken in CLOSED: to OPENING at START_POS, or to DRIBBLE at DRIBBLE_POS (R90). -/
def gateOpen (i : Spout) (s : State) : State :=
  match loadOf s i with
  | none => s
  | some l =>
    let s := setGate s i { gateOf s i with flowSum := 0, flowCount := 0 }
    if ((working s).dribbleMassG : Int) < remaining s i l
    then setCommand i (working s).startPos (setGate s i { gateOf s i with mode := .opening })
    else dribbleEntered i (setCommand i (working s).dribblePos (setGate s i { gateOf s i with mode := .dribble }))

/-- A grant reaches the gate: taken in CLOSED, kept pending in CLOSING (R90, R91). In FAULT the gate takes none (R106). -/
def gateTakeGrant (i : Spout) (a : Allocation) (s : State) : State :=
  match (gateOf s i).mode with
  | .closed => gateOpen i s
  | .closing => setGate s i { gateOf s i with pendingGrant := some a }
  | _ => s

/-- The gate has left DRIBBLE if it was in it: the report to the BSC (R156). -/
def leftDribble (i : Spout) (was : GateMode) (s : State) : State :=
  if was = .dribble then dribbleLeft i s else s

/-- A discharging gate enters CLOSING: command 0, close timer from zero, the DBA and the BSC told (R99, R102). DESIGN CHOICE
(log 36): the BSC has the departure from DRIBBLE before the DBA's examination can grant another spout into DRIBBLE, so a
deferred valve opens, where R156 and R190 do not order the two reports. -/
def gateToClosing (i : Spout) (s : State) : State :=
  let was := (gateOf s i).mode
  let s := setGate s i { gateOf s i with mode := .closing, closeTimer := some 0 }
  leftDribble i was (dbaRelease i (setCommand i 0 s))

/-- A pending grant, if present, is dropped and the DBA told (R91). -/
def dropPending (i : Spout) (s : State) : State :=
  if (gateOf s i).pendingGrant.isSome
  then dbaRelease i (setGate s i { gateOf s i with pendingGrant := none }) else s

/-- A plain close (R101, R102). -/
def plainClose (i : Spout) (s : State) : State :=
  if (gateOf s i).mode.discharging then gateToClosing i s
  else if (gateOf s i).mode = .closing then dropPending i s
  else s

/-- A tail begins (R107). -/
def beginTail (i : Spout) (kind : TailKind) (spoiled : Bool) (s : State) : State :=
  setGate s i { gateOf s i with tail := some { kind := kind, timer := 0, lowCount := 0, spoiled := spoiled } }

/-- A close with tail (R102). -/
def closeWithTail (i : Spout) (s : State) : State :=
  if (gateOf s i).mode.discharging then beginTail i .finished false (gateToClosing i s)
  else if (gateOf s i).mode = .closing ∧ (gateOf s i).pendingGrant.isSome
    then beginTail i .finished false (dropPending i s)
  else s

/-- Good feedback in CLOSING at or below 20 per-mille closes the gate, and a pending grant is then taken (R103, R91). -/
def gateFeedback (i : Spout) (m : Mark) (s : State) : State :=
  match m with
  | .good v =>
    if (gateOf s i).mode = .closing ∧ v ≤ 20 then
      let pending := (gateOf s i).pendingGrant
      let s := setGate s i { gateOf s i with mode := .closed, closeTimer := none, pendingGrant := none }
      if pending.isSome then gateOpen i s else s
    else s
  | _ => s

/-- The GC's part of entering FAULT (R106). -/
def gateToFault (i : Spout) (s : State) : State :=
  let g := gateOf s i
  let s := setGate s i { g with
    mode := .fault, closeTimer := none, pendingGrant := none, flowSum := 0, flowCount := 0 }
  let s := setCommand i 0 s
  let s := if g.mode.discharging || g.pendingGrant.isSome then dbaRelease i s else s
  leftDribble i g.mode s

/-- The tail state and the cutoff record cleared (R109, R110). -/
def clearTail (i : Spout) (s : State) : State :=
  setGate s i { gateOf s i with tail := none, cutoff := none }

/-- The end of the spout's load by another cause than a tail end, reported to the GC (R110). -/
def gateLoadEnded (i : Spout) (s : State) : State := dropPending i (clearTail i s)

/-! ### The window step (R92 to R96) -/

/-- A window step in OPENING (R93). -/
def openingStep (w : Params) (allocation mean : Nat) (counted : Bool) (g : Gate) : Gate :=
  if counted ∧ allocation ≤ mean then { g with mode := .regulating }
  else
    let c := min 1000 (g.command + w.gearStep)
    { g with command := c, mode := if c = 1000 then .regulating else .opening }

/-- The correction of a window step in REGULATING, limited to the gear step (R94). -/
def regulationDelta (w : Params) (allocation mean : Nat) : Int :=
  clamp (-(w.gearStep : Int)) w.gearStep ((((allocation : Int) - mean) * w.kp).tdiv 1000)

/-- A window step in REGULATING with a position counted (R94). -/
def regulatingStep (w : Params) (allocation mean : Nat) (counted : Bool) (g : Gate) : Gate :=
  if counted then { g with command := (clamp 50 1000 (g.command + regulationDelta w allocation mean)).toNat } else g

/-- A window step in DRIBBLE (R96). -/
def dribbleStep (w : Params) (g : Gate) : Gate :=
  if w.dribblePos < g.command then { g with command := max w.dribblePos (g.command - w.gearStep) } else g

/-- What a window step does to a gate, its accumulator then zero (R92). -/
def steppedGate (w : Params) (allocation : Nat) (g : Gate) : Gate :=
  let mean := g.flowSum / g.flowCount
  let counted := decide (g.flowCount ≠ 0)
  let g := { g with flowSum := 0, flowCount := 0 }
  match g.mode with
  | .opening => openingStep w allocation mean counted g
  | .regulating => regulatingStep w allocation mean counted g
  | .dribble => dribbleStep w g
  | _ => g

/-- A window step of spout `i`'s gate (R92), the outbound command set with the command (R89). -/
def windowStep (i : Spout) (s : State) : State :=
  let g := steppedGate (working s) (rateOf s.dba i) (gateOf s i)
  setCommand i g.command (setGate s i g)

end Sys2Proof.Machine
end

