-- ==== Sys2Proof/Machine/Lm.lean ====
section
/-! DEFINITION. The Load Manager's holds and releases (chapter 7), the DBA's queue and grants (chapter 5), the SSU's hold
demand (chapter 3), and `settle`, which lets the reports these blocks make to one another run to their end within one
event. -/

namespace Sys2Proof.Machine

/-! ### Hold cause sets -/

def Causes.none : Causes := ⟨false, false, false, false, false, false, false⟩

def Causes.has (x : Causes) : Cause → Bool
  | .bay => x.bay
  | .interlock => x.interlock
  | .link => x.link
  | .aeration => x.aeration
  | .starve => x.starve
  | .sensor => x.sensor
  | .sense => x.sense

def Causes.put (x : Causes) (c : Cause) (v : Bool) : Causes :=
  match c with
  | .bay => { x with bay := v }
  | .interlock => { x with interlock := v }
  | .link => { x with link := v }
  | .aeration => { x with aeration := v }
  | .starve => { x with starve := v }
  | .sensor => { x with sensor := v }
  | .sense => { x with sense := v }

/-- Causes added, each at most once (R122). -/
def Causes.add (x : Causes) (cs : List Cause) : Causes := cs.foldl (fun y c => y.put c true) x

/-! ### Holding and releasing one load -/

/-- Hold causes added to the load of a spout: recorded in WAITING, DISCHARGING and HELD; a WAITING load gives up its
queue place, a DISCHARGING one gets a plain close (R122). -/
def lmHold (cs : List Cause) (i : Spout) (s : State) : State :=
  if cs = [] then s else
  match loadOf s i with
  | none => s
  | some l =>
    let held := { l with state := .held, causes := l.causes.add cs }
    match l.state with
    | .waiting => dbaRemoval i (setLoad s i (some held))
    | .discharging => plainClose i (setLoad s i (some held))
    | .held => setLoad s i (some held)
    | _ => s

/-- The supply conditions in force at the DBA, as hold causes (R76, R82). -/
def supplyCauses (d : Dba) : List Cause :=
  (if d.aerationLow then [.aeration] else []) ++ (if d.starved then [.starve] else [])

/-- Whether a spout holds an allocation or a queue place. -/
def holdsClaim (d : Dba) (i : Spout) : Bool :=
  (d.allocation.get i).isSome || d.queue.any fun q => decide (q.spout = i)

/-- The LM's request for a spout (R76): nothing for a spout that has a claim; reported back as revoked while a supply
condition is present; otherwise a place at the tail of the queue. -/
def dbaRequest (i : Spout) (l : Load) (s : State) : State :=
  if holdsClaim s.dba i then s
  else if s.dba.aerationLow || s.dba.starved then lmHold (supplyCauses s.dba) i s
  else s.withDba { s.dba with queue := s.dba.queue ++ [{ spout := i, load := l.number, rate := l.rate }] }

/-- A load enters WAITING and asks the DBA (R121). -/
def enterWaiting (i : Spout) (s : State) : State :=
  match loadOf s i with
  | none => s
  | some l =>
    let l := { l with state := .waiting }
    dbaRequest i l (setLoad s i (some l))

/-- A cause that has ended leaves the set of a HELD load, which enters WAITING if its set is then empty (R125). -/
def lmLift (c : Cause) (i : Spout) (s : State) : State :=
  match loadOf s i with
  | none => s
  | some l =>
    if l.state = .held ∧ l.causes.has c = true then
      let l := { l with causes := l.causes.put c false }
      let s := setLoad s i (some l)
      if l.causes = .none then enterWaiting i s else s
    else s

/-! ### Granting (R78, R79) -/

/-- The allocation formed for a queue head: its effective rate, or BUDGET when that is lower (R78). -/
def headRate (w : Params) (q : QueuePlace) : Nat := min q.rate w.budget

/-- Whether the head is granted: its allocation is above 0 and fits the room (R75, R78). -/
def headFits (s : State) (q : QueuePlace) : Bool :=
  decide (0 < headRate (working s) q) &&
    decide (grantedSum s.dba + headRate (working s) q ≤ s.dba.effectiveBudget)

/-- The LM takes the granted load from WAITING to DISCHARGING, and the Gate Controller takes the grant; a grant that
names another load does not reach it (R78, R116). -/
def grantTaken (q : QueuePlace) (a : Allocation) (s : State) : State :=
  match loadOf s q.spout with
  | none => s
  | some l =>
    if l.number = q.load ∧ l.state = .waiting
    then gateTakeGrant q.spout a (setLoad s q.spout (some { l with state := .discharging })) else s

/-- The head is granted and leaves the queue (R78). -/
def grant (q : QueuePlace) (rest : List QueuePlace) (s : State) : State :=
  let a : Allocation := { load := q.load, rate := headRate (working s) q }
  grantTaken q a (s.withDba { s.dba with allocation := s.dba.allocation.set q.spout (some a), queue := rest })

/-- An examination from the head on: it stops at the first head that does not fit (R78, R79). -/
def examineFrom : List QueuePlace → State → State
  | [], s => s
  | q :: rest, s => if headFits s q then examineFrom rest (grant q rest s) else s

def examine (s : State) : State := examineFrom s.dba.queue s

/-! ### The sensor hold demand (R41, R45, R46) -/

/-- A spout's load is DISCHARGING or TAILING. -/
def drawing (s : State) (i : Spout) : Bool :=
  match loadOf s i with
  | some l => decide (l.state = .discharging) || decide (l.state = .tailing)
  | none => false

/-- The spout's load is DISCHARGING or TAILING and no other spout's is. -/
def drawingAlone (s : State) (i : Spout) : Bool :=
  drawing s i && Spout.all.all fun j => decide (j = i) || !drawing s j

/-- The five conditions of BIN-SOLO substitution (R41). -/
def substitutionHolds (s : State) (i : Spout) : Bool :=
  decide ((working s).sensorPolicy = .binSolo) && sensorCondition s i &&
    decide (s.bmu.mode = .gravimetric) && drawingAlone s i

/-- The sensor hold demand as its inputs stand (R45). -/
def demandOf (s : State) (i : Spout) : Bool := sensorCondition s i && !substitutionHolds s i

/-- The demand as the SSU last reported it. -/
def demands (s : State) : PerSpout Bool := PerSpout.of fun i => (sensorOf s i).demand

/-- The SSU's and the LM's record of the demands (R46, R124). -/
def recordDemands (d : PerSpout Bool) (s : State) : State :=
  let s := s.withSsu (PerSpout.of fun i => { sensorOf s i with demand := d.get i })
  s.withLm { s.lm with demand := d }

/-- A change of one spout's demand taken by the LM: SENSOR added on its beginning, lifted on its end (R124, R125). -/
def demandChanged (before after : PerSpout Bool) (i : Spout) (s : State) : State :=
  if after.get i = true ∧ before.get i = false then lmHold [.sensor] i s
  else if after.get i = false ∧ before.get i = true then lmLift .sensor i s
  else s

/-- The SSU judges every spout's demand afresh and reports the changes to the LM (R46). -/
def rejudge (s : State) : State :=
  let before := demands s
  let after := PerSpout.of (demandOf s)
  eachSpout (demandChanged before after) (recordDemands after s)

/-- The examinations of the queue and the fresh judgements of the demands that an event brings about, until neither
changes anything. Both act on the state they find, so what one round would leave the next event takes up (log 5). -/
def settleFor : Nat → State → State
  | 0, s => s
  | n + 1, s =>
    let s := examine s
    if PerSpout.of (demandOf s) = demands s then s else settleFor n (rejudge s)

/-- The reports of one event run to their end (R46, R78, R121). -/
def settle (s : State) : State := settleFor 16 s

/-! ### Conditions of the whole bin (R124, R125) -/

/-- The LM takes a report that aeration has been lost or restored. -/
def lmAeration (low : Bool) (s : State) : State :=
  let s := s.withLm { s.lm with aerationLow := low }
  if low then eachSpout (lmHold [.aeration]) s else eachSpout (lmLift .aeration) s

/-- The LM takes a report that starvation has begun or ended. -/
def lmStarve (on : Bool) (s : State) : State :=
  let s := s.withLm { s.lm with starved := on }
  if on then eachSpout (lmHold [.starve]) s else eachSpout (lmLift .starve) s

/-- The LM takes a report that the link has entered SEEKING or LOCKED. -/
def lmSense (seeking : Bool) (s : State) : State :=
  let s := s.withLm { s.lm with seeking := seeking }
  if seeking then eachSpout (lmHold [.sense]) s else eachSpout (lmLift .sense) s

/-- The LM takes a rise of the DBA's effective budget (R125). -/
def lmBudgetRise (s : State) : State :=
  let s := if s.lm.aerationLow then s else eachSpout (lmLift .aeration) s
  if s.lm.starved then s else eachSpout (lmLift .starve) s

/-- A revocation: every allocation absent, the queue emptied, and the named loads held (R82). -/
def revoke (s : State) : State :=
  let named := PerSpout.of (holdsClaim s.dba)
  let causes := supplyCauses s.dba
  let s := s.withDba { s.dba with allocation := .all none, queue := [] }
  eachSpout (fun i s => if named.get i then lmHold causes i s else s) s

/-- The effective budget recomputed, its rise reported to the LM (R74, R86, R125). -/
def recomputeBudget (s : State) : State :=
  let before := s.dba.effectiveBudget
  let after := effectiveBudget (working s) s.dba.aerationLow s.dba.starved
  let s := s.withDba { s.dba with effectiveBudget := after }
  if before < after then lmBudgetRise s else s

/-- The DBA takes a supply report of the BSC (R74): it revokes when the budget falls from above 0 to 0 (R82). -/
def dbaSupply (aerationLow starved : Bool) (s : State) : State :=
  let before := s.dba.effectiveBudget
  let s := recomputeBudget (s.withDba { s.dba with aerationLow := aerationLow, starved := starved })
  if 0 < before ∧ s.dba.effectiveBudget = 0 then revoke s else s

/-- The BSC reports a change of the aeration line to the DBA and to the LM (R165, log 7). -/
def reportAeration (s : State) : State :=
  lmAeration (!s.bsc.aerationHigh) (dbaSupply (!s.bsc.aerationHigh) s.dba.starved s)

/-- The BSC reports the start or the end of starvation to the DBA and to the LM (R164, log 7). -/
def reportStarve (s : State) : State := lmStarve s.bsc.starved (dbaSupply s.dba.aerationLow s.bsc.starved s)

end Sys2Proof.Machine
end

