-- ==== Sys2Proof/Machine/Ots.lean ====
section
/-! DEFINITION. The Order and Ticket Store (chapter 8), the end of a load and the fault latch (chapter 7). -/

namespace Sys2Proof.Machine

/-! ### Orders -/

/-- The record with a reference (R140). -/
def findOrder (s : State) (r : Ref) : Option Order := s.ots.orders.find? fun o => decide (o.ref = r)

/-- The record with a reference changed. -/
def updateOrder (r : Ref) (f : Order → Order) (s : State) : State :=
  s.withOts { s.ots with orders := s.ots.orders.map fun o => if o.ref = r then f o else o }

/-- Ordered minus loaded minus reserved, signed (R1, chapter 8). -/
def available (o : Order) : Int := (o.ordered : Int) - o.loaded - o.reserved

/-- The effective target: the smallest of the request, the available mass and MAX_LOAD_G (R147). -/
def effectiveTarget (w : Params) (requested : Nat) (o : Order) : Int :=
  min (requested : Int) (min (available o) w.maxLoadG)

/-- The filling test of an order (R142). -/
def fillingTest (o : Order) : Order :=
  if o.state = .opened ∧ (o.ordered : Int) - o.tolerance ≤ o.loaded then { o with state := .filled } else o

/-- An order after a completion on it: D added, the target taken from the reserved mass, then the filling test (R148). -/
def completedOrder (l : Load) (o : Order) : Order :=
  fillingTest { o with loaded := o.loaded + l.d, reserved := o.reserved - l.target }

/-- The outcome of a ticket (R151). -/
def ticketOutcome (target d tolerance : Nat) : TicketOutcome :=
  if ((d : Int) - target).natAbs ≤ tolerance then .inTolerance
  else if target + tolerance < d then .over
  else .under

/-- The ticket of an ended load (R150, R151). -/
def ticketOf (number : Nat) (i : Spout) (l : Load) (tolerance : Nat) (cause : EndCause) : Ticket where
  number := number
  ref := l.order
  spout := i
  load := l.number
  target := l.target
  d := l.d
  share := gravimetricShare l
  outcome := ticketOutcome l.target l.d tolerance
  endCause := cause
  holdS := l.holdMs / 1000
  trips := l.trips
  drift := l.drift
  firstFault := l.firstFault

/-- The ticket appended at the tail under the next number (R150). -/
def appendTicket (i : Spout) (l : Load) (tolerance : Nat) (cause : EndCause) (s : State) : State :=
  s.withOts { s.ots with
    tickets := s.ots.tickets ++ [ticketOf s.ots.counter i l tolerance cause],
    counter := nextNumber s.ots.counter }

/-- The completion of a load (R148). An order that is not in the table, which no run reaches (R144), counts with
tolerance 0 (log 24). -/
def complete (i : Spout) (l : Load) (cause : EndCause) (s : State) : State :=
  let tolerance := match findOrder s l.order with
    | some o => o.tolerance
    | none => 0
  let s := updateOrder l.order (completedOrder l) s
  let s := if 0 < l.d then appendTicket i l tolerance cause s else s
  s.withOts { s.ots with placesHeld := s.ots.placesHeld - 1 }

/-! ### The end of a load -/

/-- The slot becomes empty and the port's link timer stops (R128, R133). -/
def emptySlot (i : Spout) (s : State) : State :=
  s.withLm { s.lm with slot := s.lm.slot.set i none, linkTimer := s.lm.linkTimer.set i none }

/-- The end of the load in a spout's slot, in the steps of R133; `settle` follows. -/
def endLoad (i : Spout) (cause : EndCause) (tailEnd : Bool) (s : State) : State :=
  match loadOf s i with
  | none => s
  | some l =>
    let s := if l.state = .waiting ∨ (s.dba.allocation.get i).isSome then dbaRemoval i s else s
    let s := if tailEnd then s else gateLoadEnded i s
    let s := oauLoadEnded i l.number s
    emptySlot i (complete i l cause s)

/-! ### Faults (R135, R136) -/

def latchOf (s : State) (i : Spout) : FaultLatch := s.lm.latch.get i

def setLatch (s : State) (i : Spout) (x : FaultLatch) : State :=
  s.withLm { s.lm with latch := s.lm.latch.set i x }

/-- A fault reported for a spout: the first since the last CLEAR FAULT is latched, a later one is counted (R136). -/
def latchFault (i : Spout) (kind : FaultKind) (s : State) : State :=
  let x := latchOf s i
  match x.fault with
  | some _ => setLatch s i { x with count := satAdd 255 x.count 1 }
  | none =>
    setLatch s i
      { fault := some { kind := kind, load := (loadOf s i).map Load.number, d := ((loadOf s i).map Load.d).getD 0 },
        count := 1 }

/-- The fault recorded as the load's first fault, if it has none (R135). -/
def Load.noteFault (l : Load) (kind : FaultKind) : Load := { l with firstFault := some (l.firstFault.getD kind) }

/-- A load in the slot takes the note of a fault. -/
def noteLoadFault (i : Spout) (f : Load → Load) (s : State) : State :=
  match loadOf s i with
  | some l => setLoad s i (some (f l))
  | none => s

/-- A gate fault: the gate enters FAULT (R106), the fault is latched, and the spout's load ends with SPOUT FAULT (R135). -/
def gateFault (i : Spout) (kind : FaultKind) (s : State) : State :=
  let s := latchFault i kind (gateToFault i s)
  settle (endLoad i .spoutFault false (noteLoadFault i (·.noteFault kind) s))

/-- A SENSOR DRIFT report: latched, and the running load is marked (R50, R135). -/
def sensorDrift (i : Spout) (s : State) : State :=
  noteLoadFault i (fun l => { l.noteFault .sensorDrift with drift := true }) (latchFault i .sensorDrift s)

/-! ### The end of a tail -/

/-- The tail time after a tail-learning step (R112). -/
def learnedTail (tau : Nat) (c : CutoffRecord) (d : Nat) : Nat :=
  let tailMass := ((d : Int) - c.dCut).toNat
  let observed := tailMass * 1000 / c.qCut
  (clamp 0 4000 ((tau : Int) + ((observed : Int) - tau).tdiv 4)).toNat

/-- Whether a tail is learned from (R111). -/
def tailLearns (t : Tail) (c : CutoffRecord) : Bool :=
  decide (t.kind = .cutoff) && decide (5000 ≤ c.qCut) && !t.spoiled

/-- The tail-learning step considered at a tail's end, from the load's final D (R109, R111, R112). -/
def learnTail (i : Spout) (l : Load) (s : State) : State :=
  match (gateOf s i).tail, (gateOf s i).cutoff with
  | some t, some c =>
    if tailLearns t c then
      let w := working s
      setWorking s { w with tailMs := w.tailMs.set i (learnedTail (w.tailMs.get i) c l.d) }
    else s
  | _, _ => s

/-- A tail ends: learning, the tail and the cutoff record cleared, and the load ended with its recorded cause or CUTOFF
(R109, R131). -/
def tailEnds (i : Spout) (s : State) : State :=
  match loadOf s i with
  | none => clearTail i s
  | some l =>
    let s := clearTail i (learnTail i l s)
    settle (endLoad i (if l.finished then .finished else .cutoff) true s)

/-! ### Applying a window report (R132) -/

/-- A matching credit is added to D, and in a gravimetric window to the gravimetric-credited mass; both saturate at the
four-byte maximum (R1, R62, R132, log 9). -/
def Load.credited (l : Load) (gravimetric : Bool) (g : Nat) : Load :=
  { l with
    d := satAdd maxU32 l.d g,
    gravimetric := if gravimetric then satAdd maxU32 l.gravimetric g else l.gravimetric }

/-- One spout of a report: the credit is added to the load it names; if that load is gone a gravimetric credit is
returned to the unassigned account and a volumetric one dropped (R63, R71, R132). -/
def applyCredit (r : WindowReport) (i : Spout) (s : State) : State :=
  match r.credits.get i with
  | none => s
  | some c =>
    match loadOf s i with
    | some l =>
      if l.number = c.load then setLoad s i (some (l.credited r.gravimetric c.grams))
      else if r.gravimetric then addUnassigned c.grams s else s
    | none => if r.gravimetric then addUnassigned c.grams s else s

/-- The LM applies the oldest window report and tells the OAU (R67, R132). -/
def applyReport (s : State) : State :=
  match s.oau.reports with
  | [] => s
  | r :: rest =>
    let s := s.withOau { s.oau with reports := rest }
    eachSpout (oauApplied r rest) (eachSpout (applyCredit r) s)

end Sys2Proof.Machine
end

