-- ==== Sys2Proof/Machine/Position.lean ====
section
/-! DEFINITION. One frame position through the blocks (the frame path and the window path of chapter 0): the SSU's flows
and frame masses, the OAU's open parts, the Gate Controllers' checks and tails, and the window close with all it hands
on. -/

namespace Sys2Proof.Machine

/-- What a frame position hands on (R15). A missed position carries no samples (R10). -/
structure PositionIn where
  missed : Bool
  bin : Mark
  impact : PerSpout Mark
  feedback : PerSpout Mark
  deriving DecidableEq, Repr

/-- A missed position: every channel is marked "none" (R15). -/
def missedPosition : PositionIn :=
  { missed := true, bin := .nothing, impact := .all .nothing, feedback := .all .nothing }

/-! ### Spout Sensor Unit -/

/-- What the SSU hands on for a spout at a position (R42). -/
structure Flow where
  q : Nat
  effective : Nat
  grams : Nat
  substituted : Bool
  deriving DecidableEq, Repr

/-- max(0, sample − zero) × G / 65,536, clamped to 0..400,000 (R40). -/
def indicated (zero : Int) (gain : Nat) (sample : Int) : Nat :=
  min 400000 ((sample - zero).toNat * gain / 65536)

/-- The q of a position (R40): from the sample given, 0 where none is, the previous q on a missed position. -/
def positionQ (w : Params) (i : Spout) (p : PositionIn) (x : Sensor) : Nat :=
  if p.missed then x.lastQ
  else match (p.impact.get i).value? with
    | some v => indicated (w.spoutZero.get i) (w.spoutGain.get i) v
    | none => 0

/-- The feedback-open mark's test: marked "none" or above 20 per-mille, on a position that is not missed (R51). -/
def feedbackOpen (p : PositionIn) (i : Spout) : Bool :=
  !p.missed && match (p.feedback.get i).value? with
    | some v => decide (20 < v)
    | none => true

/-- The impact-gap mark's test (R51). -/
def impactGap (p : PositionIn) (i : Spout) : Bool := !p.missed && decide ((p.impact.get i).value? = none)

/-- The flows of a spout at a position (R40, R41, R42). -/
def flowOf (s : State) (p : PositionIn) (i : Spout) : Flow :=
  let x := sensorOf s i
  let q := positionQ (working s) i p x
  let subst := substitutionHolds s i
  let eff := if subst then s.bmu.f else q
  { q := q, effective := eff, substituted := subst,
    grams := (eff * (working s).framePeriodUs + x.carry) / 1000000 }

/-- A spout's sensor after a position (R40 to R43, R51). -/
def sensorAfter (s : State) (p : PositionIn) (i : Spout) : Sensor :=
  let x := sensorOf s i
  let fl := flowOf s p i
  { x with
    lastQ := fl.q
    substitution := fl.substituted
    carry := (fl.effective * (working s).framePeriodUs + x.carry) % 1000000
    massSum := x.massSum + fl.grams
    count := x.count + 1
    feedbackOpenMark := x.feedbackOpenMark || feedbackOpen p i
    impactGapMark := x.impactGapMark || impactGap p i
    substitutedMark := x.substitutedMark || fl.substituted }

/-- The SSU takes a position for every spout. -/
def ssuPosition (p : PositionIn) (s : State) : State := s.withSsu (PerSpout.of (sensorAfter s p))

/-- The window mean indicated rate m × 1,000,000 / (n × P) (R43). -/
def meanRate (w : Params) (x : Sensor) : Nat := x.massSum * 1000000 / (x.count * w.framePeriodUs)

/-- The indicated masses at a completion (R43). -/
def windowMasses (s : State) : PerSpout Nat := PerSpout.of fun i => (sensorOf s i).massSum

/-- The flowing set at a completion: LEAK_FLOW or more (R43). -/
def flowingSet (s : State) : PerSpout Bool :=
  PerSpout.of fun i => decide ((working s).leakFlow ≤ meanRate (working s) (sensorOf s i))

/-- The flowing set that is exactly one spout. -/
def only (i : Spout) : PerSpout Bool := (PerSpout.all false).set i true

/-- A solo window for a spout (R47). -/
def soloWindow (s : State) (i : Spout) : Bool :=
  decide (flowingSet s = only i) && decide ((sensorOf s i).count = 10) &&
    Spout.all.all fun j => !(sensorOf s j).substitutedMark

/-- The leak counts and the alarm after a judged window (R52). -/
def leakCounts (leak quiet : Bool) (x : Sensor) : Sensor :=
  if x.leakAlarm then
    let n := if quiet then x.leakClear + 1 else 0
    if 10 ≤ n then { x with leakAlarm := false, leakSet := 0, leakClear := 0 } else { x with leakClear := n }
  else
    let n := if leak then x.leakSet + 1 else 0
    if 10 ≤ n then { x with leakAlarm := true, leakSet := 0, leakClear := 0 } else { x with leakSet := n }

/-- The leak judgement of a completed window (R51). -/
def leakJudged (w : Params) (x : Sensor) : Sensor :=
  if x.impactGapMark then x
  else
    let flows := decide (w.leakFlow ≤ meanRate w x)
    leakCounts (!x.feedbackOpenMark && flows) (!flows) x

/-- A spout's sensor after a completion of the accumulators (R43, R47, R51, R52). -/
def sensorCompleted (s : State) (i : Spout) : Sensor :=
  let x := leakJudged (working s) (sensorOf s i)
  { x with
    solo := if soloWindow s i then satAdd 255 x.solo 1 else 0
    massSum := 0, count := 0, feedbackOpenMark := false, impactGapMark := false, substitutedMark := false }

/-- The SSU's accumulators completed for every spout (R43, R47, R51). -/
def ssuComplete (s : State) : State := s.withSsu (PerSpout.of (sensorCompleted s))

/-! ### Gain learning (R48 to R50) -/

/-- The newest S entries all have the flowing set {i} (R48). -/
def soloSpan (w : Params) (ring : List Entry) (i : Spout) : Bool :=
  decide (w.rateSpan ≤ ring.length) && (newest w.rateSpan ring).all fun e => decide (e.flowing = only i)

/-- The indicated span rate Q_ind (R49). -/
def spanRate (w : Params) (ring : List Entry) (i : Spout) : Nat :=
  ((newest w.rateSpan ring).map fun e => e.m.get i).sum * 1000000 / (w.rateSpan * windowUs w)

/-- The gain after a correction (R49). -/
def correctedGain (g f q : Nat) : Nat :=
  let limit : Int := ((g / 64 : Nat) : Int)
  let delta := clamp (-limit) limit (((g : Int) * ((f : Int) - q)).tdiv (16 * (q : Int)))
  (clamp 4096 262143 ((g : Int) + delta)).toNat

/-- The five conditions of a learning step at a close (R48). -/
def learnsAt (mode : Mode) (s : State) (i : Spout) : Bool :=
  (working s).learnEnable && decide (mode = .gravimetric) && soloSpan (working s) s.bmu.ring i &&
    decide ((working s).rateSpan ≤ (sensorOf s i).solo) && !(sensorOf s i).driftSuspended

/-- One spout's learning step at a close that carries `mode` and `f` (R48 to R50). -/
def learnGain (mode : Mode) (f : Nat) (i : Spout) (s : State) : State :=
  let w := working s
  let q := spanRate w s.bmu.ring i
  if learnsAt mode s i ∧ 20000 ≤ q then
    let ratio := f * 65536 / q
    let s := setSensor s i { sensorOf s i with solo := 0 }
    if 32768 ≤ ratio ∧ ratio ≤ 131072 then
      setWorking s { w with spoutGain := w.spoutGain.set i (correctedGain (w.spoutGain.get i) f q) }
    else
      sensorDrift i (setSensor s i { sensorOf s i with driftSuspended := true })
  else s

/-! ### Gate Controllers -/

/-- One position of a tail (R107, R108). -/
def tailPosition (i : Spout) (t : Tail) (fl : Flow) (s : State) : State :=
  let t := { t with
    lowCount := if fl.q < (working s).tailEndFlow then t.lowCount + 1 else 0
    spoiled := t.spoiled || fl.substituted }
  let s := setGate s i { gateOf s i with tail := some t }
  if 5 ≤ t.lowCount then tailEnds i s else s

/-- The cutoff projection (R97). -/
def projection (s : State) (i : Spout) (l : Load) (fl : Flow) : Int :=
  provisional s i l + ((fl.effective * (working s).tailMs.get i / 1000 : Nat) : Int)

/-- A cutoff (R99, R131): the gate closes, the cutoff record is stored and copied into the slot, a CUTOFF tail begins, and
the load goes to TAILING. DESIGN CHOICE (log 36): the BSC has the gate's departure from DRIBBLE before the queue is examined
in `settle`, an order that R190 leaves open. -/
def cutOff (i : Spout) (l : Load) (fl : Flow) (s : State) : State :=
  let c : CutoffRecord :=
    { dCut := provisional s i l, qCut := fl.effective, load := l.number, substituted := fl.substituted }
  let s := gateToClosing i s
  let s := setGate s i { gateOf s i with cutoff := some c }
  let s := beginTail i .cutoff fl.substituted s
  settle (setLoad s i (some { l with state := .tailing, cutoff := some c }))

/-- The dribble test of a position that does not cut off (R95). -/
def dribbleTest (i : Spout) (l : Load) (s : State) : State :=
  if ((gateOf s i).mode = .opening ∨ (gateOf s i).mode = .regulating) ∧
      remaining s i l ≤ ((working s).dribbleMassG : Int)
  then dribbleEntered i (setGate s i { gateOf s i with mode := .dribble }) else s

/-- The cutoff check of a position in a discharging mode (R98). -/
def cutoffCheck (i : Spout) (fl : Flow) (s : State) : State :=
  match loadOf s i with
  | none => s
  | some l => if (l.target : Int) ≤ projection s i l fl then cutOff i l fl s else dribbleTest i l s

/-- In BLIND a window step is taken at the first position at which ten or more are counted (R92). -/
def blindStep (i : Spout) (s : State) : State :=
  if s.bmu.mode = .blind ∧ 10 ≤ (gateOf s i).flowCount then windowStep i s else s

/-- A spout's Gate Controller takes the flows of a position (R92, R98, R107). DESIGN CHOICE (log 28): a window step that
BLIND takes on the position itself comes after the position's own cutoff check, dribble test or tail, an order that R92 and
R96 leave open. DESIGN CHOICE (log 35): the three spouts are taken in the order A, B, C, so of two loads that end on one
position the first of that order has the lower ticket number, where R150 leaves either order. -/
def gateFlows (fl : PerSpout Flow) (i : Spout) (s : State) : State :=
  let f := fl.get i
  let g := gateOf s i
  let s := setGate s i { g with flowSum := g.flowSum + f.effective, flowCount := g.flowCount + 1 }
  let s := match g.tail with
    | some t => tailPosition i t f s
    | none => if g.mode.discharging then cutoffCheck i f s else s
  blindStep i s

/-! ### The window close -/

/-- The BSC's starve judgement on a level (R164). -/
def starveAfter (w : Params) (level : Int) (starved : Bool) : Bool :=
  if starved then decide (level < (w.lLow : Int)) else decide (level < (w.lEmpty : Int))

/-- The BSC's refill tests on a level (R157, R159, R160). -/
def refillTests (w : Params) (level : Int) (s : State) : State :=
  match s.bsc.state with
  | .idle =>
    if level < (w.lLow : Int) then
      if s.bsc.dribbleSet ≠ .all false ∧ 0 < w.refillDeferMaxS ∧ (w.lEmpty : Int) ≤ level
      then s.withBsc { s.bsc with state := .deferred, deferralTimer := some 0 }
      else openValve s
    else s
  | .deferred =>
    if level < (w.lEmpty : Int) then openValve s
    else if (w.lLow : Int) ≤ level then s.withBsc { s.bsc with state := .idle, deferralTimer := none }
    else s
  | .opened => if (w.lHigh : Int) ≤ level then closeValve .idle s else s
  | _ => s

/-- The BSC takes a window close (R155, R164): the starve judgement, then the refill tests, then the reports of a change
of the starve condition. -/
def bscClose (s : State) : State :=
  match newestValidMean s.bmu.ring with
  | none => s
  | some level =>
    let before := s.bsc.starved
    let s := s.withBsc { s.bsc with starved := starveAfter (working s) level before }
    let s := refillTests (working s) level s
    if s.bsc.starved = before then s else reportStarve s

/-- A window used by a running zero, with its raw sum and good count (R36, R37). -/
def zeroWindow (e : Entry) (rawSum : Int) (goodCount : Nat) (s : State) : State :=
  if e.valid && !e.disturbed then
    let z := s.bmu.zero
    let z := { z with
      windowCount := z.windowCount + 1, rawSum := z.rawSum + rawSum, sampleCount := z.sampleCount + goodCount }
    if 20 ≤ z.windowCount then
      let s := setWorking s { working s with binZero := z.rawSum.tdiv z.sampleCount }
      let s := s.withBmu { s.bmu with zero := { z with state := .done } }
      bscZeroEnded (bmuEmptyHistory s)
    else s.withBmu { s.bmu with zero := z }
  else abortZero s

/-- A window close (R25, R34): the SSU's completion, the entry, mode and F, then the OAU, the SSU's learning, the Gate
Controllers, the BSC and a running zero (log 8). -/
def windowClose (s : State) : State :=
  let b := s.bmu
  let m := windowMasses s
  let e := closingEntry (working s) b m (flowingSet s)
  let s := ssuComplete (s.withBmu (bmuCloseWindow (working s) m (flowingSet s) b))
  let mode := s.bmu.mode
  let f := s.bmu.f
  let s := oauClose e mode f s
  let s := eachSpout (learnGain mode f) s
  let s := eachSpout windowStep s
  let s := settle (bscClose s)
  if b.zero.state = .running ∧ b.zero.skipWindow = false
  then settle (zeroWindow e b.rawSum b.goodCount s) else s

/-- A sensor close in BLIND (R44): volumetric, without an entry. -/
def sensorClose (s : State) : State := oauVolumetric (windowMasses s) (ssuComplete s)

/-- The BMU takes a position: outside BLIND it fills the window and closes it on the tenth (R21); in BLIND the SSU closes
its own windows at ten positions (R44), but not in the BLIND of a restart, which the BMU leaves before the first close is
taken (R39, R73). DESIGN CHOICE (log 33): once the BMU has entered BLIND by R28 the SSU does so also while the bin channel
is AWAITING under a LOCKED link, where R44 speaks of a STALE channel only. -/
def bmuPosition (p : PositionIn) (s : State) : State :=
  if s.bmu.mode = .blind then
    if s.bmu.blindEntered && Spout.all.any fun i => decide (10 ≤ (sensorOf s i).count) then sensorClose s else s
  else
    let s := s.withBmu (countPosition (working s) s.sli.refillCommand p.bin s.bmu)
    if 10 ≤ s.bmu.position then windowClose s else s

/-! ### The position -/

/-- The OAU takes the frame masses of a position (R65). -/
def oauPosition (fl : PerSpout Flow) (s : State) : State :=
  eachSpout (fun i => addOpen i (fl.get i).grams) s

/-- The Gate Controllers take the feedback of a position (R103); a missed position hands them none (R10). -/
def feedbackPosition (p : PositionIn) (s : State) : State :=
  if p.missed then s else eachSpout (fun i => gateFeedback i (p.feedback.get i)) s

/-- The events of a position after the SSU's, in the order the command names (R66, R92, R98). DESIGN CHOICE (log 4): of the
six orders of masses, flows and close, each pair of which the rules leave open, four can be named; close, masses, flows and
flows, close, masses are never taken. DESIGN CHOICE (log 4): the three spouts' events take one order together, where each
is an event of its own (R34, R42) and the order may differ from spout to spout. -/
def pathOrder (o : Sched) (p : PositionIn) (fl : PerSpout Flow) (s : State) : State :=
  match o.closeBeforeFlows, o.flowsBeforeMass with
  | false, false => bmuPosition p (eachSpout (gateFlows fl) (oauPosition fl s))
  | false, true => bmuPosition p (oauPosition fl (eachSpout (gateFlows fl) s))
  | true, false => eachSpout (gateFlows fl) (bmuPosition p (oauPosition fl s))
  | true, true => oauPosition fl (eachSpout (gateFlows fl) (bmuPosition p s))

/-- One frame position handed on (R15). DESIGN CHOICE (log 4): the feedback of R103 is taken before all of the position's
masses, flows and close or after all of them, as the command says; the spec gives no order, and an order with the feedback
between the flows and the close cannot be named. -/
def framePosition (o : Sched) (p : PositionIn) (s : State) : State :=
  let s := if o.flowsBeforeFeedback then s else feedbackPosition p s
  let fl := PerSpout.of (flowOf s p)
  let s := pathOrder o p fl (ssuPosition p s)
  if o.flowsBeforeFeedback then feedbackPosition p s else s

/-- `n` missed positions, one after another (R10). -/
def missedPositions (o : Sched) : Nat → State → State
  | 0, s => s
  | n + 1, s => missedPositions o n (framePosition o missedPosition s)

end Sys2Proof.Machine
end

