-- ==== Sys2Proof/Machine/Link.lean ====
section
/-! DEFINITION. The sense link's judgement of frames (chapter 1): lock and loss of lock, gaps, channels, and the hand-on
of a frame. -/

namespace Sys2Proof.Machine

/-- Each Gate Controller sets the spoiled mark of a tail it is judging (R7, R107). -/
def spoilTail (i : Spout) (s : State) : State :=
  match (gateOf s i).tail with
  | some t => setGate s i { gateOf s i with tail := some { t with spoiled := true } }
  | none => s

/-- The SLI enters SEEKING and reports it to the BMU, the Gate Controllers, the SSU and the LM (R7, log 22). -/
def enterSeeking (s : State) : State :=
  let s := eachSpout spoilTail (enterBlind (sliSeek s))
  settle (lmSense true (settle s))

/-- An accepted change of SYNC_ROLE or FRAME_PERIOD_US: the partial frame is abandoned uncounted, the sync clock starts
again, and the link enters SEEKING (R2). -/
def linkRestart (s : State) : State :=
  enterSeeking (s.withSli { s.sli with frameInProgress := false, syncClockUs := 0 })

/-- The frame's number becomes the last sequence number and the lock timer restarts (R8). -/
def takeSequence (seq : Nat) (s : State) : State :=
  s.withSli { s.sli with lastSeq := some seq, lockTimer := some 0 }

/-- The inbound channels take a frame's samples (R12, R13). -/
def takeSamples (f : InFrame) (s : State) : State :=
  s.withSli { s.sli with
    bin := s.sli.bin.take (goodSample f.bin)
    impact := PerSpout.of fun i => (s.sli.impact.get i).take (goodSample (f.impact.get i))
    feedback := PerSpout.of fun i => (s.sli.feedback.get i).take (goodFeedback (f.feedback.get i)) }

/-- What a frame hands on once its samples have been taken (R15). -/
def positionOf (f : InFrame) (s : State) : PositionIn where
  missed := false
  bin := markOf s.sli.bin (goodSample f.bin)
  impact := PerSpout.of fun i => markOf (s.sli.impact.get i) (goodSample (f.impact.get i))
  feedback := PerSpout.of fun i => markOf (s.sli.feedback.get i) (goodFeedback (f.feedback.get i))

/-- A frame accepted and handed on as one frame position (R8): channel updates, exit from BLIND and fresh demands first. -/
def acceptFrame (f : InFrame) (seq : Nat) (o : Sched) (s : State) : State :=
  let s := settle (leaveBlind (takeSamples f (takeSequence seq s)))
  framePosition o (positionOf f s) s

/-- The gap k = (seq − last − 1) modulo 256 (chapter 1). -/
def gapOf (seq last : Nat) : Nat := (seq + 511 - last) % 256

/-- A well-formed frame in LOCKED: normal, duplicate, gapped or largely gapped (R8 to R11). -/
def lockedFrame (f : InFrame) (seq last : Nat) (o : Sched) (s : State) : State :=
  let k := gapOf seq last
  if k = 255 then countMissed 1 s
  else if k = 0 then acceptFrame f seq o s
  else if k ≤ 3 then acceptFrame f seq o (missedPositions o k (countMissed k s))
  else acceptFrame f seq o (missedPositions o 3 (countMissed k (bmuMarkDisturbed s)))

/-- The lock completes (R6): the SLI enters LOCKED and reports it to the LM before the frame is handled (log 22). -/
def enterLocked (s : State) : State :=
  settle (lmSense false (s.withSli { s.sli with lock := .locked }))

/-- A well-formed frame in SEEKING, against the candidate (R6). -/
def seekingFrame (f : InFrame) (seq : Nat) (o : Sched) (s : State) : State :=
  match s.sli.lastSeq with
  | none => takeSequence seq s
  | some c => if seq = (c + 1) % 256 then acceptFrame f seq o (enterLocked (takeSequence seq s)) else takeSequence seq s

/-- A frame arrives: its 256th bit has been clocked, slot 7 is checked, and a well-formed frame is judged by the lock
state (R3). A LOCKED link always holds a number; without one, which no run reaches, the frame is taken as normal (log 24).
DESIGN CHOICE (log 27): an arrival with no frame in progress (before any sync, or after R2 or R18 has abandoned the partial
frame), of which the spec gives none, is judged like any other. -/
def frameArrives (f : InFrame) (o : Sched) (s : State) : State :=
  let s := s.withSli { s.sli with frameInProgress := false }
  match frameSequence f with
  | none => countFrameError s
  | some seq =>
    match s.sli.lock with
    | .seeking => seekingFrame f seq o s
    | .locked => match s.sli.lastSeq with
      | some last => lockedFrame f seq last o s
      | none => acceptFrame f seq o s

/-- Expiry of the lock timer at its limit: the lock ends, or the candidate is dropped (R5, R7). -/
def lockExpires (s : State) : State :=
  if reached (lockLimitMs (working s)) s.sli.lockTimer then
    match s.sli.lock with
    | .locked => enterSeeking s
    | .seeking => s.withSli { s.sli with lastSeq := none, lockTimer := none }
  else s

/-- What the blocks do when their channel goes STALE (R14): the bin sends the BMU to BLIND, an impact channel makes the
SSU judge its demand, a feedback channel faults its gate while the link is LOCKED (R105). -/
def staleReport (c : Chan) (s : State) : State :=
  match c with
  | .bin => settle (enterBlind s)
  | .impact _ => settle s
  | .feedback i => if s.sli.lock = .locked then gateFault i .gateFeedback s else s

/-- Expiry of a FRESH channel's staleness timer at its limit (R13). -/
def staleExpires (c : Chan) (s : State) : State :=
  let x := channelOf s c
  if x.state = .fresh ∧ reached (staleLimitMs (working s)) x.timer then staleReport c (setChannel s c x.goStale) else s

end Sys2Proof.Machine
end

