-- ==== Sys2Proof/Machine/Flags.lean ====
section
/-! DEFINITION. Layouts (chapter 10): big-endian fields, the coded values and flag bytes, and the field bytes of the four
status replies and the ticket record. -/

namespace Sys2Proof.Machine

/-! ### Fields -/

/-- An unsigned field of `n` bytes, most significant first. -/
def beBytes : Nat → Nat → List Byte
  | 0, _ => []
  | n + 1, v => beBytes n (v / 256) ++ [BitVec.ofNat 8 (v % 256)]

/-- A signed field of `n` bytes in two's complement. -/
def beSigned (n : Nat) (v : Int) : List Byte := beBytes n (v % ((256 ^ n : Nat) : Int)).toNat

/-- The value of a big-endian field. -/
def beValue (bs : List Byte) : Nat := bs.foldl (fun v b => v * 256 + b.toNat) 0

/-- One flag at a bit of a flag byte. -/
def bitAt (k : Nat) (v : Bool) : Nat := if v then 2 ^ k else 0

def flagByte (v : Nat) : List Byte := [BitVec.ofNat 8 v]

/-! ### Coded values -/

def spoutCode : Spout → Nat
  | .A => 0x41
  | .B => 0x42
  | .C => 0x43

/-- Bay sets and leak alarms: bit 0 A, bit 1 B, bit 2 C. -/
def spoutBits (x : PerSpout Bool) : Nat := bitAt 0 x.a + bitAt 1 x.b + bitAt 2 x.c

def bayOf (b : Byte) : PerSpout Bool := ⟨b.getLsbD 0, b.getLsbD 1, b.getLsbD 2⟩

def Causes.bits (x : Causes) : Nat :=
  bitAt 0 x.bay + bitAt 1 x.interlock + bitAt 2 x.link + bitAt 3 x.aeration + bitAt 4 x.starve + bitAt 5 x.sensor +
    bitAt 6 x.sense

def LoadState.code : LoadState → Nat
  | .armed => 0
  | .waiting => 1
  | .discharging => 2
  | .held => 3
  | .tailing => 4

def GateMode.code : GateMode → Nat
  | .closed => 0
  | .opening => 1
  | .regulating => 2
  | .dribble => 3
  | .closing => 4
  | .fault => 5

def ChanState.code : ChanState → Nat
  | .awaiting => 0
  | .fresh => 1
  | .stale => 2

def FaultKind.code : FaultKind → Nat
  | .gateStuck => 1
  | .gateFeedback => 2
  | .sensorDrift => 3

/-- A fault kind or none (0). -/
def faultCode : Option FaultKind → Nat
  | some k => k.code
  | none => 0

def EndCause.code : EndCause → Nat
  | .cutoff => 0
  | .finished => 1
  | .holdExpired => 2
  | .spoutFault => 3
  | .restart => 4

def TicketOutcome.code : TicketOutcome → Nat
  | .inTolerance => 0
  | .over => 1
  | .under => 2

def OrderState.code : OrderState → Nat
  | .opened => 0
  | .filled => 1
  | .cancelled => 2

def Mode.code : Mode → Nat
  | .blind => 0
  | .unready => 1
  | .gravimetric => 2
  | .refilling => 3
  | .settling => 4

def ZeroState.code : ZeroState → Nat
  | .idle => 0
  | .running => 1
  | .done => 2
  | .aborted => 3

def RefillState.code : RefillState → Nat
  | .idle => 0
  | .deferred => 1
  | .opened => 2
  | .suspended => 3
  | .supplyFault => 4

def RestartCause.code : RestartCause → Nat
  | .cold => 0
  | .coldService => 1
  | .warm => 2

def StoreStatus.code : StoreStatus → Nat
  | .none => 0
  | .writing => 1
  | .done => 2
  | .failed => 3
  | .timedOut => 4

def Result.code : Result → Nat
  | .ok => 0x00
  | .busy => 0x01
  | .wrongState => 0x02
  | .conditionPresent => 0x03
  | .spoutInUse => 0x04
  | .spoutFault => 0x05
  | .ticketsFull => 0x06
  | .noBudget => 0x07
  | .noOrder => 0x08
  | .orderClosed => 0x09
  | .wrongBay => 0x0A
  | .orderExhausted => 0x0B
  | .tableFull => 0x0C
  | .duplicate => 0x0D
  | .loadsOpen => 0x0E
  | .notOldest => 0x0F
  | .none => 0x10
  | .locked => 0x11
  | .notReady => 0x12
  | .outOfRange => 0x13
  | .wrongPort => 0x14
  | .unknown => 0x15

/-! ### START's conditions (R120) -/

/-- The conditions START finds present: INTERLOCK, AERATION, STARVE, SENSOR, FEEDBACK in bits 0 to 4 (R120). -/
def startConditions (s : State) (i : Spout) : Nat :=
  bitAt 0 (!s.lm.interlock.get i) + bitAt 1 s.lm.aerationLow + bitAt 2 s.lm.starved + bitAt 3 (sensorOf s i).demand +
    bitAt 4 (decide ((s.sli.feedback.get i).state ≠ .fresh))

/-! ### Spout status (76 bytes) -/

/-- The load fields, from the load number through the first fault kind (50 bytes). -/
def loadFields (s : State) (i : Spout) (l : Load) : List Byte :=
  beBytes 2 l.number ++ l.order ++ beBytes 4 l.target ++ beBytes 4 l.rate ++ beBytes 1 l.state.code ++
  beBytes 4 l.d ++ beBytes 4 l.gravimetric ++ beSigned 5 (provisional s i l) ++ beBytes 2 (gravimetricShare l) ++
  beBytes 1 l.causes.bits ++ beBytes 4 l.holdMs ++ beBytes 1 l.trips ++
  flagByte (bitAt 0 l.drift + bitAt 1 l.finished + bitAt 2 l.cutoff.isSome +
    bitAt 3 ((l.cutoff.map CutoffRecord.substituted).getD false)) ++
  beSigned 4 ((l.cutoff.map CutoffRecord.dCut).getD 0) ++ beBytes 4 ((l.cutoff.map CutoffRecord.qCut).getD 0) ++
  beBytes 1 (faultCode l.firstFault)

/-- The gate, sensor and channel fields. -/
def plantFields (s : State) (i : Spout) : List Byte :=
  beBytes 1 (gateOf s i).mode.code ++ beBytes 2 (gateOf s i).command ++ beBytes 4 (sensorOf s i).lastQ ++
  flagByte (bitAt 0 (sensorOf s i).substitution + bitAt 1 (sensorCondition s i) +
    bitAt 2 (sensorOf s i).driftSuspended + bitAt 3 (sensorOf s i).leakAlarm) ++
  beBytes 1 (s.sli.impact.get i).state.code ++ beBytes 1 (s.sli.feedback.get i).state.code ++
  beSigned 2 (s.sli.feedback.get i).lastGood

/-- The fault latch fields. -/
def latchFields (x : FaultLatch) : List Byte :=
  beBytes 1 (faultCode (x.fault.map LatchedFault.kind)) ++
  beBytes 2 ((x.fault.bind LatchedFault.load).getD 0) ++ beBytes 4 ((x.fault.map LatchedFault.d).getD 0) ++
  beBytes 1 x.count

/-- A spout's place in the allocation queue, 1 at the head, 0 for none (R77, R87). -/
def queuePlaceOf (d : Dba) (i : Spout) : Nat :=
  match d.queue.findIdx? fun q => decide (q.spout = i) with
  | some k => k + 1
  | none => 0

/-- SPOUT STATUS (R138). -/
def spoutStatusFields (s : State) (i : Spout) : List Byte :=
  (match loadOf s i with
    | some l => beBytes 1 1 ++ loadFields s i l
    | none => List.replicate 51 0) ++
  plantFields s i ++ latchFields (latchOf s i) ++ beBytes 4 (rateOf s.dba i) ++ beBytes 1 (queuePlaceOf s.dba i)

/-! ### The other status replies -/

/-- ORDER STATUS (R145, 32 bytes). -/
def orderFields (o : Order) : List Byte :=
  o.ref ++ beBytes 4 o.ordered ++ beBytes 1 (spoutBits o.bays) ++ beBytes 4 o.tolerance ++ beBytes 5 o.loaded ++
  beBytes 4 o.reserved ++ beSigned 5 (available o) ++ beBytes 1 o.state.code

/-- The ticket record as sent (R152, 32 bytes). -/
def ticketFields (t : Ticket) : List Byte :=
  beBytes 2 t.number ++ t.ref ++ beBytes 1 (spoutCode t.spout) ++ beBytes 2 t.load ++ beBytes 4 t.target ++ beBytes 4 t.d ++
  beBytes 2 t.share ++ beBytes 1 t.outcome.code ++ beBytes 1 t.endCause.code ++ beBytes 4 t.holdS ++
  beBytes 1 t.trips ++ flagByte (bitAt 0 t.drift) ++ beBytes 1 (faultCode t.firstFault)

/-- The leak alarms of the three spouts. -/
def leakAlarms (s : State) : PerSpout Bool := PerSpout.of fun i => (sensorOf s i).leakAlarm

/-- BIN STATUS (R176, 19 bytes). DESIGN CHOICE (log 31): every item is read from one state between whole events, so no
reply straddles a window close, as R176 lets one do. -/
def binStatusFields (s : State) : List Byte :=
  let mean := newestValidMean s.bmu.ring
  beBytes 1 s.bmu.mode.code ++ beSigned 4 (max (-2147483648) (mean.getD 0)) ++ beBytes 4 s.bmu.f ++
  beBytes 1 s.bmu.cleanRun ++ beBytes 1 s.bmu.zero.state.code ++ beBytes 1 s.bsc.state.code ++
  flagByte (bitAt 0 s.bsc.starved + bitAt 1 (!s.bsc.aerationHigh) + bitAt 2 mean.isSome) ++
  beBytes 5 s.oau.unassigned ++ flagByte (spoutBits (leakAlarms s))

/-- PART STATUS (R177, 15 bytes). -/
def partStatusFields (s : State) : List Byte :=
  beBytes 1 s.pm.restartCause.code ++ beBytes 1 s.pm.status.code ++
  flagByte (bitAt 0 s.pm.defaulted + bitAt 1 s.pm.custodyLock + bitAt 2 (decide (s.sli.lock = .locked))) ++
  beBytes 2 s.sli.frameErrors ++ beBytes 2 s.sli.missedFrames ++
  beBytes 2 s.pc.bay.a.errors ++ beBytes 2 s.pc.bay.b.errors ++ beBytes 2 s.pc.bay.c.errors ++
  beBytes 2 s.pc.dispatch.errors

end Sys2Proof.Machine
end

