-- ==== Sys2Proof/Machine/Operands.lean ====
section
/-! DEFINITION. The Port Controller (chapter 10): the CRC-16, the receiver of a port, the checks of a request's form, the
request a frame's body spells, and the reply. -/

namespace Sys2Proof.Machine

/-! ### Ports -/

def portOf (s : State) (p : Port) : PortState :=
  match p with
  | .bay i => s.pc.bay.get i
  | .dispatch => s.pc.dispatch

def setPort (s : State) (p : Port) (x : PortState) : State :=
  match p with
  | .bay i => s.withPc { s.pc with bay := s.pc.bay.set i x }
  | .dispatch => s.withPc { s.pc with dispatch := x }

/-! ### CRC-16 (R170) -/

/-- One shift of the register through x^16 + x^12 + x^5 + 1, most significant bit first. -/
def crc16Shift (c : BitVec 16) : BitVec 16 := if c.msb then (c <<< 1) ^^^ 0x1021 else c <<< 1

def crc16Byte (c : BitVec 16) (b : Byte) : BitVec 16 :=
  crc16Shift <| crc16Shift <| crc16Shift <| crc16Shift <| crc16Shift <| crc16Shift <| crc16Shift <| crc16Shift <|
    c ^^^ (b.zeroExtend 16 <<< 8)

/-- The check value over the length byte and the body; the register starts at 0xFFFF and is not inverted. -/
def crc16 (bs : List Byte) : BitVec 16 := bs.foldl crc16Byte 0xFFFF

/-- The two CRC bytes of a frame, high byte first. -/
def crcBytes (bs : List Byte) : List Byte := beBytes 2 (crc16 bs).toNat

/-- The bytes on the line of a frame with a body: start byte, length, body, CRC. -/
def frameBytes (body : List Byte) : List Byte :=
  let covered := BitVec.ofNat 8 body.length :: body
  0x02 :: covered ++ crcBytes covered

/-- A reply's body: kind byte, result byte, fields (R174). -/
def Reply.body (r : Reply) : List Byte := r.kind :: BitVec.ofNat 8 r.result.code :: r.fields

/-- A reply as it is sent. -/
def Reply.bytes (r : Reply) : List Byte := frameBytes r.body

/-! ### Request kinds -/

/-- The known kinds (the table under "Request kinds"): 0x10..0x16 for bays, 0x20..0x2F for dispatch. -/
def kindKnown (k : Byte) : Bool :=
  (decide (0x10 ≤ k.toNat) && decide (k.toNat ≤ 0x16)) || (decide (0x20 ≤ k.toNat) && decide (k.toNat ≤ 0x2F))

/-- A field of a body as a number. -/
def fieldAt (body : List Byte) (at_ n : Nat) : Nat := beValue ((body.drop at_).take n)

/-- The request that a body taken on a port spells: the kind byte, L and the fields in their places (chapter 10, "Request
kinds"). A body of a wrong length is refused by its L (R173) whatever its fields. -/
def requestOf (p : Port) (body : List Byte) : Instr :=
  let n := body.length
  let kind := body.headD 0
  let ref := (body.drop 1).take 8
  match kind.toNat with
  | 0x10 => .openLoad p n ref (.ofNat 32 (fieldAt body 9 4)) (.ofNat 32 (fieldAt body 13 4))
  | 0x11 => .start p n
  | 0x12 => .hold p n
  | 0x13 => .resume p n
  | 0x14 => .finish p n
  | 0x15 => .spoutStatus p n
  | 0x16 => .clearFault p n
  | 0x20 => .postOrder p n ref (.ofNat 32 (fieldAt body 9 4)) (.ofNat 8 (fieldAt body 13 1))
      (.ofNat 32 (fieldAt body 14 4))
  | 0x21 => .cancelOrder p n ref
  | 0x22 => .removeOrder p n ref
  | 0x23 => .orderStatus p n ref
  | 0x24 => .readTicket p n
  | 0x25 => .takeTicket p n (.ofNat 16 (fieldAt body 1 2))
  | 0x26 => .binStatus p n
  | 0x27 => .setParameter p n (.ofNat 8 (fieldAt body 1 1)) (.ofNat 32 (fieldAt body 2 4))
  | 0x28 => .readParameter p n (.ofNat 8 (fieldAt body 1 1))
  | 0x29 => .saveParameters p n
  | 0x2A => .zeroBin p n
  | 0x2B => .setCustodyLock p n
  | 0x2C => .clearUnassigned p n
  | 0x2D => .clearSupplyFault p n
  | 0x2E => .restart p n
  | 0x2F => .partStatus p n
  | _ => .unknownRequest p kind n

/-! ### The receiver (R168 to R171) -/

/-- A frame discarded or abandoned: IDLE, buffer emptied, gap timer stopped, counted (R168 to R171). -/
def discardFrame (x : PortState) : PortState :=
  { x with receive := .idle, buffer := [], gapTimer := none, errors := satAdd 65535 x.errors 1 }

/-- The completed frame's CRC is checked: a well-formed frame's body becomes the request in progress (R170). -/
def completeFrame (p : Port) (buffer : List Byte) (x : PortState) : PortState :=
  let covered := buffer.take (buffer.length - 2)
  if crcBytes covered = buffer.drop (buffer.length - 2) then
    { x with
      receive := .answering, buffer := [], gapTimer := none, reply := none,
      request := some (requestOf p (covered.drop 1)) }
  else discardFrame x

/-- A whole byte joins the frame in RECEIVING (R169). -/
def frameByte (p : Port) (b : Byte) (x : PortState) : PortState :=
  let buffer := x.buffer ++ [b]
  let l := (buffer.headD 0).toNat
  if l = 0 ∨ 120 < l then discardFrame x
  else if buffer.length = l + 3 then completeFrame p buffer x
  else { x with buffer := buffer, gapTimer := some 0 }

/-- A byte arrives on a port (R168, R169, R172). -/
def receiveByte (p : Port) (b : Byte) (stopHigh : Bool) (x : PortState) : PortState :=
  match x.receive with
  | .idle => if stopHigh ∧ b = 0x02 then { x with receive := .receiving, buffer := [], gapTimer := some 0 } else x
  | .receiving => if stopHigh then frameByte p b x else discardFrame x
  | .answering => x

/-! ### Taking a request and answering it (R172 to R174) -/

/-- A request taken on a bay port restarts the port's link timer, which runs only while the slot holds a load (R128,
R173). -/
def restartLinkTimer (p : Port) (s : State) : State :=
  match p with
  | .bay i =>
    if (loadOf s i).isSome then s.withLm { s.lm with linkTimer := s.lm.linkTimer.set i (some 0) } else s
  | .dispatch => s

/-- A port takes a request when it is not ANSWERING, or when the request is the one in progress and has no reply yet. While
a request is in progress any other that is sent is lost (R172). DESIGN CHOICE (log 3): on a port that is RECEIVING the
request is the frame that completes there. -/
def portTakes (p : Port) (c : Instr) (s : State) : Bool :=
  decide ((portOf s p).receive ≠ .answering) ||
    (decide ((portOf s p).request = some c) && (portOf s p).reply.isNone)

/-- The request becomes the port's request in progress (R172). -/
def takeRequest (p : Port) (c : Instr) (s : State) : State :=
  let s := setPort s p { portOf s p with
    receive := .answering, buffer := [], gapTimer := none, request := some c, reply := none }
  restartLinkTimer p s

/-- What is done with a request that the port takes; one that it does not take is lost and changes nothing (R172). -/
def withRequest (p : Port) (c : Instr) (serve : State → State) (s : State) : State :=
  if portTakes p c s then serve (takeRequest p c s) else s

/-- The one reply to the request in progress: its kind byte with bit 7 set, the result and the fields (R173, R174). -/
def answer (p : Port) (kind : Byte) (r : Result) (fields : List Byte) (s : State) : State :=
  setPort s p { portOf s p with reply := some { kind := kind ||| 0x80, result := r, fields := fields } }

/-- What an owning block answers. -/
structure Answer where
  state : State
  result : Result
  fields : List Byte
  deriving DecidableEq, Repr

/-- A refusal, which changes no state. -/
def refuse (r : Result) (s : State) : Answer := { state := s, result := r, fields := [] }

/-- An acceptance with no reply fields. -/
def accept (s : State) : Answer := { state := s, result := .ok, fields := [] }

/-- Checks 3 and 4 of R173: the length and the formats of the fields. -/
def formRefusal (len want : Nat) (formats : Bool) : Option Result :=
  if len = want ∧ formats then none else some .outOfRange

/-- A bay request (R173): WRONG PORT on the dispatch port, then the form checks, then the LM for the port's spout. -/
def serveBay (c : Instr) (p : Port) (kind : Byte) (len want : Nat) (formats : Bool)
    (act : Spout → State → Answer) : State → State :=
  withRequest p c fun s => match p with
  | .dispatch => answer p kind .wrongPort [] s
  | .bay i =>
    match formRefusal len want formats with
    | some r => answer p kind r [] s
    | none => let a := act i s; answer p kind a.result a.fields a.state

/-- A dispatch request (R173). -/
def serveDispatch (c : Instr) (p : Port) (kind : Byte) (len want : Nat) (formats : Bool)
    (act : State → Answer) : State → State :=
  withRequest p c fun s => match p with
  | .bay _ => answer p kind .wrongPort [] s
  | .dispatch =>
    match formRefusal len want formats with
    | some r => answer p kind r [] s
    | none => let a := act s; answer p kind a.result a.fields a.state

/-- A reference's format: eight characters, each in 0x20..0x7E (R118, R141, R173). -/
def refFormat (r : Ref) : Bool :=
  decide (r.length = 8) && r.all fun b => decide (0x20 ≤ b.toNat) && decide (b.toNat ≤ 0x7E)

/-- A mass field's format: 10,000..4,000,000,000 (R118, R141). -/
def massFormat (m : BitVec 32) : Bool := decide (10000 ≤ m.toNat) && decide (m.toNat ≤ 4000000000)

end Sys2Proof.Machine
end

