-- ==== Sys2Proof/Machine/Pm.lean ====
section
/-! DEFINITION. The Parameter Memory (chapter 11) and the restarts: the image and its CRC-32, a changed parameter's effect,
and every block's values after a cold start and a warm restart. -/

namespace Sys2Proof.Machine

/-! ### The image (R183) -/

/-- One bit of the CRC-32's register, least significant bit first, generator 0x04C11DB7 bit-reversed (R183). -/
def crc32Shift (c : BitVec 32) : BitVec 32 := if c.getLsbD 0 then (c >>> 1) ^^^ 0xEDB88320 else c >>> 1

def crc32Byte (c : BitVec 32) (b : Byte) : BitVec 32 :=
  crc32Shift <| crc32Shift <| crc32Shift <| crc32Shift <| crc32Shift <| crc32Shift <| crc32Shift <| crc32Shift <|
    c ^^^ b.zeroExtend 32

/-- The register starts at 0xFFFFFFFF and is inverted at the end (R183). -/
def crc32 (bs : List Byte) : BitVec 32 := ~~~ (bs.foldl crc32Byte 0xFFFFFFFF)

/-- The image's value bytes: every parameter in the order of the ids. DESIGN CHOICE (log 10): four bytes each, signed,
most significant first, as in the value field of READ PARAMETER. -/
def imageBytes (w : Params) : List Byte := paramTable.flatMap fun row => beSigned 4 (paramGet w row.2)

/-- The CRC-32 of an image's values (R183). -/
def imageCrc (w : Params) : BitVec 32 := crc32 (imageBytes w)

/-- The values of a sound image: the CRC-32 agrees, every value lies in its range and the levels stand in order (R183). -/
def soundValues (x : StoredImage) : Option Params :=
  match x with
  | .written w crc => if crc = imageCrc w ∧ paramsSound w then some w else none
  | _ => none

/-! ### Saving (R184, R185) -/

/-- A save is over: the timer stops and the snapshot is discarded (R185). -/
def saveEnds (status : StoreStatus) (image : StoredImage) (m : Pm) : Pm :=
  { m with status := status, image := image, saveTimer := none, snapshot := none }

/-- The write's completion: read back and compared with the snapshot (R185). DESIGN CHOICE (log 37): the CRC-32 read back
counts in the comparison, so the snapshot's values with a wrong CRC-32 end the save FAILED. -/
def writeCompletes (readBack : StoredImage) (m : Pm) : Pm :=
  match m.status, m.snapshot with
  | .writing, some w =>
    if readBack = .written w (imageCrc w) then { saveEnds .done readBack m with defaulted := false }
    else saveEnds .failed readBack m
  | _, _ => m

/-- The save timer reaches 5,000 ms while WRITING (R185). -/
def saveTimesOut (left : StoredImage) (m : Pm) : Pm :=
  match m.status with
  | .writing => saveEnds .timedOut left m
  | _ => m

/-- A write cut off by the RESET line, a cold start or power loss: the image is not sound (R183, R185, R187). -/
def cutOffSave (m : Pm) : Pm :=
  match m.status with
  | .writing => saveEnds .none .cutOff m
  | _ => m

/-- The snapshot is taken and the write begins; the old image is overwritten as it proceeds (R184). -/
def beginSave (m : Pm) : Pm :=
  { m with snapshot := some m.working, status := .writing, saveTimer := some 0, image := .cutOff }

/-! ### Changing a parameter (R182) -/

/-- Any load slot occupied. -/
def anyLoad (s : State) : Bool := Spout.all.any fun i => (loadOf s i).isSome

/-- Any allocation granted (R85). -/
def anyAllocation (s : State) : Bool := Spout.all.any fun i => (s.dba.allocation.get i).isSome

/-- A ZERO BIN runs. -/
def zeroRunning (s : State) : Bool := decide (s.bmu.zero.state = .running)

/-- The BUSY column of the parameter table. -/
def paramBusy (s : State) (p : ParamId) : Bool :=
  match p with
  | .framePeriodUs => anyLoad s
  | .syncRole => anyLoad s
  | .binZero => zeroRunning s
  | .binSpan => zeroRunning s
  | .rateSpan => anyLoad s || zeroRunning s
  | .spoutZero i => (loadOf s i).isSome
  | .spoutGain i => (loadOf s i).isSome
  | .tailMs i => (loadOf s i).isSome
  | .budget => anyAllocation s
  | _ => false

/-- The checks of R182 in their order, for a parameter the table has. -/
def paramRefusal (s : State) (p : ParamId) (v : Int) : Option Result :=
  if paramInRange p v = false then some .outOfRange
  else if paramIsLevel p && !levelsOrdered (paramSet (working s) p v) then some .outOfRange
  else if paramLocked p && s.pm.custodyLock then some .locked
  else if paramBusy s p then some .busy
  else none

/-- An accepted change of SPOUT_ZERO_x or SPOUT_GAIN_x sets the solo counter to 0 (R53). -/
def clearSolo (i : Spout) (s : State) : State := setSensor s i { sensorOf s i with solo := 0 }

/-- What the owning block does on an accepted change (the Effect column; R2, R38, R53, R86). A parameter whose new value
is only used at its next use changes nothing else. -/
def paramEffect (p : ParamId) (s : State) : State :=
  match p with
  | .framePeriodUs => linkRestart s
  | .syncRole => linkRestart s
  | .binZero => settle (bmuEmptyHistory s)
  | .binSpan => settle (bmuEmptyHistory s)
  | .rateSpan => settle (bmuEmptyHistory s)
  | .spoutZero i => clearSolo i s
  | .spoutGain i => clearSolo i s
  | .sensorPolicy => settle s
  | .budget => settle (recomputeBudget s)
  | _ => s

/-- SET PARAMETER at the PM (R182). -/
def changeParam (id : Byte) (v : Int) (s : State) : Answer :=
  match paramOfId id with
  | none => refuse .outOfRange s
  | some p =>
    match paramRefusal s p v with
    | some r => refuse r s
    | none => accept (paramEffect p (setWorking s (paramSet (working s) p v)))

/-! ### Restarts -/

/-- The SLI after either restart (R16, R17, R18); `clock` is where the MASTER role's sync clock starts. -/
def sliRestart (clock : Nat) : Sli :=
  { lock := .seeking, lastSeq := none, lockTimer := none, bin := .awaiting, impact := .all .awaiting,
    feedback := .all .awaiting, frameErrors := 0, missedFrames := 0, gateCommand := .all 0,
    refillCommand := false, frameInProgress := false, outbound := List.replicate 8 0, syncClockUs := clock }

/-- The BMU after either restart (R39). -/
def bmuRestart : Bmu :=
  { position := 0, massSum := 0, goodCount := 0, rawSum := 0, refillMark := false, disturbedMark := false,
    ring := [], cleanRun := 0, mode := .blind, blindEntered := false, previous := none, f := 0, zero := .idle }

/-- The OAU after a restart, with the unassigned account it keeps (R73). -/
def oauRestart (unassigned : Nat) : Oau :=
  { modeRecord := .blind, carry := 0, openPart := .all 0, pending := .all none, unassigned := unassigned,
    reports := [] }

/-- The DBA after either restart (R88). -/
def dbaRestart (w : Params) (lines : Lines) : Dba :=
  { effectiveBudget := effectiveBudget w (!lines.aerationOk) false, aerationLow := !lines.aerationOk,
    starved := false, allocation := .all none, queue := [] }

/-- The LM after a restart, with the counter and the latches it is given (R127, R139). -/
def lmRestart (counter : Nat) (latch : PerSpout FaultLatch) (lines : Lines) : Lm :=
  { slot := .all none, counter := counter, latch := latch, linkTimer := .all none, interlock := lines.interlock,
    aerationLow := !lines.aerationOk, starved := false, seeking := true, demand := .all true }

/-- The BSC after a restart, with the supply-fault latch it is given (R167). -/
def bscRestart (fault : Bool) (lines : Lines) : Bsc :=
  { state := if fault then .supplyFault else .idle, deferralTimer := none, refillTimer := none, supplyFault := fault,
    dribbleSet := .all false, blindRecord := true, zeroRecord := false, starved := false,
    aerationHigh := lines.aerationOk }

/-- The ports after a restart (R179). -/
def pcRestart (baud : Nat) : Pc := { bay := .all (.reset baud), dispatch := .reset baud }

/-- The PM at a cold start (R183, R187): a write in progress is cut off, the image is judged, SERVICE is sampled. -/
def pmCold (service : Bool) (m : Pm) : Pm :=
  let m := cutOffSave m
  { m with
    working := (soundValues m.image).getD paramDefaults
    defaulted := (soundValues m.image).isNone
    custodyLock := m.custodyLock && !service
    restartCause := if service then .coldService else .cold
    status := .none, saveTimer := none, snapshot := none, warmPending := false }

/-- A cold start (R187): every block takes its cold values from the working values just loaded. -/
def coldStart (service : Bool) (lines : Lines) (s : State) : State :=
  let m := pmCold service s.pm
  { power := .running
    sli := sliRestart (m.working.framePeriodUs - 1000)
    bmu := bmuRestart
    ssu := .all .reset
    oau := oauRestart 0
    dba := dbaRestart m.working lines
    gate := .all .reset
    lm := lmRestart 1 (.all .clear) lines
    ots := { orders := [], tickets := [], counter := 1, placesHeld := 0 }
    bsc := bscRestart false lines
    pc := pcRestart m.working.portBaud
    pm := m
    pending := s.pending }

/-- Every open load ends with RESTART, in the order A, B, C (R139). -/
def endAllLoads (s : State) : State := eachSpout (fun i => endLoad i .restart false) s

/-- A spout's sensor after a warm restart: the cold values, but for the drift suspension it keeps (R54). -/
def Sensor.warm (x : Sensor) : Sensor := { Sensor.reset with driftSuspended := x.driftSuspended }

/-- A warm restart (R188): the loads end, then every block takes its warm values; the order table, the tickets, the
counters, the fault latches, the unassigned account, the supply-fault latch and the PM's holdings are kept. -/
def warmRestart (lines : Lines) (s : State) : State :=
  let s := endAllLoads s
  { power := s.power
    sli := sliRestart 0
    bmu := bmuRestart
    ssu := PerSpout.of fun i => (sensorOf s i).warm
    oau := oauRestart s.oau.unassigned
    dba := dbaRestart (working s) lines
    gate := .all .reset
    lm := lmRestart s.lm.counter s.lm.latch lines
    ots := s.ots
    bsc := bscRestart s.bsc.supplyFault lines
    pc := pcRestart (working s).portBaud
    pm := { s.pm with restartCause := .warm, warmPending := false }
    pending := s.pending }

/-- The RESET line is raised: the part is at rest and a save write is cut off (R187). -/
def raiseReset (s : State) : State := (s.withPower .atRest).withPm (cutOffSave s.pm)

/-- The supply is lost: the image (a write in progress cut off) and the lock cell survive; the volatile state is lost,
and stands at its values after reset until the cold start sets it (R183, R185, R186, log 14). -/
def losePower (s : State) : State :=
  let m := cutOffSave s.pm
  { State.reset with
    power := .off
    pm := { State.reset.pm with image := m.image, custodyLock := m.custodyLock }
    pending := s.pending }

end Sys2Proof.Machine
end

