-- ==== Sys2Proof/Machine/BayRequests.lean ====
section
/-! DEFINITION. The meanings of the seven bay requests (chapter 7). -/

namespace Sys2Proof.Machine

/-! ### OPEN LOAD (R118, R119, R146, R147) -/

/-- The effective rate (R119). -/
def effectiveRate (w : Params) (requested : Nat) : Nat := min (max requested w.minRate) (min w.spoutMaxFlow w.budget)

/-- The first five checks of R118. -/
def openRefusal (s : State) (i : Spout) : Option Result :=
  if (loadOf s i).isSome then some .spoutInUse
  else if (gateOf s i).mode = .fault then some .spoutFault
  else if s.bmu.zero.state = .running then some .busy
  else if 16 ≤ s.ots.tickets.length + s.ots.placesHeld then some .ticketsFull
  else if (working s).budget < (working s).minRate then some .noBudget
  else none

/-- The order checks of R146, for a target formed under R147. -/
def orderRefusal (o : Order) (i : Spout) (target : Int) : Option Result :=
  if o.state = .cancelled then some .orderClosed
  else if o.bays.get i = false then some .wrongBay
  else if o.state = .filled then some .orderExhausted
  else if target < 10000 then some .orderExhausted
  else none

/-- The load that fills the slot (R116, R119). -/
def newLoad (s : State) (ref : Ref) (target rate : Nat) : Load where
  number := s.lm.counter
  order := ref
  target := target
  rate := rate
  state := .armed
  d := 0
  gravimetric := 0
  causes := .none
  holdMs := 0
  trips := 0
  finished := false
  cutoff := none
  drift := false
  firstFault := none

/-- The OTS reserves the target and a ticket place (R147). -/
def reserve (ref : Ref) (target : Nat) (s : State) : State :=
  let s := updateOrder ref (fun o => { o with reserved := o.reserved + target }) s
  s.withOts { s.ots with placesHeld := s.ots.placesHeld + 1 }

/-- The LM fills the slot, advances the counter and starts the link timer (R116, R119, R128). -/
def fillSlot (i : Spout) (l : Load) (s : State) : State :=
  s.withLm { s.lm with
    slot := s.lm.slot.set i (some l)
    counter := nextNumber s.lm.counter
    linkTimer := s.lm.linkTimer.set i (some 0) }

/-- OPEN LOAD at the LM and the OTS. -/
def openLoad (ref : Ref) (requested rate : Nat) (i : Spout) (s : State) : Answer :=
  match openRefusal s i with
  | some r => refuse r s
  | none =>
    match findOrder s ref with
    | none => refuse .noOrder s
    | some o =>
      let target := effectiveTarget (working s) requested o
      match orderRefusal o i target with
      | some r => refuse r s
      | none =>
        let l := newLoad s ref target.toNat (effectiveRate (working s) rate)
        { state := settle (fillSlot i l (reserve ref target.toNat s)), result := .ok,
          fields := beBytes 2 l.number ++ beBytes 4 l.target ++ beBytes 4 l.rate }

/-- OPEN_LOAD. -/
def execOpenLoad (port : Port) (len : Nat) (ref : Ref) (target rate : BitVec 32) (s : State) :
    Host.Outcome State Fault Refusal :=
  whileRunning (serveBay (.openLoad port len ref target rate) port 0x10 len 17
    (refFormat ref && massFormat target && decide (rate.toNat ≤ 400000))
    (openLoad ref target.toNat rate.toNat)) s

/-! ### START (R120, R121) -/

/-- START at the LM. -/
def startLoad (i : Spout) (s : State) : Answer :=
  match loadOf s i with
  | none => refuse .wrongState s
  | some l =>
    if l.state = .armed then
      if startConditions s i = 0 then accept (settle (enterWaiting i s))
      else { state := s, result := .conditionPresent, fields := beBytes 1 (startConditions s i) }
    else refuse .wrongState s

/-- START. -/
def execStart (port : Port) (len : Nat) (s : State) : Host.Outcome State Fault Refusal :=
  whileRunning (serveBay (.start port len) port 0x11 len 1 true startLoad) s

/-! ### HOLD (R123) -/

/-- HOLD at the LM. -/
def holdLoad (i : Spout) (s : State) : Answer :=
  match loadOf s i with
  | none => refuse .wrongState s
  | some l =>
    match l.state with
    | .armed => refuse .wrongState s
    | .tailing => refuse .wrongState s
    | _ => accept (settle (lmHold [.bay] i s))

/-- HOLD. -/
def execHold (port : Port) (len : Nat) (s : State) : Host.Outcome State Fault Refusal :=
  whileRunning (serveBay (.hold port len) port 0x12 len 1 true holdLoad) s

/-! ### RESUME (R126) -/

/-- The latched causes that RESUME removes are gone: BAY, LINK, and INTERLOCK while the line is high (R126). -/
def resumedCauses (high : Bool) (x : Causes) : Causes :=
  { x with bay := false, link := false, interlock := x.interlock && !high }

/-- RESUME at the LM. -/
def resumeLoad (i : Spout) (s : State) : Answer :=
  match loadOf s i with
  | none => refuse .wrongState s
  | some l =>
    if l.state = .held then
      let l := { l with causes := resumedCauses (s.lm.interlock.get i) l.causes }
      let s := setLoad s i (some l)
      if l.causes = .none then accept (settle (enterWaiting i s))
      else { state := s, result := .conditionPresent, fields := beBytes 1 l.causes.bits }
    else refuse .wrongState s

/-- RESUME. -/
def execResume (port : Port) (len : Nat) (s : State) : Host.Outcome State Fault Refusal :=
  whileRunning (serveBay (.resume port len) port 0x13 len 1 true resumeLoad) s

/-! ### FINISH (R130) -/

/-- FINISH at the LM. -/
def finishLoad (i : Spout) (s : State) : Answer :=
  match loadOf s i with
  | none => refuse .wrongState s
  | some l =>
    match l.state with
    | .tailing => refuse .wrongState s
    | .discharging =>
      accept (settle (closeWithTail i (setLoad s i (some { l with state := .tailing, finished := true }))))
    | _ => accept (settle (endLoad i .finished false s))

/-- FINISH. -/
def execFinish (port : Port) (len : Nat) (s : State) : Host.Outcome State Fault Refusal :=
  whileRunning (serveBay (.finish port len) port 0x14 len 1 true finishLoad) s

/-! ### SPOUT STATUS (R138) -/

/-- SPOUT STATUS at the LM. -/
def spoutStatus (i : Spout) (s : State) : Answer :=
  { state := s, result := .ok, fields := spoutStatusFields s i }

/-- SPOUT_STATUS. -/
def execSpoutStatus (port : Port) (len : Nat) (s : State) : Host.Outcome State Fault Refusal :=
  whileRunning (serveBay (.spoutStatus port len) port 0x15 len 1 true spoutStatus) s

/-! ### CLEAR FAULT (R137) -/

/-- The feedback check of CLEAR FAULT: FRESH and at or below 20 per-mille (R137). -/
def feedbackShut (s : State) (i : Spout) : Bool :=
  decide ((s.sli.feedback.get i).state = .fresh) && decide ((s.sli.feedback.get i).lastGood ≤ 20)

/-- FAULT goes to CLOSED; any other mode stands (R106). -/
def unfault (i : Spout) (s : State) : State :=
  if (gateOf s i).mode = .fault then setGate s i { gateOf s i with mode := .closed } else s

/-- CLEAR FAULT at the LM, the SSU and the Gate Controller. -/
def clearFault (i : Spout) (s : State) : Answer :=
  if feedbackShut s i then
    let s := setLatch s i .clear
    let s := setSensor s i { sensorOf s i with driftSuspended := false }
    accept (unfault i s)
  else refuse .conditionPresent s

/-- CLEAR_FAULT. -/
def execClearFault (port : Port) (len : Nat) (s : State) : Host.Outcome State Fault Refusal :=
  whileRunning (serveBay (.clearFault port len) port 0x16 len 1 true clearFault) s

end Sys2Proof.Machine
end

