-- ==== Sys2Proof/Machine/DispatchRequests.lean ====
section
/-! DEFINITION. The meanings of the dispatch requests (chapters 2, 4, 8, 9, 10, 11). -/

namespace Sys2Proof.Machine

/-! ### Orders (R141 to R145) -/

/-- POST ORDER at the OTS (R141). -/
def postOrder (ref : Ref) (mass : Nat) (bays : PerSpout Bool) (tolerance : Nat) (s : State) : Answer :=
  if mass ≤ tolerance then refuse .outOfRange s
  else if (findOrder s ref).isSome then refuse .duplicate s
  else if 24 ≤ s.ots.orders.length then refuse .tableFull s
  else
    let o : Order :=
      { ref := ref, ordered := mass, bays := bays, tolerance := tolerance, loaded := 0, reserved := 0, state := .opened }
    accept (s.withOts { s.ots with orders := s.ots.orders ++ [o] })

/-- POST_ORDER. -/
def execPostOrder (port : Port) (len : Nat) (ref : Ref) (mass : BitVec 32) (baySet : Byte) (tolerance : BitVec 32)
    (s : State) : Host.Outcome State Fault Refusal :=
  whileRunning (serveDispatch (.postOrder port len ref mass baySet tolerance) port 0x20 len 18
    (refFormat ref && massFormat mass && decide (1 ≤ baySet.toNat) && decide (baySet.toNat ≤ 7) &&
      decide (tolerance.toNat ≤ 500000))
    (postOrder ref mass.toNat (bayOf baySet) tolerance.toNat)) s

/-- CANCEL ORDER at the OTS (R143). -/
def cancelOrder (ref : Ref) (s : State) : Answer :=
  match findOrder s ref with
  | none => refuse .noOrder s
  | some _ => accept (updateOrder ref (fun o => { o with state := .cancelled }) s)

/-- CANCEL_ORDER. -/
def execCancelOrder (port : Port) (len : Nat) (ref : Ref) (s : State) : Host.Outcome State Fault Refusal :=
  whileRunning (serveDispatch (.cancelOrder port len ref) port 0x21 len 9 (refFormat ref) (cancelOrder ref)) s

/-- REMOVE ORDER at the OTS (R144). -/
def removeOrder (ref : Ref) (s : State) : Answer :=
  match findOrder s ref with
  | none => refuse .noOrder s
  | some o =>
    if 0 < o.reserved then refuse .loadsOpen s
    else accept (s.withOts { s.ots with orders := s.ots.orders.filter fun x => decide (x.ref ≠ ref) })

/-- REMOVE_ORDER. -/
def execRemoveOrder (port : Port) (len : Nat) (ref : Ref) (s : State) : Host.Outcome State Fault Refusal :=
  whileRunning (serveDispatch (.removeOrder port len ref) port 0x22 len 9 (refFormat ref) (removeOrder ref)) s

/-- ORDER STATUS at the OTS (R145). -/
def orderStatus (ref : Ref) (s : State) : Answer :=
  match findOrder s ref with
  | none => refuse .noOrder s
  | some o => { state := s, result := .ok, fields := orderFields o }

/-- ORDER_STATUS. -/
def execOrderStatus (port : Port) (len : Nat) (ref : Ref) (s : State) : Host.Outcome State Fault Refusal :=
  whileRunning (serveDispatch (.orderStatus port len ref) port 0x23 len 9 (refFormat ref) (orderStatus ref)) s

/-! ### Tickets (R152, R153) -/

/-- READ TICKET at the OTS (R152). -/
def readTicket (s : State) : Answer :=
  match s.ots.tickets with
  | [] => refuse .none s
  | t :: _ => { state := s, result := .ok, fields := ticketFields t }

/-- READ_TICKET. -/
def execReadTicket (port : Port) (len : Nat) (s : State) : Host.Outcome State Fault Refusal :=
  whileRunning (serveDispatch (.readTicket port len) port 0x24 len 1 true readTicket) s

/-- TAKE TICKET at the OTS (R153). -/
def takeTicket (number : Nat) (s : State) : Answer :=
  match s.ots.tickets with
  | [] => refuse .none s
  | t :: rest =>
    if t.number = number then
      { state := s.withOts { s.ots with tickets := rest }, result := .ok, fields := beBytes 2 number }
    else refuse .notOldest s

/-- TAKE_TICKET. -/
def execTakeTicket (port : Port) (len : Nat) (number : BitVec 16) (s : State) : Host.Outcome State Fault Refusal :=
  whileRunning (serveDispatch (.takeTicket port len number) port 0x25 len 3 (decide (1 ≤ number.toNat))
    (takeTicket number.toNat)) s

/-! ### Status (R176, R177) -/

/-- BIN STATUS, formed by the PC. -/
def binStatus (s : State) : Answer := { state := s, result := .ok, fields := binStatusFields s }

/-- BIN_STATUS. -/
def execBinStatus (port : Port) (len : Nat) (s : State) : Host.Outcome State Fault Refusal :=
  whileRunning (serveDispatch (.binStatus port len) port 0x26 len 1 true binStatus) s

/-- PART STATUS, formed by the PC. -/
def partStatus (s : State) : Answer := { state := s, result := .ok, fields := partStatusFields s }

/-- PART_STATUS. -/
def execPartStatus (port : Port) (len : Nat) (s : State) : Host.Outcome State Fault Refusal :=
  whileRunning (serveDispatch (.partStatus port len) port 0x2F len 1 true partStatus) s

/-! ### Parameters (R181, R182, R184, R186) -/

/-- SET_PARAMETER. -/
def execSetParameter (port : Port) (len : Nat) (id : Byte) (value : BitVec 32) (s : State) :
    Host.Outcome State Fault Refusal :=
  whileRunning (serveDispatch (.setParameter port len id value) port 0x27 len 6 true (changeParam id value.toInt)) s

/-- READ PARAMETER at the PM (R181). -/
def readParameter (id : Byte) (s : State) : Answer :=
  match paramOfId id with
  | none => refuse .outOfRange s
  | some p => { state := s, result := .ok, fields := [id] ++ beSigned 4 (paramGet (working s) p) }

/-- READ_PARAMETER. -/
def execReadParameter (port : Port) (len : Nat) (id : Byte) (s : State) : Host.Outcome State Fault Refusal :=
  whileRunning (serveDispatch (.readParameter port len id) port 0x28 len 2 true (readParameter id)) s

/-- SAVE PARAMETERS at the PM (R184). -/
def saveParameters (s : State) : Answer :=
  if s.pm.status = .writing then refuse .busy s else accept (s.withPm (beginSave s.pm))

/-- SAVE_PARAMETERS. -/
def execSaveParameters (port : Port) (len : Nat) (s : State) : Host.Outcome State Fault Refusal :=
  whileRunning (serveDispatch (.saveParameters port len) port 0x29 len 1 true saveParameters) s

/-- SET CUSTODY LOCK at the PM (R186): a running zero is aborted when the lock goes from clear to set (R37). -/
def setCustodyLock (s : State) : Answer :=
  if s.pm.custodyLock then accept s else accept (abortZero (s.withPm { s.pm with custodyLock := true }))

/-- SET_CUSTODY_LOCK. -/
def execSetCustodyLock (port : Port) (len : Nat) (s : State) : Host.Outcome State Fault Refusal :=
  whileRunning (serveDispatch (.setCustodyLock port len) port 0x2B len 1 true setCustodyLock) s

/-! ### The bin (R35, R72, R163) -/

/-- The checks of ZERO BIN in their order (R35). -/
def zeroRefusal (s : State) : Option Result :=
  if s.pm.custodyLock then some .locked
  else if s.bmu.mode = .blind then some .notReady
  else if zeroRunning s || anyLoad s || s.sli.refillCommand then some .busy
  else none

/-- The zero operation begins; a window that already has a position filled is not used (R35, R36). -/
def beginZero (s : State) : State :=
  bscZeroStarted (s.withBmu { s.bmu with
    zero := { ZeroOp.idle with state := .running, skipWindow := decide (s.bmu.position ≠ 0) } })

/-- ZERO BIN at the BMU (R35). -/
def zeroBin (s : State) : Answer :=
  match zeroRefusal s with
  | some r => refuse r s
  | none => accept (beginZero s)

/-- ZERO_BIN. -/
def execZeroBin (port : Port) (len : Nat) (s : State) : Host.Outcome State Fault Refusal :=
  whileRunning (serveDispatch (.zeroBin port len) port 0x2A len 1 true zeroBin) s

/-- CLEAR UNASSIGNED at the OAU (R72). -/
def clearUnassigned (s : State) : Answer := accept (s.withOau { s.oau with unassigned := 0 })

/-- CLEAR_UNASSIGNED. -/
def execClearUnassigned (port : Port) (len : Nat) (s : State) : Host.Outcome State Fault Refusal :=
  whileRunning (serveDispatch (.clearUnassigned port len) port 0x2C len 1 true clearUnassigned) s

/-- CLEAR SUPPLY FAULT at the BSC (R163). -/
def clearSupplyFault (s : State) : Answer :=
  if s.bsc.supplyFault then
    accept (s.withBsc { s.bsc with
      supplyFault := false
      state := if s.bsc.blindRecord || s.bsc.zeroRecord then .suspended else .idle })
  else accept s

/-- CLEAR_SUPPLY_FAULT. -/
def execClearSupplyFault (port : Port) (len : Nat) (s : State) : Host.Outcome State Fault Refusal :=
  whileRunning (serveDispatch (.clearSupplyFault port len) port 0x2D len 1 true clearSupplyFault) s

/-! ### RESTART (R179, R188) -/

/-- RESTART is answered OK in every state; the warm restart is handed over when the reply has been sent. -/
def execRestart (port : Port) (len : Nat) (s : State) : Host.Outcome State Fault Refusal :=
  whileRunning (serveDispatch (.restart port len) port 0x2E len 1 true accept) s

end Sys2Proof.Machine
end

