-- ==== Sys2Proof/Machine/LineEvents.lean ====
section
/-! DEFINITION. The meanings of the lines' events and of the restarts (R127, R165, R187, R188). -/

namespace Sys2Proof.Machine

/-- The sampled level of an INTERLOCK line (R127). -/
def setInterlock (i : Spout) (high : Bool) (s : State) : State :=
  s.withLm { s.lm with interlock := s.lm.interlock.set i high }

/-- The states in which a load records hold causes and trips (R122, R127). -/
def LoadState.records : LoadState → Bool
  | .waiting | .discharging | .held => true
  | _ => false

/-- A trip counted on the spout's load, stopping at 255 (R127). -/
def countTrip (i : Spout) (s : State) : State :=
  match loadOf s i with
  | some l => if l.state.records then setLoad s i (some { l with trips := satAdd 255 l.trips 1 }) else s
  | none => s

/-- INTERLOCK_FALLING_EDGE (R127, log 17). -/
def execInterlockFallingEdge (spout : Spout) (s : State) : Host.Outcome State Fault Refusal :=
  whileRunning (fun s => settle (lmHold [.interlock] spout (countTrip spout (setInterlock spout false s)))) s

/-- INTERLOCK_RISING_EDGE (R127): changes the sampled level only. -/
def execInterlockRisingEdge (spout : Spout) (s : State) : Host.Outcome State Fault Refusal :=
  whileRunning (setInterlock spout true) s

/-- AERATION_OK_CHANGE (R165): the BSC's condition, then its reports to the DBA and the LM. A level that was already
sampled is no change (log 17). -/
def execAerationOkChange (high : Bool) (s : State) : Host.Outcome State Fault Refusal :=
  whileRunning (fun s =>
    if s.bsc.aerationHigh = high then s
    else settle (reportAeration (s.withBsc { s.bsc with aerationHigh := high }))) s

/-- COLD_START (R187): on power-up or on release of RESET, in any state. -/
def execColdStart (service : Bool) (lines : Lines) (s : State) : Host.Outcome State Fault Refusal :=
  .next (coldStart service lines s)

/-- WARM_RESTART (R188, log 20). -/
def execWarmRestart (lines : Lines) (s : State) : Host.Outcome State Fault Refusal :=
  whileRunning (warmRestart lines) s

/-- RESET_LINE_RAISED (R187). A part without power has nothing to put at rest. -/
def execResetLineRaised (s : State) : Host.Outcome State Fault Refusal := whileRunning raiseReset s

/-- POWER_LOST (R185). -/
def execPowerLost (s : State) : Host.Outcome State Fault Refusal := .next (losePower s)

end Sys2Proof.Machine
end

