-- ==== Sys2Proof/Machine/PortEvents.lean ====
section
/-! DEFINITION. The meanings of the ports' events, of the LM's taking of a window report, and of a request of an unknown
kind (chapter 10, R132). -/

namespace Sys2Proof.Machine

/-- PORT_BYTE_RECEIVED (R168 to R172). -/
def execPortByteReceived (port : Port) (byte : Byte) (stopHigh : Bool) (s : State) :
    Host.Outcome State Fault Refusal :=
  whileRunning (fun s => setPort s port (receiveByte port byte stopHigh (portOf s port))) s

/-- The reply to RESTART, answered OK (R179). -/
def isRestartReply (r : Reply) : Bool := decide (r.kind = 0xAE) && decide (r.result = .ok)

/-- The last byte of a reply has been sent: the port is IDLE (R172). The dispatch port takes up a new rate at that moment
(R178) and, after the reply to RESTART, hands the warm restart to the PM (R179). -/
def replyEnds (p : Port) (r : Reply) (s : State) : State :=
  let x := { portOf s p with receive := .idle, buffer := [], gapTimer := none, request := none, reply := none }
  match p with
  | .bay _ => setPort s p x
  | .dispatch =>
    let s := setPort s p { x with baud := (working s).portBaud }
    if isRestartReply r then s.withPm { s.pm with warmPending := true } else s

/-- REPLY_SENT (R172, R178, R179): nothing where no reply is being sent. -/
def execReplySent (port : Port) (s : State) : Host.Outcome State Fault Refusal :=
  whileRunning (fun s =>
    match (portOf s port).reply with
    | some r => replyEnds port r s
    | none => s) s

/-- PORT_BAUD_TAKEN_UP (R178): at a moment the port is IDLE. -/
def execPortBaudTakenUp (port : Port) (s : State) : Host.Outcome State Fault Refusal :=
  whileRunning (fun s =>
    if (portOf s port).receive = .idle then setPort s port { portOf s port with baud := (working s).portBaud } else s) s

/-- APPLY_WINDOW_REPORT (R132, R62, R63, R67). -/
def execApplyWindowReport (s : State) : Host.Outcome State Fault Refusal := whileRunning applyReport s

/-- UNKNOWN_REQUEST (R173, first check). A known kind is not this command and changes nothing (log 24). -/
def execUnknownRequest (port : Port) (kind : Byte) (len : Nat) (s : State) : Host.Outcome State Fault Refusal :=
  whileRunning (fun s =>
    if kindKnown kind then s
    else withRequest port (.unknownRequest port kind len) (answer port kind .unknown []) s) s

end Sys2Proof.Machine
end

