-- ==== Sys2Proof/Machine/SenseLink.lean ====
section
/-! DEFINITION. The meanings of the sense link's commands and of the timers of the link and its channels (chapter 1). -/

namespace Sys2Proof.Machine

/-- FRAME_SYNC (R2, R4, R16): a frame begins. In the FOLLOWER role a sync that finds a frame in progress is an early sync
(log 15). -/
def execFrameSync (s : State) : Host.Outcome State Fault Refusal :=
  whileRunning (fun s =>
    if (working s).syncRole = .follower ∧ s.sli.frameInProgress then earlySync s else beginFrame s) s

/-- FRAME_ARRIVAL (R3 to R15, and all that a frame position and a window close bring about). -/
def execFrameArrival (frame : InFrame) (order : Sched) (s : State) : Host.Outcome State Fault Refusal :=
  whileRunning (frameArrives frame order) s

/-- EARLY_SYNC (R4): in the MASTER role early sync does not arise (log 15). -/
def execEarlySync (s : State) : Host.Outcome State Fault Refusal :=
  whileRunning (fun s => if (working s).syncRole = .follower then earlySync s else s) s

/-- LOCK_TIMER_EXPIRY (R5, R7). -/
def execLockTimerExpiry (s : State) : Host.Outcome State Fault Refusal := whileRunning lockExpires s

/-- STALENESS_TIMER_EXPIRY (R13, R14). -/
def execStalenessTimerExpiry (channel : Chan) (s : State) : Host.Outcome State Fault Refusal :=
  whileRunning (staleExpires channel) s

end Sys2Proof.Machine
end

