-- ==== Sys2Proof/Machine/Timers.lean ====
section
/-! DEFINITION. The meanings of the other timers' expiries and of the end of a store write. An expiry acts when its timer
stands at or past its limit, so one that another event of the same tick has overtaken does nothing (log 2). -/

namespace Sys2Proof.Machine

/-! ### Which expiries are due -/

/-- The close timer of a CLOSING gate reaches GATE_CLOSE_MS (R104, R114). -/
def closeDue (s : State) (i : Spout) : Bool :=
  decide ((gateOf s i).mode = .closing) && reached (working s).gateCloseMs (gateOf s i).closeTimer

/-- The tail timer reaches TAIL_MAX_MS (R108, R114). -/
def tailDue (s : State) (i : Spout) : Bool := reached (working s).tailMaxMs ((gateOf s i).tail.map Tail.timer)

/-- The link timer reaches LINK_TIMEOUT_MS, which at 0 it never does (R128). -/
def linkDue (s : State) (i : Spout) : Bool :=
  decide ((working s).linkTimeoutMs ≠ 0) && reached (working s).linkTimeoutMs (s.lm.linkTimer.get i)

/-- The hold time of a HELD load exceeds HOLD_LIMIT_S × 1,000 ms, 0 being no limit (R129). -/
def holdDue (s : State) (i : Spout) : Bool :=
  match loadOf s i with
  | some l => decide (l.state = .held) && decide ((working s).holdLimitS ≠ 0) &&
      decide ((working s).holdLimitS * 1000 < l.holdMs)
  | none => false

/-- The deferral timer reaches REFILL_DEFER_MAX_S × 1,000 ms (R159). -/
def deferralDue (s : State) : Bool := reached ((working s).refillDeferMaxS * 1000) s.bsc.deferralTimer

/-- The refill timer reaches REFILL_MAX_S × 1,000 ms (R161). -/
def refillDue (s : State) : Bool := reached ((working s).refillMaxS * 1000) s.bsc.refillTimer

/-- The gap timer of a port reaches 20 ms (R169). -/
def gapDue (s : State) (p : Port) : Bool := reached 20 (portOf s p).gapTimer

/-- The save timer reaches 5,000 ms (R185). -/
def saveDue (s : State) : Bool := reached 5000 s.pm.saveTimer

/-! ### The meanings -/

/-- CLOSE_TIMER_EXPIRY (R104): GATE STUCK. -/
def execCloseTimerExpiry (spout : Spout) (s : State) : Host.Outcome State Fault Refusal :=
  whileRunning (fun s => if closeDue s spout then gateFault spout .gateStuck s else s) s

/-- TAIL_TIMER_EXPIRY (R108, R109). -/
def execTailTimerExpiry (spout : Spout) (s : State) : Host.Outcome State Fault Refusal :=
  whileRunning (fun s => if tailDue s spout then tailEnds spout s else s) s

/-- The link timer stops, and LINK is added (R122, R128). -/
def linkExpires (i : Spout) (s : State) : State :=
  settle (lmHold [.link] i (s.withLm { s.lm with linkTimer := s.lm.linkTimer.set i none }))

/-- LINK_TIMER_EXPIRY (R128): a request taken first has restarted the timer, and no LINK is added. -/
def execLinkTimerExpiry (spout : Spout) (s : State) : Host.Outcome State Fault Refusal :=
  whileRunning (fun s => if linkDue s spout then linkExpires spout s else s) s

/-- HOLD_EXPIRED (R129): a HELD load past its hold limit ends with HOLD EXPIRED. -/
def execHoldExpired (spout : Spout) (s : State) : Host.Outcome State Fault Refusal :=
  whileRunning (fun s => if holdDue s spout then settle (endLoad spout .holdExpired false s) else s) s

/-- DEFERRAL_TIMER_EXPIRY (R159): the deferred valve opens. -/
def execDeferralTimerExpiry (s : State) : Host.Outcome State Fault Refusal :=
  whileRunning (fun s => if s.bsc.state = .deferred ∧ deferralDue s then settle (openValve s) else s) s

/-- The refill times out: the valve closes and the supply fault is latched (R161). -/
def refillTimesOut (s : State) : State :=
  let s := closeValve .supplyFault s
  settle (s.withBsc { s.bsc with supplyFault := true })

/-- REFILL_TIMER_EXPIRY (R161). -/
def execRefillTimerExpiry (s : State) : Host.Outcome State Fault Refusal :=
  whileRunning (fun s => if s.bsc.state = .opened ∧ refillDue s then refillTimesOut s else s) s

/-- GAP_TIMER_EXPIRY (R169): the frame is abandoned and counted. -/
def execGapTimerExpiry (port : Port) (s : State) : Host.Outcome State Fault Refusal :=
  whileRunning (fun s =>
    if (portOf s port).receive = .receiving ∧ gapDue s port
    then setPort s port (discardFrame (portOf s port)) else s) s

/-- SAVE_TIMER_EXPIRY (R185). -/
def execSaveTimerExpiry (left : StoredImage) (s : State) : Host.Outcome State Fault Refusal :=
  whileRunning (fun s => if saveDue s then s.withPm (saveTimesOut left s.pm) else s) s

/-- SAVE_WRITE_COMPLETION (R185). -/
def execSaveWriteCompletion (readBack : StoredImage) (s : State) : Host.Outcome State Fault Refusal :=
  whileRunning (fun s => s.withPm (writeCompletes readBack s.pm)) s

end Sys2Proof.Machine
end

