-- ==== Sys2Proof/Machine/Dispatch.lean ====
section
/-! DEFINITION. The dispatch of a command to its meaning: one arm per row of spec/opcode_table.json. -/

namespace Sys2Proof.Machine

def exec (i : Instr) (s : State) : Host.Outcome State Fault Refusal :=
  match i with
  | .frameSync => Sys2Proof.Machine.execFrameSync s
  | .frameArrival frame order => Sys2Proof.Machine.execFrameArrival frame order s
  | .earlySync => Sys2Proof.Machine.execEarlySync s
  | .lockTimerExpiry => Sys2Proof.Machine.execLockTimerExpiry s
  | .stalenessTimerExpiry channel => Sys2Proof.Machine.execStalenessTimerExpiry channel s
  | .closeTimerExpiry spout => Sys2Proof.Machine.execCloseTimerExpiry spout s
  | .tailTimerExpiry spout => Sys2Proof.Machine.execTailTimerExpiry spout s
  | .linkTimerExpiry spout => Sys2Proof.Machine.execLinkTimerExpiry spout s
  | .holdExpired spout => Sys2Proof.Machine.execHoldExpired spout s
  | .deferralTimerExpiry => Sys2Proof.Machine.execDeferralTimerExpiry s
  | .refillTimerExpiry => Sys2Proof.Machine.execRefillTimerExpiry s
  | .gapTimerExpiry port => Sys2Proof.Machine.execGapTimerExpiry port s
  | .saveTimerExpiry left => Sys2Proof.Machine.execSaveTimerExpiry left s
  | .saveWriteCompletion readBack => Sys2Proof.Machine.execSaveWriteCompletion readBack s
  | .interlockFallingEdge spout => Sys2Proof.Machine.execInterlockFallingEdge spout s
  | .interlockRisingEdge spout => Sys2Proof.Machine.execInterlockRisingEdge spout s
  | .aerationOkChange high => Sys2Proof.Machine.execAerationOkChange high s
  | .coldStart service lines => Sys2Proof.Machine.execColdStart service lines s
  | .warmRestart lines => Sys2Proof.Machine.execWarmRestart lines s
  | .portByteReceived port byte stopHigh => Sys2Proof.Machine.execPortByteReceived port byte stopHigh s
  | .replySent port => Sys2Proof.Machine.execReplySent port s
  | .portBaudTakenUp port => Sys2Proof.Machine.execPortBaudTakenUp port s
  | .applyWindowReport => Sys2Proof.Machine.execApplyWindowReport s
  | .unknownRequest port kind len => Sys2Proof.Machine.execUnknownRequest port kind len s
  | .openLoad port len ref target rate => Sys2Proof.Machine.execOpenLoad port len ref target rate s
  | .start port len => Sys2Proof.Machine.execStart port len s
  | .hold port len => Sys2Proof.Machine.execHold port len s
  | .resume port len => Sys2Proof.Machine.execResume port len s
  | .finish port len => Sys2Proof.Machine.execFinish port len s
  | .spoutStatus port len => Sys2Proof.Machine.execSpoutStatus port len s
  | .clearFault port len => Sys2Proof.Machine.execClearFault port len s
  | .postOrder port len ref mass baySet tolerance => Sys2Proof.Machine.execPostOrder port len ref mass baySet tolerance s
  | .cancelOrder port len ref => Sys2Proof.Machine.execCancelOrder port len ref s
  | .removeOrder port len ref => Sys2Proof.Machine.execRemoveOrder port len ref s
  | .orderStatus port len ref => Sys2Proof.Machine.execOrderStatus port len ref s
  | .readTicket port len => Sys2Proof.Machine.execReadTicket port len s
  | .takeTicket port len number => Sys2Proof.Machine.execTakeTicket port len number s
  | .binStatus port len => Sys2Proof.Machine.execBinStatus port len s
  | .setParameter port len id value => Sys2Proof.Machine.execSetParameter port len id value s
  | .readParameter port len id => Sys2Proof.Machine.execReadParameter port len id s
  | .saveParameters port len => Sys2Proof.Machine.execSaveParameters port len s
  | .zeroBin port len => Sys2Proof.Machine.execZeroBin port len s
  | .setCustodyLock port len => Sys2Proof.Machine.execSetCustodyLock port len s
  | .clearUnassigned port len => Sys2Proof.Machine.execClearUnassigned port len s
  | .clearSupplyFault port len => Sys2Proof.Machine.execClearSupplyFault port len s
  | .restart port len => Sys2Proof.Machine.execRestart port len s
  | .partStatus port len => Sys2Proof.Machine.execPartStatus port len s
  | .resetLineRaised => Sys2Proof.Machine.execResetLineRaised s
  | .powerLost => Sys2Proof.Machine.execPowerLost s

end Sys2Proof.Machine
end

