-- ==== Sys2Proof/Machine/TimeBase.lean ====
section
/-! DEFINITION. What the part does with no command waiting (log 1): it takes its own events, and otherwise one millisecond
of the time base passes. -/

namespace Sys2Proof.Machine

/-! ### The part's own events -/

/-- A request taken from a frame and not yet answered reaches its owning block (R172, R173). -/
def untaken (x : PortState) : List Instr :=
  match x.request, x.reply with
  | some c, none => [c]
  | _, _ => []

/-- An IDLE port that does not yet run at the working rate takes it up (R178). -/
def baudDue (s : State) (p : Port) : List Instr :=
  if (portOf s p).receive = .idle ∧ (portOf s p).baud ≠ (working s).portBaud then [.portBaudTakenUp p] else []

def allPorts : List Port := [.bay .A, .bay .B, .bay .C, .dispatch]

/-- The lines as the part last sampled them. -/
def sampledLines (s : State) : Lines := { interlock := s.lm.interlock, aerationOk := s.bsc.aerationHigh }

/-- The events the part owes itself: requests to take, the window report to apply (R62), a warm restart handed over (R179)
and rates to take up (R178). DESIGN CHOICE: requests that wait on several ports are taken in the order bay A, B, C,
dispatch, where R175 keeps no order (log 29); a request that waits beside a window report is taken before it, so that a
FINISH ends its load without the report's credit, where R63 and R132 leave either order (log 34); and a request and a
report that wait when the warm restart has been handed over are taken before it, so that their effects stand, where R179
leaves that open (log 30). -/
def ownEvents (s : State) : List Instr :=
  (allPorts.flatMap fun p => untaken (portOf s p)) ++
  (if s.oau.reports = [] then [] else [.applyWindowReport]) ++
  (if s.pm.warmPending then [.warmRestart (sampledLines s)] else []) ++
  allPorts.flatMap (baudDue s)

/-! ### One millisecond (chapter 0, Conventions: Time) -/

def tickTimer (t : Option Nat) : Option Nat := t.map (· + 1)

/-- The staleness timer of a FRESH channel runs (R13). -/
def Channel.tick (c : Channel) : Channel := { c with timer := tickTimer c.timer }

/-- The lock timer, the staleness timers and the MASTER role's sync clock (R2, R5, R13). -/
def sliTick (w : Params) (x : Sli) : Sli :=
  { x with
    lockTimer := tickTimer x.lockTimer
    bin := x.bin.tick
    impact := PerSpout.of fun i => (x.impact.get i).tick
    feedback := PerSpout.of fun i => (x.feedback.get i).tick
    syncClockUs := match w.syncRole with
      | .master =>
        if w.framePeriodUs ≤ x.syncClockUs + 1000 then x.syncClockUs + 1000 - w.framePeriodUs
        else x.syncClockUs + 1000
      | .follower => x.syncClockUs }

/-- The MASTER role raises a sync at this tick (R2). -/
def syncDue (w : Params) (x : Sli) : Bool :=
  decide (w.syncRole = .master) && decide (w.framePeriodUs ≤ x.syncClockUs + 1000)

/-- A gate's timers: the close timer counts while the feedback channel is not AWAITING, the tail timer always (R103,
R108). -/
def Gate.tick (feedback : Channel) (g : Gate) : Gate :=
  { g with
    closeTimer := if feedback.state = .awaiting then g.closeTimer else tickTimer g.closeTimer
    tail := g.tail.map fun t => { t with timer := t.timer + 1 } }

/-- A load's hold time counts while it is HELD (R129). -/
def Load.tick (l : Load) : Load :=
  if l.state = .held then { l with holdMs := satAdd maxU32 l.holdMs 1 } else l

def PortState.tick (x : PortState) : PortState := { x with gapTimer := tickTimer x.gapTimer }

/-- Every running timer counts one millisecond. -/
def countMs (s : State) : State :=
  { s with
    sli := sliTick (working s) s.sli
    gate := PerSpout.of fun i => (gateOf s i).tick (s.sli.feedback.get i)
    lm := { s.lm with
      slot := PerSpout.of fun i => (loadOf s i).map Load.tick
      linkTimer := PerSpout.of fun i => tickTimer (s.lm.linkTimer.get i) }
    bsc := { s.bsc with
      deferralTimer := tickTimer s.bsc.deferralTimer
      refillTimer := tickTimer s.bsc.refillTimer }
    pc := { bay := PerSpout.of fun i => (s.pc.bay.get i).tick, dispatch := s.pc.dispatch.tick }
    pm := { s.pm with saveTimer := tickTimer s.pm.saveTimer } }

/-! ### The expiries that fall due -/

def raise (due : Bool) (c : Instr) : List Instr := if due then [c] else []

/-- DESIGN CHOICE (log 32): the staleness expiries of one tick are raised in this order, where R14 gives no order among
channels and the table has one row for all of them. -/
def allChannels : List Chan :=
  [.bin, .impact .A, .impact .B, .impact .C, .feedback .A, .feedback .B, .feedback .C]

/-- The timers of the gates and the loads; within a row of the table the spouts come in the order A, B, C (log 32). -/
def dueOfSpouts (s : State) : List Instr :=
  (Spout.all.flatMap fun i => raise (closeDue s i) (.closeTimerExpiry i)) ++
  (Spout.all.flatMap fun i => raise (tailDue s i) (.tailTimerExpiry i)) ++
  (Spout.all.flatMap fun i => raise (linkDue s i) (.linkTimerExpiry i)) ++
  Spout.all.flatMap fun i => raise (holdDue s i) (.holdExpired i)

/-- Every expiry due after a millisecond, in the order of the table (log 1); the spec gives none, nor one within a row
(log 32). -/
def dueExpiries (s : State) : List Instr :=
  raise (reached (lockLimitMs (working s)) s.sli.lockTimer) .lockTimerExpiry ++
  (allChannels.flatMap fun c => raise (reached (staleLimitMs (working s)) (channelOf s c).timer)
    (.stalenessTimerExpiry c)) ++
  dueOfSpouts s ++
  raise (deferralDue s) .deferralTimerExpiry ++
  raise (refillDue s) .refillTimerExpiry ++
  (allPorts.flatMap fun p => raise (gapDue s p) (.gapTimerExpiry p)) ++
  raise (saveDue s) (.saveTimerExpiry s.pm.image)

/-- One millisecond of the time base: the timers count, and the expiries that fall due and the MASTER role's sync are put
in the queue. -/
def tick (s : State) : State :=
  let t := countMs s
  t.withPending (dueExpiries t ++ raise (syncDue (working s) s.sli) .frameSync)

/-- What the part does on an empty queue while it runs (log 1). -/
def idle (s : State) : State :=
  if s.power = .running then
    match ownEvents s with
    | [] => tick s
    | es => s.withPending es
  else s

end Sys2Proof.Machine
end

