-- ==== Sys2Proof/Safety.lean ====
section
/-! DEFINITION. The terms in which claims about the machine are stated: the invariants that the manual's prose gives the
part, the frame of an event whose reports run on through the blocks, and the replies. Nothing here is read by the
machine. -/

namespace Sys2Proof.Machine

/-! ### Invariants -/

/-- The gates and the loads agree (R89, R91, R107, R117): the outbound command is the gate's command, which is 0 outside
the discharging modes; a gate in a discharging mode or with a pending grant has a DISCHARGING load; a tail has a TAILING
load. -/
structure GateInv (s : State) : Prop where
  outbound : ∀ i, s.sli.gateCommand.get i = (gateOf s i).command
  shut : ∀ i, (gateOf s i).mode.discharging = false → (gateOf s i).command = 0
  pendingCloses : ∀ i, (gateOf s i).pendingGrant.isSome → (gateOf s i).mode = .closing
  opened : ∀ i, (gateOf s i).mode.discharging = true ∨ (gateOf s i).pendingGrant.isSome →
    ∃ l, loadOf s i = some l ∧ l.state = .discharging
  tailing : ∀ i, (gateOf s i).tail.isSome → ∃ l, loadOf s i = some l ∧ l.state = .tailing

/-- The refill command stands open exactly in the refill state OPEN and exactly in the mode REFILLING, no refill is
deferred in BLIND, and the supply-fault latch is set exactly in SUPPLY FAULT (R31, R158 to R163). -/
structure RefillInv (s : State) : Prop where
  valve : s.sli.refillCommand = true ↔ s.bsc.state = .opened
  mode : s.sli.refillCommand = true ↔ s.bmu.mode = .refilling
  blind : s.bmu.mode = .blind → s.bsc.state ≠ .deferred
  latch : s.bsc.supplyFault = true ↔ s.bsc.state = .supplyFault

/-- The granted allocations fit in the effective budget, which is BUDGET or 0 (R74, R78). -/
structure BudgetInv (s : State) : Prop where
  budget : s.dba.effectiveBudget =
    if s.dba.aerationLow = true ∨ s.dba.starved = true then 0 else s.pm.working.budget
  fits : rateOf s.dba .A + rateOf s.dba .B + rateOf s.dba .C ≤ s.dba.effectiveBudget

/-- The allocation queue holds each spout at most once, only spouts whose load is WAITING under the number queued, and no
spout that holds an allocation (R77). -/
structure QueueInv (s : State) : Prop where
  once : (s.dba.queue.map QueuePlace.spout).Nodup
  waiting : ∀ q ∈ s.dba.queue, ∃ l, loadOf s q.spout = some l ∧ l.state = .waiting ∧ l.number = q.load
  noClaim : ∀ q ∈ s.dba.queue, s.dba.allocation.get q.spout = none

/-- A spout holds an allocation exactly while its gate is in a discharging mode or holds a pending grant, a spout whose gate
is in FAULT has no load, and a WAITING load has its queue place, under its number and at its rate (R76, R77, R80, R89, R91,
R106, R118). -/
structure ClaimInv (s : State) : Prop where
  granted : ∀ i, (s.dba.allocation.get i).isSome ↔
    (gateOf s i).mode.discharging = true ∨ (gateOf s i).pendingGrant.isSome
  faulted : ∀ i, (gateOf s i).mode = .fault → loadOf s i = none
  asked : ∀ i l, loadOf s i = some l → l.state = .waiting →
    ({ spout := i, load := l.number, rate := l.rate } : QueuePlace) ∈ s.dba.queue

/-- The gates, the loads, the queue and the allocations agree. -/
def GrantsAgree (s : State) : Prop := GateInv s ∧ QueueInv s ∧ BudgetInv s ∧ ClaimInv s

/-- How many load slots are occupied. -/
def openLoads (s : State) : Nat := (Spout.all.filter fun i => (loadOf s i).isSome).length

/-- The places held are the occupied slots, and with the queued tickets they are at most 16 (R149). -/
structure PlacesInv (s : State) : Prop where
  held : s.ots.placesHeld = openLoads s
  room : s.ots.tickets.length + s.ots.placesHeld ≤ 16

/-- The targets of the open loads that name a reference. -/
def reservedFor (s : State) (r : Ref) : Nat :=
  (Spout.all.map fun i => match loadOf s i with
    | some l => if l.order = r then l.target else 0
    | none => 0).sum

/-- At most 24 orders, each reference once; an order's reserved mass is the sum of the targets of the open loads that name
it, and every open load names an order of the table, with a target of at least 10,000 g (R140, R144, R147). -/
structure OrdersInv (s : State) : Prop where
  few : s.ots.orders.length ≤ 24
  once : (s.ots.orders.map Order.ref).Nodup
  reserved : ∀ o ∈ s.ots.orders, o.reserved = reservedFor s o.ref
  named : ∀ i l, loadOf s i = some l → 10000 ≤ l.target ∧ ∃ o ∈ s.ots.orders, o.ref = l.order

/-- A load is HELD exactly while its cause set is not empty, and its gravimetric-credited mass does not exceed D, which
does not exceed its four bytes (R62, R121, R122). -/
structure LoadInv (s : State) : Prop where
  held : ∀ i l, loadOf s i = some l → (l.state = .held ↔ l.causes ≠ .none)
  credited : ∀ i l, loadOf s i = some l → l.gravimetric ≤ l.d ∧ l.d ≤ 4294967295

/-- The ring holds at most 32 entries; the clean-run count, as far as the ring reaches, counts CLEAN newest entries; and in
GRAVIMETRIC it is at least RATE_SPAN and the window in progress is not marked REFILL (R25, R26, R30, R31). -/
structure HistoryInv (s : State) : Prop where
  short : s.bmu.ring.length ≤ 32
  run : s.bmu.cleanRun ≤ 255
  reach : min s.bmu.cleanRun 32 ≤ s.bmu.ring.length
  clean : ∀ e ∈ s.bmu.ring.drop (s.bmu.ring.length - min s.bmu.cleanRun 32),
    e.valid = true ∧ e.refill = false ∧ e.disturbed = false
  span : s.bmu.mode = .gravimetric → s.pm.working.rateSpan ≤ s.bmu.cleanRun ∧ s.bmu.refillMark = false

/-- Every working value lies in its range and the bin levels stand in their order (R112, R49, R182, R183); so that a
completed zero keeps BIN_ZERO in 24 bits, the raw sums stay within what their counts of 24-bit samples can make. -/
structure ParamInv (s : State) : Prop where
  sound : paramsSound s.pm.working = true
  window : -8388608 * (s.bmu.goodCount : Int) ≤ s.bmu.rawSum ∧ s.bmu.rawSum ≤ 8388607 * (s.bmu.goodCount : Int)
  zero : -8388608 * (s.bmu.zero.sampleCount : Int) ≤ s.bmu.zero.rawSum ∧
    s.bmu.zero.rawSum ≤ 8388607 * (s.bmu.zero.sampleCount : Int)

/-- The counters lie in the ranges the manual states: the link's two, the unassigned account, the load and ticket numbers,
the fault counts, the ports' errors, the solo and leak counters, the interlock trips, the windows of a zero and a tail's
low-flow count (R17, R36, R47, R52, R71, R107, R108, R116, R127, R136, R150, R171). -/
structure CounterInv (s : State) : Prop where
  frames : s.sli.frameErrors ≤ 65535 ∧ s.sli.missedFrames ≤ 65535
  unassigned : s.oau.unassigned ≤ 999999999999
  loads : 1 ≤ s.lm.counter ∧ s.lm.counter ≤ 65535
  tickets : 1 ≤ s.ots.counter ∧ s.ots.counter ≤ 65535
  faults : ∀ i, (latchOf s i).count ≤ 255
  ports : ∀ p, (portOf s p).errors ≤ 65535
  sensors : ∀ i, (sensorOf s i).solo ≤ 255 ∧ (sensorOf s i).leakSet ≤ 9 ∧ (sensorOf s i).leakClear ≤ 9
  trips : ∀ i l, loadOf s i = some l → l.trips ≤ 255
  zero : s.bmu.zero.windowCount ≤ 20 ∧ (s.bmu.zero.state = .running → s.bmu.zero.windowCount ≤ 19)
  tails : ∀ i x, (gateOf s i).tail = some x → x.lowCount ≤ 4

/-! ### The frame of an event -/

/-- WAITING, DISCHARGING or HELD: the states in which hold causes are recorded (R122). -/
def recordsHolds (x : LoadState) : Prop := x = .waiting ∨ x = .discharging ∨ x = .held

/-- A latched cause or SENSE stands in the set: such a load stays HELD until an event acts on it (R122, R125, R126). -/
def latchedIn (x : Causes) : Prop := x.bay = true ∨ x.interlock = true ∨ x.link = true ∨ x.sense = true

/-- What holds, releases, requests, grants and fresh demands may do to one spout's load: nothing to an empty slot or to an
ARMED or TAILING load; otherwise its state moves among WAITING, DISCHARGING and HELD and its causes change, the latched
ones and SENSE only where the event acts on the spout (R121 to R125). -/
def LoadRunsOn (acted : Prop) (l l' : Option Load) : Prop :=
  match l with
  | none => l' = none
  | some l => ∃ x, l' = some x ∧ x = { l with state := x.state, causes := x.causes } ∧
      (l.state = .armed ∨ l.state = .tailing → x = l) ∧ (recordsHolds l.state → recordsHolds x.state) ∧
      (¬ acted → x.causes.bay = l.causes.bay ∧ x.causes.interlock = l.causes.interlock ∧
        x.causes.link = l.causes.link ∧ x.causes.sense = l.causes.sense ∧
        (l.state = .held → latchedIn l.causes → x.state = .held))

/-- A spout whose gate these reports leave alone: its gate is in FAULT, its slot is empty, or its load is ARMED, TAILING,
or HELD with a latched cause or SENSE while the event does not act on it (such a load asks for no grant, R121, R126). -/
def gateIdle (acted : Prop) (l : Option Load) (g : Gate) : Prop :=
  g.mode = .fault ∨ ∀ x, l = some x →
    x.state = .armed ∨ x.state = .tailing ∨ ¬ acted ∧ x.state = .held ∧ latchedIn x.causes

/-- What the same reports may do to one spout's gate: nothing to an idle one, and nothing to a cutoff record or a tail. -/
def GateRunsOn (acted : Prop) (l : Option Load) (g g' : Gate) : Prop :=
  g'.cutoff = g.cutoff ∧ g'.tail = g.tail ∧ (gateIdle acted l g → g' = g)

/-- State `t` is state `s` but for what the reports of one event among the LM, the DBA, the Gate Controllers, the SSU's
demands and the BSC's deferred valve may change (R46, R76 to R82, R89 to R91, R102, R117, R121, R122, R156, R159). The
event itself acts on the loads of `acts`. -/
structure RunsOn (acts : List Spout) (s t : State) : Prop where
  power : t.power = s.power
  ots : t.ots = s.ots
  pc : t.pc = s.pc
  pm : t.pm = s.pm
  pending : t.pending = s.pending
  sli : t.sli = { s.sli with gateCommand := t.sli.gateCommand, refillCommand := t.sli.refillCommand }
  bmu : t.bmu = { s.bmu with mode := t.bmu.mode, refillMark := t.bmu.refillMark }
  ssu : ∀ i, sensorOf t i = { sensorOf s i with demand := (sensorOf t i).demand }
  oau : t.oau = { s.oau with modeRecord := t.oau.modeRecord, carry := t.oau.carry }
  dba : t.dba = { s.dba with allocation := t.dba.allocation, queue := t.dba.queue }
  lm : t.lm = { s.lm with slot := t.lm.slot, demand := t.lm.demand }
  bsc : t.bsc = { s.bsc with
    state := t.bsc.state, deferralTimer := t.bsc.deferralTimer, refillTimer := t.bsc.refillTimer,
    dribbleSet := t.bsc.dribbleSet }
  /-- Nothing of the refill moves unless it was deferred, and then only to OPEN (R159). -/
  valve : t.sli.refillCommand = s.sli.refillCommand ∧ t.bmu.mode = s.bmu.mode ∧ t.bmu.refillMark = s.bmu.refillMark ∧
      t.oau.modeRecord = s.oau.modeRecord ∧ t.oau.carry = s.oau.carry ∧ t.bsc.state = s.bsc.state ∧
      t.bsc.deferralTimer = s.bsc.deferralTimer ∧ t.bsc.refillTimer = s.bsc.refillTimer ∨
    s.bsc.state = .deferred ∧ t.bsc.state = .opened ∧ t.sli.refillCommand = true ∧ t.bmu.refillMark = true ∧
      (s.bmu.mode ≠ .blind → t.bmu.mode = .refilling) ∧ t.bsc.deferralTimer = none ∧ t.bsc.refillTimer = some 0
  load : ∀ i, LoadRunsOn (i ∈ acts) (loadOf s i) (loadOf t i)
  gate : ∀ i, GateRunsOn (i ∈ acts) (loadOf s i) (gateOf s i) (gateOf t i)
  command : ∀ i, gateIdle (i ∈ acts) (loadOf s i) (gateOf s i) → t.sli.gateCommand.get i = s.sli.gateCommand.get i

/-! ### Sense link -/

/-- A slot whose sample field is `n` and whose condition byte is 0 (R180). -/
def slotOf (n : Nat) : Slot := BitVec.ofNat 24 n ++ (0 : BitVec 8)

/-- A well-formed frame of sequence number `n` (R3, R180). -/
def wellFormed (f : InFrame) (n : Nat) : Prop := n ≤ 255 ∧ f.sequence = slotOf n

/-- The sample of a slot whose condition is 0 (R12, R180); the feedback channels' samples must lie in 0..1000. -/
def sampleOf (x : Slot) : Option Int :=
  if x.extractLsb' 0 8 = 0 then some (x.extractLsb' 8 24).toInt else none

def feedbackSample (x : Slot) : Option Int :=
  match sampleOf x with
  | some v => if 0 ≤ v ∧ v ≤ 1000 then some v else none
  | none => none

/-- A channel after a frame: a good sample makes it FRESH and restarts its timer, any other leaves it (R12, R13). -/
def channelAfter (good : Option Int) (c : Channel) : Channel :=
  match good with
  | some v => { state := .fresh, lastGood := v, timer := some 0 }
  | none => c

/-- The indicated flow of a spout on a frame: from a good sample, from the held one while the channel is FRESH, else 0
(R15, R40). -/
def frameFlow (f : InFrame) (s : State) (i : Spout) : Nat :=
  let flow := fun v : Int =>
    min 400000 ((max 0 (v - s.pm.working.spoutZero.get i)).toNat * s.pm.working.spoutGain.get i / 65536)
  match sampleOf (f.impact.get i) with
  | some v => flow v
  | none => if (s.sli.impact.get i).state = .fresh then flow (s.sli.impact.get i).lastGood else 0

/-- A flag byte, bit 0 first (chapter 10, Layouts). -/
def flags (bs : List Bool) : List Byte :=
  [BitVec.ofNat 8 (bs.foldr (fun b n => (if b then 1 else 0) + 2 * n) 0)]

/-- The mean of the newest VALID entry of the ring, or none (R155, R176). -/
def newestLevel (s : State) : Option Int := ((s.bmu.ring.filter Entry.valid).getLast?).map Entry.mean

/-! ### Replies -/

/-- A port with a request in progress and the one reply formed for it (R172, R174). -/
def answered (x : PortState) (c : Instr) (kind : Byte) (r : Result) (fields : List Byte) : PortState :=
  { x with
    receive := .answering, buffer := [], gapTimer := none, request := some c,
    reply := some { kind := kind, result := r, fields := fields } }

/-- Port `p` takes the request `c`: it is not ANSWERING, or `c` is its request in progress and has no reply yet (R172;
that a port takes it in RECEIVING too is log 3). -/
def takes (p : Port) (c : Instr) (s : State) : Prop :=
  (portOf s p).receive ≠ .answering ∨ (portOf s p).request = some c ∧ (portOf s p).reply = none

/-- The dispatch port has taken a request and formed its reply. -/
def onDispatch (c : Instr) (kind : Byte) (r : Result) (fields : List Byte) (s : State) : State :=
  { s with pc := { s.pc with dispatch := answered s.pc.dispatch c kind r fields } }

/-- A bay port has taken a request: its link timer restarts, if the slot holds a load (R128, R173). -/
def bayTaken (i : Spout) (s : State) : State :=
  { s with lm := { s.lm with
    linkTimer := if (s.lm.slot.get i).isSome then s.lm.linkTimer.set i (some 0) else s.lm.linkTimer } }

/-- A bay port has taken a request and formed its reply; the link timer is `bayTaken`'s. -/
def onBay (i : Spout) (c : Instr) (kind : Byte) (r : Result) (fields : List Byte) (s : State) : State :=
  { s with pc := { s.pc with bay := s.pc.bay.set i (answered (s.pc.bay.get i) c kind r fields) } }

/-! ### What a request's form is (R173, the table under "Request kinds") -/

/-- The form of a request: its port, the L it carries, its kind byte, the L its kind gives, whether it is a bay kind, and
whether its fields lie in the formats the PC checks. -/
structure Form where
  port : Port
  len : Nat
  kind : Byte
  want : Nat
  bay : Bool
  formats : Bool
  deriving DecidableEq, Repr

/-- A reference of printable characters. -/
def printable (r : Ref) : Bool := decide (r.length = 8) && r.all fun b => decide (32 ≤ b.toNat) && decide (b.toNat ≤ 126)

/-- A mass field in 10,000..4,000,000,000. -/
def massField (m : BitVec 32) : Bool := decide (10000 ≤ m.toNat) && decide (m.toNat ≤ 4000000000)

/-- The form of each request of a known kind; every other command has none. -/
def requestForm : Instr → Option Form
  | .openLoad p n ref target rate =>
    some ⟨p, n, 0x10, 17, true, printable ref && massField target && decide (rate.toNat ≤ 400000)⟩
  | .start p n => some ⟨p, n, 0x11, 1, true, true⟩
  | .hold p n => some ⟨p, n, 0x12, 1, true, true⟩
  | .resume p n => some ⟨p, n, 0x13, 1, true, true⟩
  | .finish p n => some ⟨p, n, 0x14, 1, true, true⟩
  | .spoutStatus p n => some ⟨p, n, 0x15, 1, true, true⟩
  | .clearFault p n => some ⟨p, n, 0x16, 1, true, true⟩
  | .postOrder p n ref mass bays tol =>
    some ⟨p, n, 0x20, 18, false, printable ref && massField mass && decide (1 ≤ bays.toNat) &&
      decide (bays.toNat ≤ 7) && decide (tol.toNat ≤ 500000)⟩
  | .cancelOrder p n ref => some ⟨p, n, 0x21, 9, false, printable ref⟩
  | .removeOrder p n ref => some ⟨p, n, 0x22, 9, false, printable ref⟩
  | .orderStatus p n ref => some ⟨p, n, 0x23, 9, false, printable ref⟩
  | .readTicket p n => some ⟨p, n, 0x24, 1, false, true⟩
  | .takeTicket p n number => some ⟨p, n, 0x25, 3, false, decide (1 ≤ number.toNat)⟩
  | .binStatus p n => some ⟨p, n, 0x26, 1, false, true⟩
  | .setParameter p n _ _ => some ⟨p, n, 0x27, 6, false, true⟩
  | .readParameter p n _ => some ⟨p, n, 0x28, 2, false, true⟩
  | .saveParameters p n => some ⟨p, n, 0x29, 1, false, true⟩
  | .zeroBin p n => some ⟨p, n, 0x2A, 1, false, true⟩
  | .setCustodyLock p n => some ⟨p, n, 0x2B, 1, false, true⟩
  | .clearUnassigned p n => some ⟨p, n, 0x2C, 1, false, true⟩
  | .clearSupplyFault p n => some ⟨p, n, 0x2D, 1, false, true⟩
  | .restart p n => some ⟨p, n, 0x2E, 1, false, true⟩
  | .partStatus p n => some ⟨p, n, 0x2F, 1, false, true⟩
  | .frameSync => none
  | .frameArrival _ _ => none
  | .earlySync => none
  | .lockTimerExpiry => none
  | .stalenessTimerExpiry _ => none
  | .closeTimerExpiry _ => none
  | .tailTimerExpiry _ => none
  | .linkTimerExpiry _ => none
  | .holdExpired _ => none
  | .deferralTimerExpiry => none
  | .refillTimerExpiry => none
  | .gapTimerExpiry _ => none
  | .saveTimerExpiry _ => none
  | .saveWriteCompletion _ => none
  | .interlockFallingEdge _ => none
  | .interlockRisingEdge _ => none
  | .aerationOkChange _ => none
  | .coldStart _ _ => none
  | .warmRestart _ => none
  | .portByteReceived _ _ _ => none
  | .replySent _ => none
  | .portBaudTakenUp _ => none
  | .applyWindowReport => none
  | .unknownRequest _ _ _ => none
  | .resetLineRaised => none
  | .powerLost => none

/-- A 32-bit field, most significant byte first. -/
def field32 (v : BitVec 32) : List Byte :=
  [v.extractLsb' 24 8, v.extractLsb' 16 8, v.extractLsb' 8 8, v.extractLsb' 0 8]

/-- The field bytes of a request, in the order of the table under "Request kinds". -/
def requestFields : Instr → List Byte
  | .openLoad _ _ ref target rate => ref ++ field32 target ++ field32 rate
  | .postOrder _ _ ref mass bays tol => ref ++ field32 mass ++ [bays] ++ field32 tol
  | .cancelOrder _ _ ref => ref
  | .removeOrder _ _ ref => ref
  | .orderStatus _ _ ref => ref
  | .takeTicket _ _ number => [number.extractLsb' 8 8, number.extractLsb' 0 8]
  | .setParameter _ _ id value => [id] ++ field32 value
  | .readParameter _ _ id => [id]
  | _ => []

/-! ### The end of a load and a gate fault -/

/-- The state a load's end leaves before the queue is examined (R133): the OTS completed, the slot empty, the link timer
stopped, the tail, the cutoff record and a pending grant gone, the pending part gone if it names the load. The DBA's
removal is left open here (`RunsOn` leaves allocations and queue free). -/
def endedBase (i : Spout) (l : Load) (cause : EndCause) (s : State) : State :=
  { s with
    ots := (complete i l cause s).ots
    lm := { s.lm with slot := s.lm.slot.set i none, linkTimer := s.lm.linkTimer.set i none }
    gate := s.gate.set i { gateOf s i with tail := none, cutoff := none, pendingGrant := none }
    oau := { s.oau with
      pending := match s.oau.pending.get i with
        | some p => if p.load = l.number then s.oau.pending.set i none else s.oau.pending
        | none => s.oau.pending } }

/-- A fault latch after one more report (R136). -/
def latchAfter (x : FaultLatch) (kind : FaultKind) (l : Option Load) : FaultLatch :=
  match x.fault with
  | none => { fault := some { kind := kind, load := l.map Load.number, d := (l.map Load.d).getD 0 }, count := 1 }
  | some _ => { x with count := min 255 (x.count + 1) }

/-- The state a gate fault leaves before the load's end: the gate in FAULT and the fault latched (R106, R136). -/
def faultedBase (i : Spout) (kind : FaultKind) (s : State) : State :=
  { s with
    gate := s.gate.set i { gateOf s i with
      mode := .fault, command := 0, closeTimer := none, pendingGrant := none, flowSum := 0, flowCount := 0 }
    sli := { s.sli with gateCommand := s.sli.gateCommand.set i 0 }
    lm := { s.lm with latch := s.lm.latch.set i (latchAfter (s.lm.latch.get i) kind (loadOf s i)) } }

/-- The state a gate fault leaves before the queue is examined: the spout's load, if any, ended with SPOUT FAULT and the
fault noted as its first (R135). -/
def faultEndedBase (i : Spout) (kind : FaultKind) (s : State) : State :=
  match loadOf s i with
  | none => faultedBase i kind s
  | some l =>
    endedBase i { l with firstFault := some (l.firstFault.getD kind) } .spoutFault (faultedBase i kind s)

/-! ### Holds -/

/-- A gate after a close order (R102). -/
def closedGate (g : Gate) : Gate :=
  if g.mode.discharging then { g with mode := .closing, command := 0, closeTimer := some 0 }
  else if g.mode = .closing then { g with pendingGrant := none }
  else g

/-- The gate of spout `i` after a close order, with its outbound command (R89, R102). -/
def orderClosed (i : Spout) (s : State) : State :=
  { s with
    gate := s.gate.set i (closedGate (gateOf s i))
    sli := { s.sli with gateCommand :=
      if (gateOf s i).mode.discharging then s.sli.gateCommand.set i 0 else s.sli.gateCommand } }

/-- The load `l` of spout `i` HELD with one more cause; a DISCHARGING load's gate has its plain close (R122). -/
def heldBase (c : Cause) (i : Spout) (l : Load) (s : State) : State :=
  let s := if l.state = .discharging then orderClosed i s else s
  { s with lm := { s.lm with
    slot := s.lm.slot.set i (some { l with state := .held, causes := l.causes.put c true }) } }

/-- A gate that the event takes out of DRIBBLE has left the dribble set, and a departure that empties the set in DEFERRED
has opened the valve (R156, R159, R190). -/
def LeavesDribble (i : Spout) (s t : State) : Prop :=
  (gateOf s i).mode = .dribble → t.bsc.dribbleSet.get i = false ∧
    (s.bsc.state = .deferred → (∀ j, j ≠ i → s.bsc.dribbleSet.get j = false) →
      t.bsc.state = .opened ∧ t.bsc.deferralTimer = none ∧ t.bsc.refillTimer = some 0 ∧
      t.sli.refillCommand = true ∧ t.bmu.refillMark = true)

/-- Nothing in the queue can be granted: its head, if there is one, has no rate or does not fit the room (R78, R79). -/
def queueWaits (s : State) : Prop :=
  ∀ q rest, s.dba.queue = q :: rest → ¬ (0 < min q.rate s.pm.working.budget ∧
    rateOf s.dba .A + rateOf s.dba .B + rateOf s.dba .C + min q.rate s.pm.working.budget ≤ s.dba.effectiveBudget)

/-- The load of spout `i` is DISCHARGING or TAILING. -/
def draws (s : State) (i : Spout) : Prop := ∃ l, loadOf s i = some l ∧ (l.state = .discharging ∨ l.state = .tailing)

/-- Spout `i` has neither an allocation nor a place in the queue. -/
def noClaim (i : Spout) (s : State) : Prop :=
  s.dba.allocation.get i = none ∧ ∀ q ∈ s.dba.queue, q.spout ≠ i

/-! ### Requests for an allocation -/

/-- The state that the entry of `l` into WAITING leaves before the queue is examined (R76, R121): a spout that has a claim
asks for nothing more; a request while a supply condition is present at the DBA is reported back as revoked, and the load
is HELD with the conditions; any other takes a place at the tail of the queue. -/
def askedBase (i : Spout) (l : Load) (s : State) : State :=
  let filled := fun x : Load => { s with lm := { s.lm with slot := s.lm.slot.set i (some x) } }
  if (s.dba.allocation.get i).isSome ∨ i ∈ s.dba.queue.map QueuePlace.spout then filled l
  else if s.dba.aerationLow = true ∨ s.dba.starved = true then
    filled { l with
      state := .held
      causes := { l.causes with
        aeration := l.causes.aeration || s.dba.aerationLow, starve := l.causes.starve || s.dba.starved } }
  else { filled l with
    dba := { s.dba with queue := s.dba.queue ++ [{ spout := i, load := l.number, rate := l.rate }] } }

/-- What a request has come to when its event has run on from `s` to `t` (R76 to R79): the spout has its allocation, at its
effective rate or BUDGET when lower, with its load DISCHARGING; or it has its place, with its load still WAITING, behind
only places that stood in the queue before. With every demand as last reported (R46) the place is the tail. -/
def Asked (i : Spout) (l : Load) (s t : State) : Prop :=
  (∃ x, loadOf t i = some x ∧ x = { l with state := .discharging, causes := x.causes } ∧
    t.dba.allocation.get i = some { load := l.number, rate := min l.rate s.pm.working.budget } ∧
    ∀ q ∈ t.dba.queue, q.spout ≠ i) ∨
  (loadOf t i = some l ∧ t.dba.allocation.get i = none ∧
    ∃ pre post, t.dba.queue = pre ++ { spout := i, load := l.number, rate := l.rate } :: post ∧
      pre.Sublist s.dba.queue ∧ ((∀ j, (sensorOf s j).demand = demandOf s j) → post = []))

end Sys2Proof.Machine
end

