-- ==== Sys2Proof/WellFormed.lean ====
section
/-! DEFINITION. Which commands a port or a line can send: a request's L lies in 1..120 (chapter 10, "Bytes and frames"), a
reference is eight bytes, and an unknown request's kind is none of the known ones. The meanings are total: they take
ill-formed commands too (log 24). -/

namespace Sys2Proof

/-- L, the number of body bytes, lies in 1..120. -/
def lenWf (len : Nat) : Bool := decide (1 ≤ len) && decide (len ≤ 120)

/-- A reference field is eight bytes. -/
def refWf (r : Ref) : Bool := decide (r.length = 8)

/-- A well-formed command. -/
def Instr.wf : Instr → Bool
  | .frameSync => true
  | .frameArrival _ _ => true
  | .earlySync => true
  | .lockTimerExpiry => true
  | .stalenessTimerExpiry _ => true
  | .closeTimerExpiry _ => true
  | .tailTimerExpiry _ => true
  | .linkTimerExpiry _ => true
  | .holdExpired _ => true
  | .deferralTimerExpiry => true
  | .refillTimerExpiry => true
  | .gapTimerExpiry _ => true
  | .saveTimerExpiry _ => true
  | .saveWriteCompletion _ => true
  | .interlockFallingEdge _ => true
  | .interlockRisingEdge _ => true
  | .aerationOkChange _ => true
  | .coldStart _ _ => true
  | .warmRestart _ => true
  | .portByteReceived _ _ _ => true
  | .replySent _ => true
  | .portBaudTakenUp _ => true
  | .applyWindowReport => true
  | .unknownRequest _ kind len => lenWf len && !Machine.kindKnown kind
  | .openLoad _ len ref _ _ => lenWf len && refWf ref
  | .start _ len => lenWf len
  | .hold _ len => lenWf len
  | .resume _ len => lenWf len
  | .finish _ len => lenWf len
  | .spoutStatus _ len => lenWf len
  | .clearFault _ len => lenWf len
  | .postOrder _ len ref _ _ _ => lenWf len && refWf ref
  | .cancelOrder _ len ref => lenWf len && refWf ref
  | .removeOrder _ len ref => lenWf len && refWf ref
  | .orderStatus _ len ref => lenWf len && refWf ref
  | .readTicket _ len => lenWf len
  | .takeTicket _ len _ => lenWf len
  | .binStatus _ len => lenWf len
  | .setParameter _ len _ _ => lenWf len
  | .readParameter _ len _ => lenWf len
  | .saveParameters _ len => lenWf len
  | .zeroBin _ len => lenWf len
  | .setCustodyLock _ len => lenWf len
  | .clearUnassigned _ len => lenWf len
  | .clearSupplyFault _ len => lenWf len
  | .restart _ len => lenWf len
  | .partStatus _ len => lenWf len
  | .resetLineRaised => true
  | .powerLost => true

end Sys2Proof
end

