-- ==== Sys2Proof/Certificates/Slice0/Obligations.lean ====
section
/-! DEFINITION. The statements for the provers. Each docstring names the rules of spec/ that the statement rests on, and
the log entries where it states the model's own choice. Where an event's reports run on through the blocks, the statement
says `RunsOn base t`: the next state is `base` but for what those reports may change, in the order of log 5. -/

open Sys2Proof Sys2Proof.Machine

/-! ### The machine as a whole -/

/-- The command at the front of the queue is taken off it and run; `step` adds nothing, and no command touches the queue
(the form of a block; log 21). -/
def Obligations.StepRunsTheFrontCommand : Prop :=
  (∀ (c : Instr) (rest : List Instr) (s : State), s.pending = c :: rest →
    step s = exec c { s with pending := rest }) ∧
  ∀ (c : Instr) (s t : State), exec c s = .next t → t.pending = s.pending

/-- With no command waiting the part takes the events it owes itself: the requests of ports that no block has taken,
the window report that waits, the warm restart that has been handed over, and an IDLE port's new rate, and nothing
else. With none of them one millisecond passes on every running timer and on the MASTER role's sync clock, and nothing
else moves; the expiries that then stand at or past their limits, and the MASTER role's sync, are put in the queue (R2,
R5, R13, R62, R103, R108, R128, R129, R159, R161, R169, R172, R178, R179, R185). The step itself is the model's choice,
log 1; so is the order of its own events, logs 29, 30 and 34, that its WARM_RESTART carries the INTERLOCK and AERATION
levels last sampled, log 12, the sync's tick, log 19, and the image that its SAVE_TIMER_EXPIRY leaves, log 11. That the
hold time stops at 4,294,967,295 ms is DEDUCED, log 9. -/
def Obligations.IdleStepTakesOwnEventsOrAMillisecond : Prop :=
  ∀ s : State, s.pending = [] →
    (s.power ≠ .running → step s = .next s) ∧
    (let taken := fun p => match (portOf s p).request, (portOf s p).reply with
      | some c, none => [c]
      | _, _ => []
     let rate := fun p => if (portOf s p).receive = .idle ∧ (portOf s p).baud ≠ s.pm.working.portBaud
      then [Instr.portBaudTakenUp p] else []
     ownEvents s =
      taken (.bay .A) ++ taken (.bay .B) ++ taken (.bay .C) ++ taken .dispatch ++
      (if s.oau.reports = [] then [] else [.applyWindowReport]) ++
      (if s.pm.warmPending then [.warmRestart { interlock := s.lm.interlock, aerationOk := s.bsc.aerationHigh }] else []) ++
      rate (.bay .A) ++ rate (.bay .B) ++ rate (.bay .C) ++ rate .dispatch) ∧
    (s.power = .running → ownEvents s ≠ [] → step s = .next { s with pending := ownEvents s }) ∧
    (s.power = .running → ownEvents s = [] → ∃ t, step s = .next t ∧
      (let ticked := fun c : Channel => { c with timer := c.timer.map (· + 1) }
       t.sli = { s.sli with
        lockTimer := s.sli.lockTimer.map (· + 1)
        bin := ticked s.sli.bin
        impact := .of fun i => ticked (s.sli.impact.get i)
        feedback := .of fun i => ticked (s.sli.feedback.get i)
        syncClockUs := if s.pm.working.syncRole = .follower then s.sli.syncClockUs
          else if s.pm.working.framePeriodUs ≤ s.sli.syncClockUs + 1000
            then s.sli.syncClockUs + 1000 - s.pm.working.framePeriodUs
          else s.sli.syncClockUs + 1000 }) ∧
      (∀ i, gateOf t i = { gateOf s i with
        closeTimer := if (s.sli.feedback.get i).state = .awaiting then (gateOf s i).closeTimer
          else (gateOf s i).closeTimer.map (· + 1)
        tail := (gateOf s i).tail.map fun x => { x with timer := x.timer + 1 } }) ∧
      t.lm = { s.lm with
        linkTimer := .of fun i => (s.lm.linkTimer.get i).map (· + 1)
        slot := .of fun i => (loadOf s i).map fun l =>
          if l.state = .held then { l with holdMs := min 4294967295 (l.holdMs + 1) } else l } ∧
      t.bsc = { s.bsc with
        deferralTimer := s.bsc.deferralTimer.map (· + 1), refillTimer := s.bsc.refillTimer.map (· + 1) } ∧
      (∀ p, portOf t p = { portOf s p with gapTimer := (portOf s p).gapTimer.map (· + 1) }) ∧
      t.pm = { s.pm with saveTimer := s.pm.saveTimer.map (· + 1) } ∧
      t.bmu = s.bmu ∧ t.ssu = s.ssu ∧ t.oau = s.oau ∧ t.dba = s.dba ∧ t.ots = s.ots ∧ t.power = s.power ∧
      (Instr.lockTimerExpiry ∈ t.pending ↔
        ∃ n, t.sli.lockTimer = some n ∧ (3 * s.pm.working.framePeriodUs + 999) / 1000 ≤ n) ∧
      (∀ c, Instr.stalenessTimerExpiry c ∈ t.pending ↔
        ∃ n, (channelOf t c).timer = some n ∧
          (s.pm.working.staleFrames * s.pm.working.framePeriodUs + 999) / 1000 ≤ n) ∧
      (∀ i, Instr.closeTimerExpiry i ∈ t.pending ↔
        (gateOf t i).mode = .closing ∧ ∃ n, (gateOf t i).closeTimer = some n ∧ s.pm.working.gateCloseMs ≤ n) ∧
      (∀ i, Instr.tailTimerExpiry i ∈ t.pending ↔
        ∃ x, (gateOf t i).tail = some x ∧ s.pm.working.tailMaxMs ≤ x.timer) ∧
      (∀ i, Instr.linkTimerExpiry i ∈ t.pending ↔
        s.pm.working.linkTimeoutMs ≠ 0 ∧ ∃ n, t.lm.linkTimer.get i = some n ∧ s.pm.working.linkTimeoutMs ≤ n) ∧
      (∀ i, Instr.holdExpired i ∈ t.pending ↔
        s.pm.working.holdLimitS ≠ 0 ∧ ∃ l, loadOf t i = some l ∧ l.state = .held ∧
          s.pm.working.holdLimitS * 1000 < l.holdMs) ∧
      (Instr.deferralTimerExpiry ∈ t.pending ↔
        ∃ n, t.bsc.deferralTimer = some n ∧ s.pm.working.refillDeferMaxS * 1000 ≤ n) ∧
      (Instr.refillTimerExpiry ∈ t.pending ↔
        ∃ n, t.bsc.refillTimer = some n ∧ s.pm.working.refillMaxS * 1000 ≤ n) ∧
      (∀ p, Instr.gapTimerExpiry p ∈ t.pending ↔ ∃ n, (portOf t p).gapTimer = some n ∧ 20 ≤ n) ∧
      (∀ x, Instr.saveTimerExpiry x ∈ t.pending ↔ x = s.pm.image ∧ ∃ n, t.pm.saveTimer = some n ∧ 5000 ≤ n) ∧
      (Instr.frameSync ∈ t.pending ↔ s.pm.working.syncRole = .master ∧
        s.pm.working.framePeriodUs ≤ s.sli.syncClockUs + 1000))

/-! ### Invariants that every step keeps -/

/-- A gate is commanded open only for a DISCHARGING load (R89, R91, R107, R117). -/
def Obligations.GateInvKept : Prop := ∀ s t : State, GateInv s → step s = .next t → GateInv t

/-- The refill command stands open exactly while the mode is REFILLING and the refill state OPEN (R31, R158 to R163). -/
def Obligations.RefillInvKept : Prop := ∀ s t : State, RefillInv s → step s = .next t → RefillInv t

/-- The granted allocations never exceed the effective budget (R74, R78, R85). -/
def Obligations.BudgetInvKept : Prop := ∀ s t : State, BudgetInv s → step s = .next t → BudgetInv t

/-- The allocation queue holds only spouts whose load is WAITING, each once and without an allocation (R77). -/
def Obligations.QueueInvKept : Prop := ∀ s t : State, GateInv s → QueueInv s → step s = .next t → QueueInv t

/-- A spout holds an allocation exactly while its gate discharges or its grant is pending, and a WAITING load has its queue
place (R76, R77, R80, R89, R91, R106). -/
def Obligations.ClaimInvKept : Prop := ∀ s t : State, GrantsAgree s → step s = .next t → ClaimInv t

/-- Queued tickets and open loads together are at most 16, and every open load holds its place (R149). -/
def Obligations.PlacesInvKept : Prop := ∀ s t : State, PlacesInv s → step s = .next t → PlacesInv t

/-- An order's reserved mass is the sum of the effective targets of the open loads that name it (R147). -/
def Obligations.OrdersInvKept : Prop := ∀ s t : State, OrdersInv s → step s = .next t → OrdersInv t

/-- A load is HELD exactly while it has a hold cause, and its gravimetric-credited mass is at most its D (R62, R122). -/
def Obligations.LoadInvKept : Prop := ∀ s t : State, GateInv s → LoadInv s → step s = .next t → LoadInv t

/-- A mode of GRAVIMETRIC rests on RATE_SPAN newest CLEAN entries in a ring of at most 32 (R25, R26, R30). -/
def Obligations.HistoryInvKept : Prop :=
  ∀ s t : State, RefillInv s → HistoryInv s → step s = .next t → HistoryInv t

/-- No command and no learning step takes a working value out of its range (R49, R112, R182, R183). -/
def Obligations.ParamInvKept : Prop := ∀ s t : State, ParamInv s → step s = .next t → ParamInv t

/-- The link's two counters, the unassigned account, the load and ticket numbers, the fault counts, the ports' errors, the
solo and leak counters, the interlock trips, the windows of a zero and a tail's low-flow count stay in their ranges (R17,
R36, R47, R52, R71, R107, R116, R127, R136, R150, R171). -/
def Obligations.CounterInvKept : Prop := ∀ s t : State, CounterInv s → step s = .next t → CounterInv t

/-- The state after reset meets every invariant. -/
def Obligations.ResetMeetsEveryInvariant : Prop :=
  GrantsAgree State.reset ∧ RefillInv State.reset ∧ PlacesInv State.reset ∧ OrdersInv State.reset ∧
    LoadInv State.reset ∧ HistoryInv State.reset ∧ ParamInv State.reset ∧ CounterInv State.reset

/-! ### The sense link -/

/-- FRAME_SYNC and EARLY_SYNC: a sync begins a frame whose outbound slots are the four commands as they stand; an early
sync in the FOLLOWER role counts a frame error and drops a candidate with its lock timer (R4, R5, R16, R180). That
EARLY_SYNC does nothing in the MASTER role, and that FRAME_SYNC finding a frame in progress is an early sync, is log 15. -/
def Obligations.SyncBeginsAFrame : Prop :=
  ∀ s : State, s.power = .running →
    let out := [slotOf s.sli.gateCommand.a, slotOf s.sli.gateCommand.b, slotOf s.sli.gateCommand.c,
      slotOf (if s.sli.refillCommand then 1 else 0), slotOf 0, slotOf 0, slotOf 0, slotOf 0]
    let early := { s with sli := { s.sli with
      frameErrors := min 65535 (s.sli.frameErrors + 1)
      lastSeq := if s.sli.lock = .seeking then none else s.sli.lastSeq
      lockTimer := if s.sli.lock = .seeking then none else s.sli.lockTimer
      frameInProgress := true, outbound := out } }
    (s.pm.working.syncRole = .master ∨ s.sli.frameInProgress = false →
      exec .frameSync s = .next { s with sli := { s.sli with frameInProgress := true, outbound := out } }) ∧
    (s.pm.working.syncRole = .follower → exec .earlySync s = .next early ∧
      (s.sli.frameInProgress = true → exec .frameSync s = .next early)) ∧
    (s.pm.working.syncRole = .master → exec .earlySync s = .next s)

/-- FRAME_ARRIVAL that is handed on to nobody: a frame whose slot 7 fails its check is counted and otherwise without
effect, and a silent line's frame is one; in SEEKING a well-formed frame that does not complete the lock becomes the
candidate (R3, R5, R6, R17, R180). That an arrival with no frame in progress is judged alike is log 27. -/
def Obligations.MalformedAndCandidateFramesGoNoFurther : Prop :=
  (∀ (f : InFrame) (o : Sched) (s : State), s.power = .running → (∀ n ≤ 255, f.sequence ≠ slotOf n) →
    exec (.frameArrival f o) s = .next { s with sli := { s.sli with
      frameInProgress := false, frameErrors := min 65535 (s.sli.frameErrors + 1) } }) ∧
  (∀ n ≤ 255, BitVec.allOnes 32 ≠ slotOf n) ∧
  ∀ (f : InFrame) (o : Sched) (s : State) (n : Nat), s.power = .running → s.sli.lock = .seeking → wellFormed f n →
    (∀ c, s.sli.lastSeq = some c → n ≠ (c + 1) % 256) →
    exec (.frameArrival f o) s = .next { s with sli := { s.sli with
      frameInProgress := false, lastSeq := some n, lockTimer := some 0 } }

/-- FRAME_ARRIVAL in LOCKED, at the end of a frame in progress, of a frame with the held number: discarded and counted
(R9). -/
def Obligations.DuplicateFrameIsDiscarded : Prop :=
  ∀ (f : InFrame) (o : Sched) (s : State) (n : Nat), s.power = .running → s.sli.lock = .locked →
    s.sli.frameInProgress = true → s.sli.lastSeq = some n → wellFormed f n →
    exec (.frameArrival f o) s = .next { s with sli := { s.sli with
      frameInProgress := false, missedFrames := min 65535 (s.sli.missedFrames + 1) } }

/-- FRAME_ARRIVAL in LOCKED of a normal or gapped frame: the number, the lock timer, the missed-frame counter by k and
the seven channels; the positions it fills, at most three missed ones before its own, and the DISTURBED mark that a gap
of four or more puts on the window in progress, or on its entry if that window closes; and what no accepted frame
touches (R8, R10, R11, R12, R13, R21). The frame is then one position of the blocks, and each missed position before it
is another: at each the SSU forms the flows, the OAU takes the frame masses, each Gate Controller its feedback and its
flows (a tail, or in a discharging mode the cutoff check, and in BLIND the window step), and the BMU the position, in
the order the command names (R34, R44, R65, R92, R98, R103, R107; the orders are the model's choice, logs 4, 28 and 35,
an arrival with no frame in progress log 27). -/
def Obligations.AcceptedFrameReachesTheChannels : Prop :=
  (∀ (f : InFrame) (o : Sched) (s : State) (n m : Nat), s.power = .running → s.sli.lock = .locked →
    s.sli.lastSeq = some m → m ≤ 255 → wellFormed f n → n ≠ m →
    ∃ t, exec (.frameArrival f o) s = .next t ∧
      t.sli = { s.sli with
        frameInProgress := false, lastSeq := some n, lockTimer := some 0
        missedFrames := if (n + 255 - m) % 256 = 0 then s.sli.missedFrames
          else min 65535 (s.sli.missedFrames + (n + 255 - m) % 256)
        bin := channelAfter (sampleOf f.bin) s.sli.bin
        impact := .of fun i => channelAfter (sampleOf (f.impact.get i)) (s.sli.impact.get i)
        feedback := .of fun i => channelAfter (feedbackSample (f.feedback.get i)) (s.sli.feedback.get i)
        gateCommand := t.sli.gateCommand, refillCommand := t.sli.refillCommand } ∧
      t.pm = { s.pm with working := { s.pm.working with
        binZero := t.pm.working.binZero, spoutGain := t.pm.working.spoutGain, tailMs := t.pm.working.tailMs } } ∧
      t.lm.counter = s.lm.counter ∧ t.lm.interlock = s.lm.interlock ∧ t.lm.aerationLow = s.lm.aerationLow ∧
      t.lm.seeking = s.lm.seeking ∧ t.dba.aerationLow = s.dba.aerationLow ∧
      t.bsc.supplyFault = s.bsc.supplyFault ∧ t.bsc.aerationHigh = s.bsc.aerationHigh ∧
      t.pc = s.pc ∧ t.power = s.power ∧ t.pending = s.pending ∧
      (s.bmu.mode ≠ .blind →
        let k := (n + 255 - m) % 256
        (s.bmu.position + min k 3 < 9 → t.bmu.position = s.bmu.position + min k 3 + 1 ∧ t.bmu.ring = s.bmu.ring ∧
          t.bmu.disturbedMark = (s.bmu.disturbedMark || decide (4 ≤ k))) ∧
        (4 ≤ k → 6 ≤ s.bmu.position → s.bmu.position ≤ 9 →
          ∃ e, t.bmu.ring.getLast? = some e ∧ e.disturbed = true ∧ t.bmu.position = s.bmu.position - 6))) ∧
  (∀ (f : InFrame) (o : Sched) (s : State) (n m : Nat), s.power = .running → s.sli.lock = .locked →
    s.sli.lastSeq = some m → m ≤ 255 → wellFormed f n → n ≠ m →
    let k := (n + 255 - m) % 256
    let counted := { s with
      sli := { s.sli with
        frameInProgress := false
        missedFrames := if k = 0 then s.sli.missedFrames else min 65535 (s.sli.missedFrames + k) }
      bmu := { s.bmu with
        disturbedMark := s.bmu.disturbedMark || (decide (s.bmu.mode ≠ .blind) && decide (4 ≤ k)) } }
    let u := settle (leaveBlind (takeSamples f (takeSequence n (missedPositions o (min k 3) counted))))
    exec (.frameArrival f o) s = .next (framePosition o (positionOf f u) u)) ∧
  (∀ (o : Sched) (s : State), missedPositions o 0 s = s ∧
    ∀ k, missedPositions o (k + 1) s = missedPositions o k (framePosition o missedPosition s)) ∧
  ∀ (o : Sched) (p : PositionIn) (s : State),
    let feedback := fun x : State => if p.missed then x else
      gateFeedback .C (p.feedback.get .C) (gateFeedback .B (p.feedback.get .B) (gateFeedback .A (p.feedback.get .A) x))
    let x := if o.flowsBeforeFeedback then s else feedback s
    let fl := flowOf x p
    let masses := fun y : State => { y with oau := { y.oau with
      openPart := .of fun i => y.oau.openPart.get i + ((fl i).grams : Int) } }
    let gate := fun (i : Spout) (y : State) =>
      let g := gateOf y i
      let y := { y with gate := y.gate.set i { g with
        flowSum := g.flowSum + (fl i).effective, flowCount := g.flowCount + 1 } }
      let y := match g.tail with
        | some tail => tailPosition i tail (fl i) y
        | none => if g.mode.discharging then cutoffCheck i (fl i) y else y
      if y.bmu.mode = .blind ∧ 10 ≤ (gateOf y i).flowCount then windowStep i y else y
    let gates := fun y : State => gate .C (gate .B (gate .A y))
    let z := ssuPosition p x
    let path := match o.closeBeforeFlows, o.flowsBeforeMass with
      | false, false => bmuPosition p (gates (masses z))
      | false, true => bmuPosition p (masses (gates z))
      | true, false => gates (bmuPosition p (masses z))
      | true, true => masses (gates (bmuPosition p z))
    framePosition o p s = if o.flowsBeforeFeedback then feedback path else path

/-- FRAME_ARRIVAL in SEEKING of the frame numbered one above the candidate: the link is LOCKED, no missed frame is
counted, and the frame is handled as a normal one: its samples reach the channels, each spout has its q and, under
SENSOR_POLICY HOLD and away from a close, its frame mass; a good bin sample takes the BMU from BLIND to UNREADY and
frees a SUSPENDED refill control; and SENSE is lifted from every HELD load (R6, R8, R12, R13, R29, R40, R42, R43, R65,
R125, R162). An arrival with no frame in progress is judged alike, which is log 27. -/
def Obligations.ConsecutiveFrameLocksTheLink : Prop :=
  ∀ (f : InFrame) (o : Sched) (s : State) (n c : Nat), s.power = .running → s.sli.lock = .seeking →
    s.sli.lastSeq = some c → wellFormed f n → n = (c + 1) % 256 →
    ∃ t, exec (.frameArrival f o) s = .next t ∧
      t.sli = { s.sli with
        lock := .locked, frameInProgress := false, lastSeq := some n, lockTimer := some 0
        bin := channelAfter (sampleOf f.bin) s.sli.bin
        impact := .of fun i => channelAfter (sampleOf (f.impact.get i)) (s.sli.impact.get i)
        feedback := .of fun i => channelAfter (feedbackSample (f.feedback.get i)) (s.sli.feedback.get i)
        gateCommand := t.sli.gateCommand, refillCommand := t.sli.refillCommand } ∧
      t.lm.seeking = false ∧ t.lm.counter = s.lm.counter ∧ t.lm.interlock = s.lm.interlock ∧
      t.pc = s.pc ∧ t.power = s.power ∧ t.pending = s.pending ∧
      (∀ i, (sensorOf t i).lastQ = frameFlow f s i) ∧
      (s.pm.working.sensorPolicy = .hold → s.bmu.position < 9 → (∀ j, (sensorOf s j).count < 9) → ∀ i,
        let numerator := frameFlow f s i * s.pm.working.framePeriodUs + (sensorOf s i).carry
        (sensorOf t i).carry = numerator % 1000000 ∧
        (sensorOf t i).massSum = (sensorOf s i).massSum + numerator / 1000000 ∧
        (sensorOf t i).count = (sensorOf s i).count + 1 ∧
        t.oau.openPart.get i = s.oau.openPart.get i + ((numerator / 1000000 : Nat) : Int)) ∧
      (s.bmu.mode = .blind → (channelAfter (sampleOf f.bin) s.sli.bin).state = .fresh → s.bmu.position < 9 →
        s.bsc.state ≠ .deferred →
        t.bmu.mode = .unready ∧ t.bmu.position = s.bmu.position + 1 ∧ t.bsc.blindRecord = false ∧
        (s.bsc.state = .suspended → s.bsc.zeroRecord = false → t.bsc.state = .idle)) ∧
      (s.bmu.mode = .blind → (channelAfter (sampleOf f.bin) s.sli.bin).state ≠ .fresh → t.bmu.mode = .blind) ∧
      (∀ i l x, loadOf s i = some l → l.state = .held → loadOf t i = some x → x.causes.sense = false) ∧
      (GateInv s → ∀ i l, loadOf s i = some l → l.state = .held → ∃ x, loadOf t i = some x ∧ x.number = l.number)

/-- A normal FRAME_ARRIVAL gives every spout its q: from a good sample, from the held one while the channel is FRESH,
else 0; and, under SENSOR_POLICY HOLD and away from a close, its frame mass with the carry, which joins the indicated
mass and the open part. At every position, missed or not, the flow that makes the frame mass is F while BIN-SOLO
substitution is in force, which its five conditions say, and q otherwise; a missed position repeats the last q, and
missed positions leave it as it was (R10, R15, R40, R41, R42, R43, R65). An arrival with no frame in progress is judged
alike, which is log 27. -/
def Obligations.NormalFrameGivesFlowsAndMasses : Prop :=
  (∀ (f : InFrame) (o : Sched) (s : State) (n m : Nat) (i : Spout), s.power = .running → s.sli.lock = .locked →
    s.sli.lastSeq = some m → wellFormed f n → n = (m + 1) % 256 →
    let flow := fun v : Int =>
      min 400000 ((max 0 (v - s.pm.working.spoutZero.get i)).toNat * s.pm.working.spoutGain.get i / 65536)
    let q := match sampleOf (f.impact.get i) with
      | some v => flow v
      | none => if (s.sli.impact.get i).state = .fresh then flow (s.sli.impact.get i).lastGood else 0
    let numerator := q * s.pm.working.framePeriodUs + (sensorOf s i).carry
    ∃ t, exec (.frameArrival f o) s = .next t ∧ (sensorOf t i).lastQ = q ∧
      (s.pm.working.sensorPolicy = .hold → s.bmu.mode ≠ .blind → s.bmu.position < 9 →
        (sensorOf t i).carry = numerator % 1000000 ∧
        (sensorOf t i).massSum = (sensorOf s i).massSum + numerator / 1000000 ∧
        (sensorOf t i).count = (sensorOf s i).count + 1 ∧
        t.oau.openPart.get i = s.oau.openPart.get i + ((numerator / 1000000 : Nat) : Int))) ∧
  (∀ (p : PositionIn) (s : State) (i : Spout),
    let stands := s.pm.working.sensorPolicy = .binSolo ∧ (s.sli.impact.get i).state ≠ .fresh ∧
      s.bmu.mode = .gravimetric ∧ draws s i ∧ ∀ j, j ≠ i → ¬ draws s j
    let x := sensorOf s i
    let fl := flowOf s p i
    let y := sensorOf (ssuPosition p s) i
    let numerator := fl.effective * s.pm.working.framePeriodUs + x.carry
    (p.missed = true → fl.q = x.lastQ) ∧ (fl.substituted = true ↔ stands) ∧
    (stands → fl.effective = s.bmu.f) ∧ (¬ stands → fl.effective = fl.q) ∧ fl.grams = numerator / 1000000 ∧
    y.lastQ = fl.q ∧ y.substitution = fl.substituted ∧ y.carry = numerator % 1000000 ∧
    y.massSum = x.massSum + fl.grams ∧ y.count = x.count + 1 ∧
    y.substitutedMark = (x.substitutedMark || fl.substituted)) ∧
  ∀ (o : Sched) (k : Nat) (s : State) (i : Spout), (sensorOf (missedPositions o k s) i).lastQ = (sensorOf s i).lastQ

/-- A normal FRAME_ARRIVAL on the tenth position closes the window, with the frame's own sample counted first: the
entry's mean, VALID, REFILL and DISTURBED marks, its flowing set and, under SENSOR_POLICY HOLD, its indicated masses;
the ring of 32 and the clean run; the mode after the close by the mode test, and F, both recorded for the next close;
and the empty window in progress. The refill, which the same close may open or close, then moves the mode to REFILLING
or SETTLING (R19 to R26, R30 to R32, R43). With no tail running, the close reaches the OAU: the open part gives up the
window's mass, the pending parts take it, and the report credits each load, gravimetrically where the entry is CLEAN
and the mode after it GRAVIMETRIC (R55, R57, R61, R62, R66). A close then runs through the OAU, the learning of the
SSU, the window steps, the BSC and a running zero, in an order that is the model's choice, log 8. That with no load open
the close leaves the reports as they were, since a report that names no load is not kept, is the model's choice, log 16.
The first clause is of a close with no zero RUNNING; its items of the mode, F, the REFILL mark and the report are of a
refill that is not DEFERRED, those of the OAU of no tail running; the two later clauses hold in every such state too. An
arrival with no frame in progress is log 27. -/
def Obligations.TenthFrameClosesTheWindow : Prop :=
  (∀ (f : InFrame) (o : Sched) (s : State) (n m : Nat), s.power = .running → s.sli.lock = .locked →
    s.sli.lastSeq = some m → wellFormed f n → n = (m + 1) % 256 → s.bmu.mode ≠ .blind → s.bmu.position = 9 →
    s.bmu.zero.state ≠ .running →
    let mass := fun raw : Int => ((raw - s.pm.working.binZero) * s.pm.working.binSpan).tdiv 256
    let limit : Int := ((s.pm.working.binCapacityG + s.pm.working.binCapacityG / 10 : Nat) : Int)
    let counted := match sampleOf f.bin with
      | some raw => if mass raw ≤ limit then some (mass raw) else none
      | none => none
    let sum := s.bmu.massSum + counted.getD 0
    let good := s.bmu.goodCount + (if counted.isSome then 1 else 0)
    ∃ t e, exec (.frameArrival f o) s = .next t ∧
      t.bmu.ring = (if 32 ≤ s.bmu.ring.length then s.bmu.ring.tail else s.bmu.ring) ++ [e] ∧
      e.mean = (if good = 0 then 0 else sum.tdiv good) ∧ e.valid = decide (6 ≤ good) ∧
      t.bmu.cleanRun = (if e.valid = true ∧ e.refill = false ∧ e.disturbed = false
        then min 255 (s.bmu.cleanRun + 1) else 0) ∧
      t.bmu.position = 0 ∧ t.bmu.massSum = 0 ∧ t.bmu.goodCount = 0 ∧ t.bmu.rawSum = 0 ∧ t.bmu.disturbedMark = false ∧
      let w := s.pm.working
      let windowUs := 10 * w.framePeriodUs
      let strays := ∃ fOld last, s.bmu.previous = some (.gravimetric, fOld) ∧ s.bmu.ring.getLast? = some last ∧
        6 ≤ good ∧ w.disturbG < (e.mean - (last.mean - ((fOld * windowUs / 1000000 : Nat) : Int))).natAbs
      let mode := match s.bmu.mode with
        | .unready => if w.rateSpan ≤ t.bmu.cleanRun then .gravimetric else .unready
        | .gravimetric => if e.disturbed = true ∨ e.valid = false then .settling else .gravimetric
        | .settling => if max w.settleWindows w.rateSpan ≤ t.bmu.cleanRun then .gravimetric else .settling
        | other => other
      let span := t.bmu.ring.drop (t.bmu.ring.length - w.rateSpan)
      let fall := ((span.take 4).map Entry.mean).sum - ((span.drop (span.length - 4)).map Entry.mean).sum
      let rate := if mode = .gravimetric
        then (max 0 (min 400000 ((fall * 250000).tdiv (((w.rateSpan - 4) * windowUs : Nat) : Int)))).toNat else s.bmu.f
      (e.disturbed = true ↔ s.bmu.disturbedMark = true ∨ strays) ∧
      (∀ i, e.flowing.get i = decide
        (w.leakFlow ≤ e.m.get i * 1000000 / (((sensorOf s i).count + 1) * w.framePeriodUs))) ∧
      (w.sensorPolicy = .hold → ∀ i, e.m.get i = (sensorOf s i).massSum +
        (frameFlow f s i * w.framePeriodUs + (sensorOf s i).carry) / 1000000) ∧
      (∀ i, (sensorOf t i).massSum = 0 ∧ (sensorOf t i).count = 0) ∧
      (s.bsc.state ≠ .deferred →
        e.refill = (s.bmu.refillMark || s.sli.refillCommand) ∧
        t.bmu.previous = some (mode, rate) ∧ t.bmu.f = rate ∧
        t.bmu.mode = if t.bsc.state = .opened ∧ s.bsc.state ≠ .opened then .refilling
          else if t.bsc.state ≠ .opened ∧ s.bsc.state = .opened ∧ mode = .refilling then .settling
          else mode) ∧
      (s.bsc.state ≠ .deferred → (∀ i, (gateOf s i).tail = none) →
        let gravimetric := decide (e.valid = true ∧ e.refill = false ∧ e.disturbed = false ∧ mode = .gravimetric)
        let quantum := (rate * windowUs + s.oau.carry) / 1000000
        let credits := if gravimetric then
          (if e.m.a + e.m.b + e.m.c = 0 then .all 0 else gravimetricCredits quantum e.m) else e.m
        (∀ i, t.oau.openPart.get i = s.oau.openPart.get i - ((sensorOf s i).massSum : Int)) ∧
        (∀ i, t.oau.pending.get i = (loadOf s i).map fun l => { mass := e.m.get i, load := l.number }) ∧
        ((∀ i, loadOf s i = none) → t.oau.reports = s.oau.reports) ∧
        ((∃ i, loadOf s i ≠ none) → t.oau.reports = s.oau.reports ++
          [{ gravimetric := gravimetric
             credits := .of fun i => (loadOf s i).map fun l => { load := l.number, grams := credits.get i } }]))) ∧
  (∀ (p : PositionIn) (s : State), s.bmu.mode ≠ .blind →
    let b := countPosition s.pm.working s.sli.refillCommand p.bin s.bmu
    b.position = s.bmu.position + 1 ∧
    (s.bmu.position < 9 → bmuPosition p s = { s with bmu := b }) ∧
    (9 ≤ s.bmu.position → bmuPosition p s = windowClose { s with bmu := b })) ∧
  ∀ s : State,
    let w := s.pm.working
    let m : PerSpout Nat := .of fun i => (sensorOf s i).massSum
    let flowing : PerSpout Bool := .of fun i =>
      decide (w.leakFlow ≤ (sensorOf s i).massSum * 1000000 / ((sensorOf s i).count * w.framePeriodUs))
    let e := closingEntry w s.bmu m flowing
    let b := bmuCloseWindow w m flowing s.bmu
    let credited := oauClose e b.mode b.f (ssuComplete { s with bmu := b })
    let learned := learnGain b.mode b.f .C (learnGain b.mode b.f .B (learnGain b.mode b.f .A credited))
    let supplied := settle (bscClose (windowStep .C (windowStep .B (windowStep .A learned))))
    windowClose s = if s.bmu.zero.state = .running ∧ s.bmu.zero.skipWindow = false
      then settle (zeroWindow e s.bmu.rawSum s.bmu.goodCount supplied) else supplied

/-- LOCK_TIMER_EXPIRY with the timer at its limit: in SEEKING the candidate is dropped; in LOCKED the link enters SEEKING,
the BMU goes BLIND and empties its history, the refill is suspended, tails are spoiled, and every load that records holds is
HELD with SENSE, a DISCHARGING one with its gate closed; no fault is latched. With the timer stopped or below its limit
nothing happens (R5, R7, R27, R28, R37, R56, R102, R107, R122, R124, R162; log 2). The entry to BLIND is noted in the
model's own field, log 33. -/
def Obligations.LockTimerExpiryEndsTheLock : Prop :=
  ∀ s : State, s.power = .running →
    let due := ∃ n, s.sli.lockTimer = some n ∧ (3 * s.pm.working.framePeriodUs + 999) / 1000 ≤ n
    (¬ due → exec .lockTimerExpiry s = .next s) ∧
    (due → s.sli.lock = .seeking →
      exec .lockTimerExpiry s = .next { s with sli := { s.sli with lastSeq := none, lockTimer := none } }) ∧
    (due → s.sli.lock = .locked → ∃ t, exec .lockTimerExpiry s = .next t ∧
      t.sli = { s.sli with
        lock := .seeking, lastSeq := none, lockTimer := none
        bin := { state := .awaiting, lastGood := 0, timer := none }
        impact := .all { state := .awaiting, lastGood := 0, timer := none }
        feedback := .all { state := .awaiting, lastGood := 0, timer := none }
        gateCommand := t.sli.gateCommand, refillCommand := t.sli.refillCommand } ∧
      t.bmu.mode = .blind ∧ t.bmu.f = s.bmu.f ∧
      t.bmu.blindEntered = (s.bmu.blindEntered || decide (s.bmu.mode ≠ .blind)) ∧
      (s.bmu.mode ≠ .blind → t.bmu.ring = [] ∧ t.bmu.cleanRun = 0 ∧ t.bmu.previous = none ∧ t.bmu.position = 0 ∧
        t.bsc.blindRecord = true ∧ (s.oau.modeRecord = .gravimetric → t.oau.carry = 0) ∧
        (s.bmu.zero.state = .running → t.bmu.zero.state = .aborted ∧ t.bsc.zeroRecord = false) ∧
        (s.bsc.state ≠ .supplyFault → t.bsc.state = .suspended) ∧
        (s.bsc.state = .opened → t.sli.refillCommand = false)) ∧
      (∀ i x, (gateOf s i).tail = some x → (gateOf t i).tail = some { x with spoiled := true }) ∧
      (∀ i l, loadOf s i = some l → recordsHolds l.state →
        ∃ x, loadOf t i = some x ∧ x.state = .held ∧ x.causes.sense = true ∧ x.number = l.number ∧ x.d = l.d) ∧
      (∀ i l, loadOf s i = some l → l.state = .discharging →
        gateOf t i = { closedGate (gateOf s i) with tail := (gateOf t i).tail } ∧
        ((gateOf s i).mode.discharging = true → t.sli.gateCommand.get i = 0)) ∧
      (∀ i l, loadOf s i = some l → ¬ recordsHolds l.state → loadOf t i = some l) ∧
      t.lm.seeking = true ∧ t.lm.latch = s.lm.latch ∧ t.ots = s.ots ∧ t.pm = s.pm ∧ t.pc = s.pc ∧
      t.power = s.power ∧ t.pending = s.pending)

/-- STALENESS_TIMER_EXPIRY of an impact channel and of the bin channel: the channel is STALE with its last good sample
kept; under SENSOR_POLICY HOLD the spout's load is held with SENSOR; the bin's BMU goes BLIND. A channel that is not
FRESH, or whose timer is below its limit, is left as it is (R13, R14, R28, R45, R46, R124; log 2). Under BIN-SOLO,
where nothing in the queue can be granted: the load of a spout that draws alone in GRAVIMETRIC is let run, and a load
that does not is held, unless it is TAILING, which records no hold (R41, R122). The entry to BLIND is noted in the model's
own field, log 33. -/
def Obligations.StaleChannelIsReported : Prop :=
  ∀ s : State, s.power = .running →
    let due := fun c => (channelOf s c).state = .fresh ∧ ∃ n, (channelOf s c).timer = some n ∧
      (s.pm.working.staleFrames * s.pm.working.framePeriodUs + 999) / 1000 ≤ n
    (∀ c, ¬ due c → exec (.stalenessTimerExpiry c) s = .next s) ∧
    (∀ i, due (.impact i) →
      let stale : Channel := { state := .stale, lastGood := (s.sli.impact.get i).lastGood, timer := none }
      ∃ t, exec (.stalenessTimerExpiry (.impact i)) s = .next t ∧
        RunsOn [] { s with sli := { s.sli with impact := s.sli.impact.set i stale } } t ∧
        (s.pm.working.sensorPolicy = .hold → (sensorOf s i).demand = false →
          (sensorOf t i).demand = true ∧ t.lm.demand.get i = true ∧
          ∀ l, loadOf s i = some l → recordsHolds l.state →
            ∃ x, loadOf t i = some x ∧ x.state = .held ∧ x.causes.sensor = true) ∧
        (s.pm.working.sensorPolicy = .binSolo → (sensorOf s i).demand = false → queueWaits s →
          let alone := s.bmu.mode = .gravimetric ∧ draws s i ∧ ∀ j, j ≠ i → ¬ draws s j
          (alone → (∀ j, j ≠ i → (sensorOf s j).demand = decide ((s.sli.impact.get j).state ≠ .fresh)) →
            t = { s with sli := { s.sli with impact := s.sli.impact.set i stale } }) ∧
          (¬ alone → (∀ l, loadOf s i = some l → l.state ≠ .tailing) →
            (sensorOf t i).demand = true ∧ t.lm.demand.get i = true ∧
            ∀ l, loadOf s i = some l → recordsHolds l.state →
              ∃ x, loadOf t i = some x ∧ x.state = .held ∧ x.causes.sensor = true))) ∧
    (due .bin →
      ∃ t, exec (.stalenessTimerExpiry .bin) s = .next t ∧
        t.sli = { s.sli with
          bin := { state := .stale, lastGood := s.sli.bin.lastGood, timer := none }
          gateCommand := t.sli.gateCommand, refillCommand := t.sli.refillCommand } ∧
        t.bmu.mode = .blind ∧ t.bmu.f = s.bmu.f ∧
        t.bmu.blindEntered = (s.bmu.blindEntered || decide (s.bmu.mode ≠ .blind)) ∧
        (s.bmu.mode ≠ .blind → t.bmu.ring = [] ∧ t.bmu.cleanRun = 0 ∧ t.bmu.position = 0 ∧
          t.bsc.blindRecord = true ∧ (s.bsc.state ≠ .supplyFault → t.bsc.state = .suspended) ∧
          (s.bsc.state = .opened → t.sli.refillCommand = false)) ∧
        t.ots = s.ots ∧ t.pm = s.pm ∧ t.pc = s.pc ∧ t.lm.latch = s.lm.latch ∧ t.power = s.power ∧
        t.pending = s.pending)

/-! ### Accounting, sensors and gates -/

/-- A close is gravimetric exactly when its entry is CLEAN and the mode it carries GRAVIMETRIC; the mode report that
leaves GRAVIMETRIC clears the carry. A gravimetric close credits exactly the quantum E: each named credit is its
spout's share with the remainder (0 without a participant), the unassigned account takes all of E without a participant
and else the credits of empty slots, the credits named and what the account takes are E unless it saturates, and the
new carry is the numerator's remainder. Any other close, and the sensor close that BLIND takes at the first position at
which a spout's count is 10 or more, credits each load its indicated mass and leaves the account and the carry; in the
BLIND of a restart, before the BMU has left it, there is no close. Every close takes the window's masses from the open
parts into the pending parts (R44, R55 to R62, R66, R71, R73). That a report naming no load is not kept is log 16; the
field that tells the BLIND of a restart, and a sensor close in any other while the bin channel is AWAITING, are log 33. -/
def Obligations.GravimetricCloseCreditsExactlyE : Prop :=
  (∀ (f : Nat) (m : PerSpout Nat) (s : State),
    let numerator := f * (10 * s.pm.working.framePeriodUs) + s.oau.carry
    let e := numerator / 1000000
    let total := m.a + m.b + m.c
    let credit := fun i => if total = 0 then 0 else (gravimetricCredits e m).get i
    let empty := fun i => if (loadOf s i).isNone then credit i else 0
    let added := if total = 0 then e else empty .A + empty .B + empty .C
    let t := oauGravimetric f m s
    let named : PerSpout (Option Credit) := .of fun i =>
      (loadOf s i).map fun l => { load := l.number, grams := credit i }
    t = { s with oau := { s.oau with
      carry := numerator % 1000000
      unassigned := min 999999999999 (s.oau.unassigned + added)
      openPart := .of fun i => s.oau.openPart.get i - (m.get i : Int)
      pending := .of fun i => (loadOf s i).map fun l => { mass := m.get i, load := l.number }
      reports := if named = .all none then s.oau.reports
        else s.oau.reports ++ [{ gravimetric := true, credits := named }] } } ∧
    ((named.a.map Credit.grams).getD 0 + (named.b.map Credit.grams).getD 0 + (named.c.map Credit.grams).getD 0) +
      added = e ∧
    (s.oau.unassigned + e ≤ 999999999999 →
      ((named.a.map Credit.grams).getD 0 + (named.b.map Credit.grams).getD 0 + (named.c.map Credit.grams).getD 0) +
        t.oau.unassigned = s.oau.unassigned + e)) ∧
  let volumetric := fun (m : PerSpout Nat) (s : State) =>
    let named : PerSpout (Option Credit) := .of fun i =>
      (loadOf s i).map fun l => { load := l.number, grams := m.get i }
    { s with oau := { s.oau with
      openPart := .of fun i => s.oau.openPart.get i - (m.get i : Int)
      pending := .of fun i => (loadOf s i).map fun l => { mass := m.get i, load := l.number }
      reports := if named = .all none then s.oau.reports
        else s.oau.reports ++ [{ gravimetric := false, credits := named }] } }
  (∀ (e : Entry) (mode : Mode) (f : Nat) (s : State),
    let told := { s with oau := { s.oau with
      modeRecord := mode
      carry := if s.oau.modeRecord = .gravimetric ∧ mode ≠ .gravimetric then 0 else s.oau.carry } }
    let gravimetric := e.valid = true ∧ e.refill = false ∧ e.disturbed = false ∧ mode = .gravimetric
    (gravimetric → oauClose e mode f s = oauGravimetric f e.m told) ∧
    (¬ gravimetric → oauClose e mode f s = volumetric e.m told)) ∧
  ∀ (p : PositionIn) (s : State), s.bmu.mode = .blind →
    (s.bmu.blindEntered = false ∨ (∀ i, (sensorOf s i).count < 10) → bmuPosition p s = s) ∧
    (∀ i, s.bmu.blindEntered = true → 10 ≤ (sensorOf s i).count →
      bmuPosition p s = volumetric (.of fun j => (sensorOf s j).massSum) (ssuComplete s))

/-- The shares of a gravimetric window: each is the truncated share of E but for the participant with the largest mass,
the first of them in the order A, B, C, which also takes the remainder. The shares are together at most E, a spout of no
mass has none, and the remainder is below the number of participants (R58, R59). -/
def Obligations.RemainderGoesToTheLargest : Prop :=
  ∀ (e : Nat) (m : PerSpout Nat) (i : Spout), 0 < m.a + m.b + m.c →
    let total := m.a + m.b + m.c
    let share := fun j => e * m.get j / total
    let remainder := e - (share .A + share .B + share .C)
    let first := (∀ j, m.get j ≤ m.get i) ∧ (i = .B → m.a < m.b) ∧ (i = .C → m.a < m.c ∧ m.b < m.c)
    let participants := (Spout.all.filter fun j => decide (0 < m.get j)).length
    share .A + share .B + share .C ≤ e ∧ remainder < participants ∧
      (m.get i = 0 → (gravimetricCredits e m).get i = 0) ∧
      (first → 0 < m.get i ∧ (gravimetricCredits e m).get i = share i + remainder) ∧
      (¬ first → (gravimetricCredits e m).get i = share i)

/-- APPLY_WINDOW_REPORT: the oldest report is applied: a credit that names the load in its slot is added to D, and in a
gravimetric window to the gravimetric-credited mass (both saturate at 4,294,967,295 g, log 9); a gravimetric credit whose
load is gone returns to the unassigned account; a pending part of the load that the report names becomes absent, unless a
later waiting report names the same load (log 16), and every other stands; nothing else changes; and the provisional
delivered mass moves by the credit minus the pending mass, so a volumetric credit equal to it leaves it where it was (R62,
R63, R67, R68, R71, R132). -/
def Obligations.WindowReportIsApplied : Prop :=
  ∀ s : State, s.power = .running →
    (s.oau.reports = [] → exec .applyWindowReport s = .next s) ∧
    (∀ r rest, s.oau.reports = r :: rest → s.oau.unassigned ≤ 999999999999 →
      let named := fun i => match r.credits.get i, loadOf s i with
        | some c, some l => if l.number = c.load then some c.grams else none
        | _, _ => none
      let returned := fun i => match r.credits.get i with
        | some c => if r.gravimetric = true ∧ named i = none then c.grams else 0
        | none => 0
      ∃ t, exec .applyWindowReport s = .next t ∧
        t = { s with
          oau := { s.oau with reports := rest, unassigned := t.oau.unassigned, pending := t.oau.pending }
          lm := { s.lm with slot := t.lm.slot } } ∧
        (∀ i, loadOf t i = (loadOf s i).map fun l => match named i with
          | some g => { l with
              d := min 4294967295 (l.d + g)
              gravimetric := if r.gravimetric then min 4294967295 (l.gravimetric + g) else l.gravimetric }
          | none => l) ∧
        t.oau.unassigned =
          min 999999999999 (s.oau.unassigned + (returned .A + returned .B + returned .C)) ∧
        (∀ i,
          let covered := ∃ c p, r.credits.get i = some c ∧ s.oau.pending.get i = some p ∧ p.load = c.load ∧
            ∀ later ∈ rest, ∀ c', later.credits.get i = some c' → c'.load ≠ c.load
          (covered → t.oau.pending.get i = none) ∧ (¬ covered → t.oau.pending.get i = s.oau.pending.get i)) ∧
        (rest = [] → ∀ i c, r.credits.get i = some c →
          ∀ p, t.oau.pending.get i = some p → p.load ≠ c.load) ∧
        (rest = [] → ∀ i l x c p, loadOf s i = some l → r.credits.get i = some c → c.load = l.number →
          s.oau.pending.get i = some p → p.load = l.number → l.d + c.grams ≤ 4294967295 → loadOf t i = some x →
          provisional t i x = provisional s i l + (c.grams : Int) - p.mass))

/-- The steps that a window or a tail makes on what is learned. A gain correction is G × (F − Q_ind) / (16 × Q_ind),
limited to one 64th of G, within the gain's range; a close takes it where the five conditions of learning hold and the
span rate is 20,000 g/s or more with the ratio in its band, takes a drift finding where the ratio is outside it, and
otherwise leaves all as it was; a tail-learning step moves the tail time toward the observed one, within its range; the
leak alarm is set by the tenth leaking window in a row and cleared by the tenth quiet one, a window with an impact gap
not being judged; a window used by a running zero adds its counts, the twentieth sets BIN_ZERO to their mean and
empties the history, and one that is INVALID or DISTURBED aborts it (R36, R37, R38, R48, R49, R50, R51, R52, R112,
R135, R136). At each completion of the accumulators the solo counter rises for a spout that flowed alone over exactly
ten positions with no substitution, stopping at 255, and is 0 otherwise; the leak judgement is taken and the
accumulators and marks are cleared (R43, R47). -/
def Obligations.LearningLeakAndZeroSteps : Prop :=
  (∀ g f q : Nat, 4096 ≤ g → g ≤ 262143 → 0 < q →
    4096 ≤ correctedGain g f q ∧ correctedGain g f q ≤ 262143 ∧
    correctedGain g f q ≤ g + g / 64 ∧ g ≤ correctedGain g f q + g / 64 ∧
    (q ≤ f → g ≤ correctedGain g f q) ∧ (f ≤ q → correctedGain g f q ≤ g) ∧
    (correctedGain g f q : Int) = max 4096 (min 262143 ((g : Int) +
      max (-((g / 64 : Nat) : Int)) (min ((g / 64 : Nat) : Int) (((g : Int) * ((f : Int) - q)).tdiv (16 * q)))))) ∧
  (∀ (mode : Mode) (f : Nat) (i : Spout) (s : State),
    let w := s.pm.working
    let x := sensorOf s i
    let span := s.bmu.ring.drop (s.bmu.ring.length - w.rateSpan)
    let q := (span.map fun e => e.m.get i).sum * 1000000 / (w.rateSpan * (10 * w.framePeriodUs))
    let learns := w.learnEnable = true ∧ mode = .gravimetric ∧
      (w.rateSpan ≤ s.bmu.ring.length ∧ ∀ e ∈ span, ∀ j, e.flowing.get j = decide (j = i)) ∧
      w.rateSpan ≤ x.solo ∧ x.driftSuspended = false ∧ 20000 ≤ q
    let banded := 32768 ≤ f * 65536 / q ∧ f * 65536 / q ≤ 131072
    let t := learnGain mode f i s
    (¬ learns → t = s) ∧
    (learns → banded → t = { s with
      ssu := s.ssu.set i { x with solo := 0 }
      pm := { s.pm with working := { w with
        spoutGain := w.spoutGain.set i (correctedGain (w.spoutGain.get i) f q) } } }) ∧
    (learns → ¬ banded → t = { s with
      ssu := s.ssu.set i { x with solo := 0, driftSuspended := true }
      lm := { s.lm with
        latch := s.lm.latch.set i (latchAfter (s.lm.latch.get i) .sensorDrift (loadOf s i))
        slot := match loadOf s i with
          | some l => s.lm.slot.set i
            (some { l with drift := true, firstFault := some (l.firstFault.getD .sensorDrift) })
          | none => s.lm.slot } })) ∧
  (∀ (tau : Nat) (c : CutoffRecord) (d : Nat), tau ≤ 4000 → 0 < c.qCut →
    let observed := ((d : Int) - c.dCut).toNat * 1000 / c.qCut
    learnedTail tau c d ≤ 4000 ∧ (tau ≤ observed → tau ≤ learnedTail tau c d ∧ learnedTail tau c d ≤ observed) ∧
      (observed ≤ tau → observed ≤ learnedTail tau c d ∧ learnedTail tau c d ≤ tau)) ∧
  (∀ (w : Params) (x : Sensor),
    let flows := w.leakFlow ≤ x.massSum * 1000000 / (x.count * w.framePeriodUs)
    (x.impactGapMark = true → leakJudged w x = x) ∧
    (x.impactGapMark = false → x.leakAlarm = false →
      (x.feedbackOpenMark = false ∧ flows → leakJudged w x =
        if 9 ≤ x.leakSet then { x with leakAlarm := true, leakSet := 0, leakClear := 0 }
        else { x with leakSet := x.leakSet + 1 }) ∧
      (¬ (x.feedbackOpenMark = false ∧ flows) → leakJudged w x = { x with leakSet := 0 })) ∧
    (x.impactGapMark = false → x.leakAlarm = true →
      (¬ flows → leakJudged w x =
        if 9 ≤ x.leakClear then { x with leakAlarm := false, leakSet := 0, leakClear := 0 }
        else { x with leakClear := x.leakClear + 1 }) ∧
      (flows → leakJudged w x = { x with leakClear := 0 }))) ∧
  (∀ (s : State) (i : Spout),
    let w := s.pm.working
    let x := sensorOf s i
    let flows := fun j =>
      w.leakFlow ≤ (sensorOf s j).massSum * 1000000 / ((sensorOf s j).count * w.framePeriodUs)
    let solo := (∀ j, flows j ↔ j = i) ∧ x.count = 10 ∧ ∀ j, (sensorOf s j).substitutedMark = false
    let cleared := fun n : Nat => { leakJudged w x with
      solo := n, massSum := 0, count := 0, feedbackOpenMark := false, impactGapMark := false, substitutedMark := false }
    let t := ssuComplete s
    t = { s with ssu := t.ssu } ∧ (solo → sensorOf t i = cleared (min 255 (x.solo + 1))) ∧
      (¬ solo → sensorOf t i = cleared 0)) ∧
  ∀ (e : Entry) (raw : Int) (good : Nat) (s : State), s.bmu.zero.state = .running →
    let z := s.bmu.zero
    let used : ZeroOp := { z with
      windowCount := z.windowCount + 1, rawSum := z.rawSum + raw, sampleCount := z.sampleCount + good }
    let t := zeroWindow e raw good s
    (e.valid = true ∧ e.disturbed = false → z.windowCount < 19 → t = { s with bmu := { s.bmu with zero := used } }) ∧
    (e.valid = true ∧ e.disturbed = false → 19 ≤ z.windowCount →
      t.pm = { s.pm with working := { s.pm.working with binZero := (z.rawSum + raw).tdiv (z.sampleCount + good : Nat) } } ∧
      t.bmu.zero.state = .done ∧ t.bmu.ring = [] ∧ t.bmu.cleanRun = 0 ∧ t.bsc.zeroRecord = false) ∧
    (¬ (e.valid = true ∧ e.disturbed = false) → t.pm = s.pm ∧ t.bmu.zero.state = .aborted ∧ t.bmu.ring = s.bmu.ring ∧
      t.bsc.zeroRecord = false)

/-- The BSC's tests on a level at a window close: the starve judgement between L_EMPTY and L_LOW, and in each refill state
what opens, defers, undefers or closes the valve, and what leaves it alone. At a close the level is the mean of the newest
VALID entry, and with none nothing is tested; a change of the starve condition reaches the DBA and the LM: a start takes the
effective budget to 0, revokes, and holds every load that records holds with STARVE, a DISCHARGING one with its gate closed;
an end returns the budget unless aeration is low, and lifts STARVE from every HELD load (R74, R82, R124, R125, R155, R156,
R157, R158, R159, R160, R162, R164). -/
def Obligations.BinLevelDrivesTheRefill : Prop :=
  (∀ (level : Int) (s : State),
    let w := s.pm.working
    let t := refillTests w level s
    let opened := t.bsc.state = .opened ∧ t.sli.refillCommand = true ∧ t.bsc.refillTimer = some 0 ∧
      t.bsc.deferralTimer = none
    (starveAfter w level true = true ↔ level < w.lLow) ∧ (starveAfter w level false = true ↔ level < w.lEmpty) ∧
    (s.bsc.state = .idle → (w.lLow : Int) ≤ level → t = s) ∧
    (s.bsc.state = .idle → level < w.lLow →
      let deferred := s.bsc.dribbleSet ≠ .all false ∧ 0 < w.refillDeferMaxS ∧ (w.lEmpty : Int) ≤ level
      (deferred → t = { s with bsc := { s.bsc with state := .deferred, deferralTimer := some 0 } }) ∧
      (¬ deferred → opened)) ∧
    (s.bsc.state = .deferred →
      (level < w.lEmpty → opened) ∧
      ((w.lEmpty : Int) ≤ level → (w.lLow : Int) ≤ level →
        t = { s with bsc := { s.bsc with state := .idle, deferralTimer := none } }) ∧
      ((w.lEmpty : Int) ≤ level → level < w.lLow → t = s)) ∧
    (s.bsc.state = .opened →
      (level < w.lHigh → t = s) ∧
      ((w.lHigh : Int) ≤ level → t.bsc.state = .idle ∧ t.sli.refillCommand = false ∧ t.bsc.refillTimer = none)) ∧
    (s.bsc.state = .suspended ∨ s.bsc.state = .supplyFault → t = s) ∧
    t.ots = s.ots ∧ t.lm = s.lm ∧ t.gate = s.gate ∧ t.dba = s.dba ∧ t.pm = s.pm ∧ t.pc = s.pc ∧ t.ssu = s.ssu) ∧
  ∀ s : State, (newestLevel s = none → bscClose s = s) ∧ ∀ level, newestLevel s = some level →
    let w := s.pm.working
    let starved := if s.bsc.starved then decide (level < w.lLow) else decide (level < w.lEmpty)
    let t := bscClose s
    (starved = s.bsc.starved → t = refillTests w level s) ∧
    (starved = true → s.bsc.starved = false →
      t.bsc.starved = true ∧ t.dba.starved = true ∧ t.lm.starved = true ∧ t.dba.effectiveBudget = 0 ∧
      (0 < s.dba.effectiveBudget → ∀ i, noClaim i t) ∧
      (∀ i l, loadOf s i = some l → recordsHolds l.state →
        ∃ x, loadOf t i = some x ∧ x = { l with state := .held, causes := x.causes } ∧ x.causes.starve = true) ∧
      (∀ i l, loadOf s i = some l → ¬ recordsHolds l.state → loadOf t i = some l) ∧
      (∀ i l, loadOf s i = some l → l.state = .discharging → gateOf t i = closedGate (gateOf s i) ∧
        ((gateOf s i).mode.discharging = true → t.sli.gateCommand.get i = 0))) ∧
    (starved = false → s.bsc.starved = true →
      t.bsc.starved = false ∧ t.dba.starved = false ∧ t.lm.starved = false ∧
      t.dba.effectiveBudget = (if s.dba.aerationLow then 0 else w.budget) ∧
      (∀ i l, loadOf s i = some l → l.state = .held → ∃ x, loadOf t i = some x ∧ x.causes.starve = false))

/-- A window step moves a gate by at most GEAR_STEP: in OPENING up toward 1000 until the mean flow reaches the allocation,
in REGULATING toward the allocation by (allocation − mean) × KP / 1,000, so limited, within 50..1000, in DRIBBLE down to
DRIBBLE_POS; a shut gate's command stands; the accumulator is zero after it and the outbound command is the gate's (R89,
R92 to R94, R96). -/
def Obligations.WindowStepMovesTheGate : Prop :=
  ∀ (s : State) (i : Spout),
    let w := s.pm.working
    let g := gateOf s i
    let t := windowStep i s
    let g' := gateOf t i
    let mean := g.flowSum / g.flowCount
    g'.flowSum = 0 ∧ g'.flowCount = 0 ∧ t.sli.gateCommand.get i = g'.command ∧
    (g.mode = .opening →
      (0 < g.flowCount ∧ rateOf s.dba i ≤ mean → g'.mode = .regulating ∧ g'.command = g.command) ∧
      (¬ (0 < g.flowCount ∧ rateOf s.dba i ≤ mean) → g'.command = min 1000 (g.command + w.gearStep) ∧
        g'.mode = if g'.command = 1000 then .regulating else .opening)) ∧
    (g.mode = .regulating → g'.mode = .regulating ∧
      (g.flowCount = 0 → g'.command = g.command) ∧
      (0 < g.flowCount → 50 ≤ g'.command ∧ g'.command ≤ 1000 ∧
        (g'.command : Int) = max 50 (min 1000 ((g.command : Int) + max (-(w.gearStep : Int)) (min (w.gearStep : Int)
          ((((rateOf s.dba i : Int) - (mean : Int)) * (w.kp : Int)).tdiv 1000)))) ∧
        (50 ≤ g.command → g.command ≤ 1000 →
          g'.command ≤ g.command + w.gearStep ∧ g.command ≤ g'.command + w.gearStep ∧
          (mean ≤ rateOf s.dba i → g.command ≤ g'.command) ∧ (rateOf s.dba i ≤ mean → g'.command ≤ g.command)))) ∧
    (g.mode = .dribble → g'.mode = .dribble ∧
      g'.command = if w.dribblePos < g.command then max w.dribblePos (g.command - w.gearStep) else g.command) ∧
    (g.mode.discharging = false → g' = { g with flowSum := 0, flowCount := 0 }) ∧
    (∀ j, j ≠ i → gateOf t j = gateOf s j ∧ t.sli.gateCommand.get j = s.sli.gateCommand.get j) ∧
    t.lm = s.lm ∧ t.dba = s.dba ∧ t.oau = s.oau ∧ t.bmu = s.bmu ∧ t.ssu = s.ssu ∧ t.ots = s.ots ∧ t.pm = s.pm

/-- The cutoff check of a discharging gate: at a projection at or above the target the gate closes, the cutoff record
holds what the check used, a CUTOFF tail begins and the load goes to TAILING; below it nothing but the dribble test
happens. Good feedback at or below 20 per-mille closes a CLOSING gate, which then takes its pending grant, into OPENING
at START_POS or DRIBBLE at DRIBBLE_POS; any other feedback, and any other mode, changes nothing (R90, R91, R95, R97 to
R99, R103, R107, R131, R156). On a normal frame of a window in progress a discharging gate has its cutoff check on the
frame's own flow: the load goes to TAILING and the gate is shut, or the flow joins its accumulator and the dribble test
is made. A gate that leaves DRIBBLE leaves the dribble set, and a departure that empties the set in DEFERRED opens the
valve (R92, R159, R190; that it does so before the queue is examined is log 36, an arrival with no frame in progress
log 27). -/
def Obligations.CutoffClosesTheGate : Prop :=
  (∀ (s : State) (i : Spout) (l : Load) (fl : Flow), loadOf s i = some l → (gateOf s i).mode.discharging = true →
    let tau := s.pm.working.tailMs.get i
    let projected := provisional s i l + ((fl.effective * tau / 1000 : Nat) : Int)
    let record : CutoffRecord :=
      { dCut := provisional s i l, qCut := fl.effective, load := l.number, substituted := fl.substituted }
    let left := (l.target : Int) - provisional s i l
    ((l.target : Int) ≤ projected →
      RunsOn [] { s with
        gate := s.gate.set i { gateOf s i with
          mode := .closing, command := 0, closeTimer := some 0, cutoff := some record
          tail := some { kind := .cutoff, timer := 0, lowCount := 0, spoiled := fl.substituted } }
        sli := { s.sli with gateCommand := s.sli.gateCommand.set i 0 }
        lm := { s.lm with slot := s.lm.slot.set i (some { l with state := .tailing, cutoff := some record }) } }
        (cutoffCheck i fl s) ∧
      (GrantsAgree s → noClaim i (cutoffCheck i fl s)) ∧ LeavesDribble i s (cutoffCheck i fl s)) ∧
    (projected < l.target → (gateOf s i).mode = .dribble ∨ (s.pm.working.dribbleMassG : Int) < left →
      cutoffCheck i fl s = s) ∧
    (projected < l.target → (gateOf s i).mode ≠ .dribble → left ≤ (s.pm.working.dribbleMassG : Int) →
      cutoffCheck i fl s = { s with
        gate := s.gate.set i { gateOf s i with mode := .dribble }
        bsc := { s.bsc with dribbleSet := s.bsc.dribbleSet.set i true } })) ∧
  (∀ (f : InFrame) (o : Sched) (s : State) (n m : Nat) (i : Spout) (l : Load), s.power = .running →
    s.sli.lock = .locked → s.sli.lastSeq = some m → wellFormed f n → n = (m + 1) % 256 → s.bmu.mode ≠ .blind →
    s.bmu.position < 9 → loadOf s i = some l → l.state = .discharging → (gateOf s i).mode.discharging = true →
    (gateOf s i).tail = none → (gateOf s i).pendingGrant = none → (sensorOf s i).demand = false →
    (channelAfter (sampleOf (f.impact.get i)) (s.sli.impact.get i)).state = .fresh →
    let w := s.pm.working
    let g := gateOf s i
    let q := frameFlow f s i
    let grams := (q * w.framePeriodUs + (sensorOf s i).carry) / 1000000
    let delivered := provisional s i l + if o.flowsBeforeMass then 0 else ((grams : Nat) : Int)
    let projected := delivered + ((q * w.tailMs.get i / 1000 : Nat) : Int)
    let record : CutoffRecord := { dCut := delivered, qCut := q, load := l.number, substituted := false }
    ∃ t, exec (.frameArrival f o) s = .next t ∧
      ((l.target : Int) ≤ projected → loadOf t i = some { l with state := .tailing, cutoff := some record } ∧
        (gateOf t i).mode.discharging = false ∧ (gateOf t i).command = 0 ∧ t.sli.gateCommand.get i = 0 ∧
        (gateOf t i).cutoff = some record ∧
        (gateOf t i).tail = some { kind := .cutoff, timer := 0, lowCount := 0, spoiled := false } ∧
        (g.mode = .dribble → t.bsc.dribbleSet.get i = false)) ∧
      (projected < l.target → loadOf t i = some l ∧
        let left := (l.target : Int) - delivered
        gateOf t i = { g with
          mode := if left ≤ (w.dribbleMassG : Int) then .dribble else g.mode
          flowSum := g.flowSum + q, flowCount := g.flowCount + 1 })) ∧
  ∀ (s : State) (i : Spout) (m : Mark),
    let g := gateOf s i
    let w := s.pm.working
    let confirms := g.mode = .closing ∧ ∃ v, m = .good v ∧ v ≤ 20
    let shut : Gate := { g with mode := .closed, closeTimer := none, pendingGrant := none }
    let taken := fun (mode : GateMode) (command : Nat) => { s with
      gate := s.gate.set i { shut with mode := mode, command := command, flowSum := 0, flowCount := 0 }
      sli := { s.sli with gateCommand := s.sli.gateCommand.set i command } }
    (¬ confirms → gateFeedback i m s = s) ∧
    (confirms → g.pendingGrant = none → gateFeedback i m s = { s with gate := s.gate.set i shut }) ∧
    (confirms → g.pendingGrant ≠ none → ∀ l, loadOf s i = some l →
      ((w.dribbleMassG : Int) < l.target - provisional s i l → gateFeedback i m s = taken .opening w.startPos) ∧
      ((l.target : Int) - provisional s i l ≤ w.dribbleMassG →
        gateFeedback i m s = { taken .dribble w.dribblePos with
          bsc := { s.bsc with dribbleSet := s.bsc.dribbleSet.set i true } }))

/-! ### Timers -/

/-- The two ends of a tail. TAIL_TIMER_EXPIRY with the timer at TAIL_MAX_MS, and the fifth position in a row below
TAIL_END_FLOW: τ is learned from a CUTOFF tail of 5,000 g/s or more that is not spoiled, and the load ends with FINISHED
where recorded and CUTOFF otherwise; the gate's mode, command and close timer stand. A position before the fifth counts on
or starts the count again, and a substituted one spoils the tail; an expiry without a tail, or below the limit, changes
nothing (R107, R108, R109, R111, R112, R114, R131, R133; log 2). -/
def Obligations.TailTimerEndsTheLoad : Prop :=
  ∀ (s : State) (i : Spout) (l : Load) (x : Tail), loadOf s i = some l →
    let w := s.pm.working
    let learned := fun spoiled : Bool => match (gateOf s i).cutoff with
      | some c =>
        if x.kind = .cutoff ∧ 5000 ≤ c.qCut ∧ spoiled = false then
          let observed : Int := ((((l.d : Int) - c.dCut).toNat * 1000 / c.qCut : Nat) : Int)
          (max 0 (min 4000 ((w.tailMs.get i : Int) + (observed - w.tailMs.get i).tdiv 4))).toNat
        else w.tailMs.get i
      | none => w.tailMs.get i
    let ended := fun spoiled : Bool => { endedBase i l (if l.finished then .finished else .cutoff) s with
      gate := s.gate.set i { gateOf s i with tail := none, cutoff := none }
      pm := { s.pm with working := { w with tailMs := w.tailMs.set i (learned spoiled) } } }
    (s.power = .running → (gateOf s i).tail = some x → w.tailMaxMs ≤ x.timer →
      ∃ t, exec (.tailTimerExpiry i) s = .next t ∧ RunsOn [] (ended x.spoiled) t ∧ (GrantsAgree s → noClaim i t)) ∧
    (s.power = .running → (∀ y, (gateOf s i).tail = some y → y.timer < w.tailMaxMs) →
      exec (.tailTimerExpiry i) s = .next s) ∧
    ∀ fl : Flow,
      let low := if fl.q < w.tailEndFlow then x.lowCount + 1 else 0
      let spoiled := x.spoiled || fl.substituted
      let t := tailPosition i x fl s
      (low < 5 → t = { s with gate := s.gate.set i { gateOf s i with
        tail := some { x with lowCount := low, spoiled := spoiled } } }) ∧
      (5 ≤ low → RunsOn [] (ended spoiled) t ∧ (GrantsAgree s → noClaim i t))

/-- The completion of a load: D joins the order's loaded mass, its target leaves the reserved mass, an OPEN order that has
reached its ordered mass less its tolerance is FILLED, a load with D above 0 leaves a ticket under the next number, and
the place is given back (R142, R148, R150, R151; R70 for the share). -/
def Obligations.CompletionMakesTheTicket : Prop :=
  ∀ (s : State) (i : Spout) (l : Load) (cause : EndCause) (o : Order), findOrder s l.order = some o →
    let loaded := o.loaded + l.d
    let after : Order := { o with
      loaded := loaded, reserved := o.reserved - l.target
      state := if o.state = .opened ∧ (o.ordered : Int) - o.tolerance ≤ loaded then .filled else o.state }
    let difference := (l.d : Int) - l.target
    let ticket : Ticket :=
      { number := s.ots.counter, ref := l.order, spout := i, load := l.number, target := l.target, d := l.d
        share := l.gravimetric * 1000 / l.d
        outcome := if -(o.tolerance : Int) ≤ difference ∧ difference ≤ o.tolerance then .inTolerance
          else if (o.tolerance : Int) < difference then .over else .under
        endCause := cause, holdS := l.holdMs / 1000, trips := l.trips, drift := l.drift, firstFault := l.firstFault }
    ∃ ots, complete i l cause s = { s with ots := ots } ∧
      ((s.ots.orders.map Order.ref).Nodup → ots.orders = s.ots.orders.map fun x => if x.ref = l.order then after else x) ∧
      (l.d = 0 → ots.tickets = s.ots.tickets ∧ ots.counter = s.ots.counter) ∧
      (0 < l.d → ots.tickets = s.ots.tickets ++ [ticket] ∧
        ots.counter = if 65535 ≤ s.ots.counter then 1 else s.ots.counter + 1) ∧
      ots.placesHeld = s.ots.placesHeld - 1

/-- The two gate faults. CLOSE_TIMER_EXPIRY: a gate still CLOSING at its limit faults with GATE STUCK.
STALENESS_TIMER_EXPIRY of a gate feedback channel: while LOCKED the gate faults with GATE FEEDBACK; in SEEKING only the
channel changes. Either fault is latched and ends the spout's load with SPOUT FAULT. An expiry whose gate is not
CLOSING or whose timer is below its limit changes nothing (R13, R14, R104, R105, R106, R114, R135, R136; log 2). A gate
that faults out of DRIBBLE leaves the dribble set, and opens a deferred valve if that empties it (R156, R159; before
the queue is examined, log 36). -/
def Obligations.GateFaultsEndTheLoad : Prop :=
  ∀ (s : State) (i : Spout), s.power = .running →
    (∀ n, (gateOf s i).mode = .closing → (gateOf s i).closeTimer = some n → s.pm.working.gateCloseMs ≤ n →
      ∃ t, exec (.closeTimerExpiry i) s = .next t ∧ RunsOn [] (faultEndedBase i .gateStuck s) t ∧
        (gateOf t i).mode = .fault ∧ t.sli.gateCommand.get i = 0 ∧ loadOf t i = none ∧
        (GrantsAgree s → noClaim i t)) ∧
    ((∀ n, (gateOf s i).mode = .closing → (gateOf s i).closeTimer = some n → n < s.pm.working.gateCloseMs) →
      exec (.closeTimerExpiry i) s = .next s) ∧
    (∀ n, (s.sli.feedback.get i).state = .fresh → (s.sli.feedback.get i).timer = some n →
      (s.pm.working.staleFrames * s.pm.working.framePeriodUs + 999) / 1000 ≤ n →
      let stale : Channel := { state := .stale, lastGood := (s.sli.feedback.get i).lastGood, timer := none }
      let s' := { s with sli := { s.sli with feedback := s.sli.feedback.set i stale } }
      (s.sli.lock = .seeking → exec (.stalenessTimerExpiry (.feedback i)) s = .next s') ∧
      (s.sli.lock = .locked → ∃ t, exec (.stalenessTimerExpiry (.feedback i)) s = .next t ∧
        RunsOn [] (faultEndedBase i .gateFeedback s') t ∧ (gateOf t i).mode = .fault ∧ loadOf t i = none ∧
        (GrantsAgree s → noClaim i t) ∧ LeavesDribble i s t))

/-- LINK_TIMER_EXPIRY with the timer at LINK_TIMEOUT_MS: the timer stops, and a load that records holds is HELD with
LINK, a DISCHARGING one with its gate closed; in ARMED, TAILING or an empty slot nothing is added. With the timer
stopped or below the limit, or at LINK_TIMEOUT_MS 0, nothing happens; so a request that its port takes first (R172;
that a RECEIVING port takes it too is log 3) restarts the timer and no LINK is added. HOLD_EXPIRED: a HELD load past
its limit ends with HOLD EXPIRED, and any other is left (R101, R102, R122, R128, R129, R133; log 2). A gate that leaves
DRIBBLE leaves the dribble set, and a departure that empties it in DEFERRED opens the valve (R156, R159; before the
queue is examined, log 36). -/
def Obligations.LinkAndHoldLimitsActOnTheLoad : Prop :=
  ∀ (s : State) (i : Spout), s.power = .running →
    let due := s.pm.working.linkTimeoutMs ≠ 0 ∧ ∃ n, s.lm.linkTimer.get i = some n ∧ s.pm.working.linkTimeoutMs ≤ n
    let s' := { s with lm := { s.lm with linkTimer := s.lm.linkTimer.set i none } }
    (¬ due → exec (.linkTimerExpiry i) s = .next s) ∧
    (due →
      (∀ l, loadOf s i = some l → recordsHolds l.state → ∃ t, exec (.linkTimerExpiry i) s = .next t ∧
        RunsOn [] (heldBase .link i l s') t ∧ (GrantsAgree s → noClaim i t) ∧
        (l.state = .discharging → gateOf t i = closedGate (gateOf s i) ∧
          ((gateOf s i).mode.discharging = true → t.sli.gateCommand.get i = 0) ∧ LeavesDribble i s t)) ∧
      ((∀ l, loadOf s i = some l → ¬ recordsHolds l.state) → ∃ t, exec (.linkTimerExpiry i) s = .next t ∧
        RunsOn [] s' t)) ∧
    (∀ l, loadOf s i = some l → takes (.bay i) (.spoutStatus (.bay i) 1) s →
      ∃ u, exec (.spoutStatus (.bay i) 1) s = .next u ∧
      exec (.linkTimerExpiry i) u = .next u) ∧
    (∀ l, loadOf s i = some l → l.state = .held → s.pm.working.holdLimitS ≠ 0 →
      s.pm.working.holdLimitS * 1000 < l.holdMs →
      ∃ t, exec (.holdExpired i) s = .next t ∧ RunsOn [] (endedBase i l .holdExpired s) t ∧
        (GrantsAgree s → noClaim i t)) ∧
    ((∀ l, loadOf s i = some l → l.state = .held → s.pm.working.holdLimitS ≠ 0 →
      l.holdMs ≤ s.pm.working.holdLimitS * 1000) → exec (.holdExpired i) s = .next s)

/-- DEFERRAL_TIMER_EXPIRY at its limit opens a deferred valve; REFILL_TIMER_EXPIRY at its limit closes an open one and
latches the supply fault; in any other refill state, and below the limit, they change nothing (R31, R56, R158, R159, R161;
log 2). -/
def Obligations.RefillTimersMoveTheValve : Prop :=
  ∀ s : State, s.power = .running →
    let due := s.bsc.state = .deferred ∧
      ∃ n, s.bsc.deferralTimer = some n ∧ s.pm.working.refillDeferMaxS * 1000 ≤ n
    let out := s.bsc.state = .opened ∧ ∃ n, s.bsc.refillTimer = some n ∧ s.pm.working.refillMaxS * 1000 ≤ n
    (due → (s.bmu.mode = .unready ∨ s.bmu.mode = .gravimetric ∨ s.bmu.mode = .settling) →
      ∃ t, exec .deferralTimerExpiry s = .next t ∧
        RunsOn [] { s with
          bsc := { s.bsc with state := .opened, deferralTimer := none, refillTimer := some 0 }
          sli := { s.sli with refillCommand := true }
          bmu := { s.bmu with mode := .refilling, refillMark := true }
          oau := { s.oau with
            modeRecord := .refilling, carry := if s.oau.modeRecord = .gravimetric then 0 else s.oau.carry } } t) ∧
    (¬ due → exec .deferralTimerExpiry s = .next s) ∧
    (out → s.bmu.mode = .refilling →
      ∃ t, exec .refillTimerExpiry s = .next t ∧
        RunsOn [] { s with
          bsc := { s.bsc with state := .supplyFault, refillTimer := none, supplyFault := true }
          sli := { s.sli with refillCommand := false }
          bmu := { s.bmu with mode := .settling }
          oau := { s.oau with
            modeRecord := .settling, carry := if s.oau.modeRecord = .gravimetric then 0 else s.oau.carry } } t) ∧
    (¬ out → exec .refillTimerExpiry s = .next s)

/-! ### Lines, restarts and power -/

/-- INTERLOCK_FALLING_EDGE counts a trip on a load that records holds and holds it with INTERLOCK, a DISCHARGING one
with its gate closed; with any other load or none it changes the sampled level, and so does INTERLOCK_RISING_EDGE,
which changes nothing else (R101, R102, R122, R127). A gate that leaves DRIBBLE leaves the dribble set, and a departure
that empties it in DEFERRED opens the valve (R156, R159; before the queue is examined, log 36). A falling edge of a
line sampled low is taken as an edge, which is log 17. -/
def Obligations.InterlockEdgesActOnTheirSpout : Prop :=
  ∀ (s : State) (i : Spout), s.power = .running →
    let s' := fun high => { s with lm := { s.lm with interlock := s.lm.interlock.set i high } }
    exec (.interlockRisingEdge i) s = .next (s' true) ∧
    (∀ l, loadOf s i = some l → recordsHolds l.state → ∃ t, exec (.interlockFallingEdge i) s = .next t ∧
      RunsOn [] (heldBase .interlock i { l with trips := min 255 (l.trips + 1) } (s' false)) t ∧
      (GrantsAgree s → noClaim i t) ∧
      (l.state = .discharging → gateOf t i = closedGate (gateOf s i) ∧
        ((gateOf s i).mode.discharging = true → t.sli.gateCommand.get i = 0) ∧ LeavesDribble i s t)) ∧
    ((∀ l, loadOf s i = some l → ¬ recordsHolds l.state) → ∃ t, exec (.interlockFallingEdge i) s = .next t ∧
      RunsOn [] (s' false) t)

/-- AERATION_OK_CHANGE: a fall takes the effective budget to 0, revokes every allocation and empties the queue, and
holds every load that records holds with AERATION, a DISCHARGING one with its gate closed; a rise returns the budget
unless the bin is starved and lifts AERATION from every HELD load (R74, R82, R124, R125, R165). A level already sampled
is no change (log 17). A gate that leaves DRIBBLE leaves the dribble set, and a departure that empties it in DEFERRED
opens the valve (R156, R159; before the queue is examined, log 36). -/
def Obligations.AerationChangeReachesTheLoads : Prop :=
  ∀ (s : State) (high : Bool), s.power = .running →
    let s' := fun budget => { s with
      bsc := { s.bsc with aerationHigh := high }
      dba := { s.dba with aerationLow := !high, effectiveBudget := budget }
      lm := { s.lm with aerationLow := !high } }
    (s.bsc.aerationHigh = high → exec (.aerationOkChange high) s = .next s) ∧
    (s.bsc.aerationHigh = true → high = false → ∃ t, exec (.aerationOkChange high) s = .next t ∧
      RunsOn [] (s' 0) t ∧
      (∀ i l, loadOf s i = some l → recordsHolds l.state →
        ∃ x, loadOf t i = some x ∧ x.state = .held ∧ x.causes.aeration = true) ∧
      (∀ i l, loadOf s i = some l → l.state = .discharging → gateOf t i = closedGate (gateOf s i) ∧
        ((gateOf s i).mode.discharging = true → t.sli.gateCommand.get i = 0) ∧ LeavesDribble i s t) ∧
      (GrantsAgree s → ∀ i, noClaim i t)) ∧
    (s.bsc.aerationHigh = false → high = true → ∃ t, exec (.aerationOkChange high) s = .next t ∧
      RunsOn [] (s' (if s.dba.starved then 0 else s.pm.working.budget)) t ∧
      (∀ i l, loadOf s i = some l → l.state = .held →
        ∃ x, loadOf t i = some x ∧ x.causes.aeration = false))

/-- COLD_START: every block takes its cold values from a sound image or the defaults; the image and, unless SERVICE is
high, the lock cell are kept; and the cold start of a part as delivered, SERVICE low, gives State.reset (R18, R39, R54,
R73, R88, R115, R139, R154, R167, R179, R183, R186, R187). That the lines are low in State.reset is log 13, that the
command carries their levels log 12, that the outbound slots stand at 0 until the first sync log 15, and where the sync
clock starts log 19. -/
def Obligations.ColdStartSetsColdValues : Prop :=
  (∀ s : State, s.pm.image = .neverWritten → s.pm.custodyLock = false → s.pm.status ≠ .writing → s.pending = [] →
    exec (.coldStart false { interlock := .all false, aerationOk := false }) s = .next State.reset) ∧
  ∀ (s : State) (service : Bool) (lines : Lines), s.pm.status ≠ .writing →
    ∃ t, exec (.coldStart service lines) s = .next t ∧
      (∀ w, s.pm.image = .written w (imageCrc w) → paramsSound w = true →
        t.pm.working = w ∧ t.pm.defaulted = false) ∧
      ((∀ w, s.pm.image = .written w (imageCrc w) → paramsSound w = false) →
        t.pm.working = paramDefaults ∧ t.pm.defaulted = true) ∧
      t.pm = { s.pm with
        working := t.pm.working, defaulted := t.pm.defaulted
        custodyLock := if service then false else s.pm.custodyLock
        restartCause := if service then .coldService else .cold
        status := .none, saveTimer := none, snapshot := none, warmPending := false } ∧
      t.power = .running ∧ t.bmu = State.reset.bmu ∧ t.ssu = State.reset.ssu ∧ t.oau = State.reset.oau ∧
      t.gate = State.reset.gate ∧ t.ots = State.reset.ots ∧
      t.sli = { State.reset.sli with syncClockUs := t.sli.syncClockUs } ∧
      t.dba = { State.reset.dba with
        aerationLow := !lines.aerationOk
        effectiveBudget := if lines.aerationOk then t.pm.working.budget else 0 } ∧
      t.lm = { State.reset.lm with interlock := lines.interlock, aerationLow := !lines.aerationOk } ∧
      t.bsc = { State.reset.bsc with aerationHigh := lines.aerationOk } ∧
      (∀ p, portOf t p = .reset t.pm.working.portBaud) ∧ t.pending = s.pending

/-- A write cut off by the RESET line or by the loss of power leaves an image that no cold start finds sound; the lock cell
and a finished image survive both; RESET leaves everything else, the loss of power leaves nothing else; and at rest or without
power every command but a cold start and the loss of power leaves the state as it is (R183, R185, R186, R187; the values
of what is lost, and that other commands do nothing then, are log 14). -/
def Obligations.ResetLineAndPowerLossKeepTheStore : Prop :=
  ∀ s : State,
    let cut := { s.pm with status := .none, image := .cutOff, saveTimer := none, snapshot := none }
    (s.power = .running → s.pm.status ≠ .writing →
      exec .resetLineRaised s = .next { s with power := .atRest }) ∧
    (s.power = .running → s.pm.status = .writing →
      exec .resetLineRaised s = .next { s with power := .atRest, pm := cut }) ∧
    exec .powerLost s = .next { State.reset with
      power := .off
      pm := { State.reset.pm with
        image := if s.pm.status = .writing then .cutOff else s.pm.image, custodyLock := s.pm.custodyLock }
      pending := s.pending } ∧
    (∀ c : Instr, s.power ≠ .running → (∀ service lines, c ≠ .coldStart service lines) → c ≠ .powerLost →
      exec c s = .next s) ∧
    (∀ service lines t u, s.pm.status = .writing → exec .powerLost s = .next t →
      exec (.coldStart service lines) t = .next u → u.pm.working = paramDefaults ∧ u.pm.defaulted = true)

/-- WARM_RESTART: every open load ends with RESTART in the order A, B, C, each with its completion; every block takes its
warm values, and the working values, the image, the lock cell, a save in progress, the orders, tickets and counters, the
fault latches, the drift suspensions, the unassigned account and the supply-fault latch are kept (R18, R39, R54, R73, R88,
R115, R139, R154, R167, R179, R188). It is taken in every running state, also where no reply to a RESTART has handed one
over, which is the model's choice, log 20; so are the levels it carries, log 12, and the outbound slots standing at 0 until
the next sync, log 15. -/
def Obligations.WarmRestartEndsTheLoads : Prop :=
  ∀ (s : State) (lines : Lines), s.power = .running →
    let ended := fun (i : Spout) (u : State) => match loadOf s i with
      | some l => { u with ots := (complete i l .restart u).ots }
      | none => u
    exec (.warmRestart lines) s = .next { s with
      sli := { State.reset.sli with syncClockUs := 0 }
      bmu := State.reset.bmu
      ssu := .of fun i => { Sensor.reset with driftSuspended := (sensorOf s i).driftSuspended }
      oau := { State.reset.oau with unassigned := s.oau.unassigned }
      dba := { State.reset.dba with
        aerationLow := !lines.aerationOk
        effectiveBudget := if lines.aerationOk then s.pm.working.budget else 0 }
      gate := State.reset.gate
      lm := { State.reset.lm with
        counter := s.lm.counter, latch := s.lm.latch, interlock := lines.interlock
        aerationLow := !lines.aerationOk }
      ots := (ended .C (ended .B (ended .A s))).ots
      bsc := { State.reset.bsc with
        state := if s.bsc.supplyFault then .supplyFault else .idle, supplyFault := s.bsc.supplyFault
        aerationHigh := lines.aerationOk }
      pc := { bay := .all (.reset s.pm.working.portBaud), dispatch := .reset s.pm.working.portBaud }
      pm := { s.pm with restartCause := .warm, warmPending := false } }

/-! ### Ports -/

/-- PORT_BYTE_RECEIVED and GAP_TIMER_EXPIRY: what each receive state does with a byte, whole or with a framing error, and
with a gap of 20 ms; every discard is counted and gets no request; an expiry below 20 ms, which a byte taken first leaves,
changes nothing (R168 to R172; log 2). -/
def Obligations.ReceiverAssemblesFrames : Prop :=
  ∀ (s : State) (p : Port) (b : Byte), s.power = .running →
    let x := portOf s p
    let discarded : PortState :=
      { x with receive := .idle, buffer := [], gapTimer := none, errors := min 65535 (x.errors + 1) }
    let buffer := x.buffer ++ [b]
    let l := (buffer.headD 0).toNat
    (x.receive = .idle →
      exec (.portByteReceived p b true) s = .next (if b = 0x02
        then setPort s p { x with receive := .receiving, buffer := [], gapTimer := some 0 } else s) ∧
      exec (.portByteReceived p b false) s = .next s) ∧
    (x.receive = .answering → ∀ stop, exec (.portByteReceived p b stop) s = .next s) ∧
    (x.receive = .receiving →
      exec (.portByteReceived p b false) s = .next (setPort s p discarded) ∧
      (∀ n, x.gapTimer = some n → 20 ≤ n → exec (.gapTimerExpiry p) s = .next (setPort s p discarded)) ∧
      (l = 0 ∨ 120 < l → exec (.portByteReceived p b true) s = .next (setPort s p discarded)) ∧
      (1 ≤ l → l ≤ 120 → buffer.length ≠ l + 3 → exec (.portByteReceived p b true) s =
        .next (setPort s p { x with buffer := buffer, gapTimer := some 0 })) ∧
      (1 ≤ l → l ≤ 120 → buffer.length = l + 3 →
        let crc := crc16 (buffer.take (l + 1))
        (buffer.drop (l + 1) = [crc.extractLsb' 8 8, crc.extractLsb' 0 8] →
          exec (.portByteReceived p b true) s = .next (setPort s p { x with
            receive := .answering, buffer := [], gapTimer := none, reply := none
            request := some (requestOf p ((buffer.take (l + 1)).drop 1)) })) ∧
        (buffer.drop (l + 1) ≠ [crc.extractLsb' 8 8, crc.extractLsb' 0 8] →
          exec (.portByteReceived p b true) s = .next (setPort s p discarded)))) ∧
    ((∀ n, x.gapTimer = some n → x.receive = .receiving → n < 20) → exec (.gapTimerExpiry p) s = .next s)

/-- Every request of the table, spelled as a frame on its port's line (start byte, L, kind byte, fields, CRC), byte by byte
into an IDLE receiver, becomes that request in progress: no bit of a field is dropped (R168 to R170, the layouts and the
table "Request kinds" of chapter 10). -/
def Obligations.FrameOnTheLineBecomesItsRequest : Prop :=
  ∀ (c : Instr) (form : Form) (x : PortState), requestForm c = some form → c.wf = true → form.len = form.want →
    x.receive = .idle →
    let body := form.kind :: requestFields c
    let covered := BitVec.ofNat 8 form.want :: body
    let crc := crc16 covered
    let line := 0x02 :: covered ++ [crc.extractLsb' 8 8, crc.extractLsb' 0 8]
    body.length = form.want ∧
    line.foldl (fun y b => receiveByte form.port b true y) x =
      { x with receive := .answering, buffer := [], gapTimer := none, reply := none, request := some c }

/-- REPLY_SENT and PORT_BAUD_TAKEN_UP: the last byte of a reply makes the port IDLE; the dispatch port then takes up the
working rate and, after the reply to RESTART, hands over the warm restart; an IDLE port takes up the rate (R172, R178,
R179). -/
def Obligations.RepliesEndAndRatesAreTakenUp : Prop :=
  ∀ (s : State) (p : Port), s.power = .running →
    let freed := { portOf s p with receive := .idle, buffer := [], gapTimer := none, request := none, reply := none }
    ((portOf s p).reply = none → exec (.replySent p) s = .next s) ∧
    (∀ i r, p = .bay i → (portOf s p).reply = some r → exec (.replySent p) s = .next (setPort s p freed)) ∧
    (∀ r, p = .dispatch → (portOf s p).reply = some r → exec (.replySent p) s = .next { s with
      pc := { s.pc with dispatch := { freed with baud := s.pm.working.portBaud } }
      pm := { s.pm with warmPending := s.pm.warmPending || decide (r.kind = 0xAE ∧ r.result = .ok) } }) ∧
    ((portOf s p).receive = .idle → exec (.portBaudTakenUp p) s =
      .next (setPort s p { portOf s p with baud := s.pm.working.portBaud })) ∧
    ((portOf s p).receive ≠ .idle → exec (.portBaudTakenUp p) s = .next s)

/-- A port that is ANSWERING takes no request but the one in progress before its reply is formed: any other that is
sent is lost and changes nothing, the link timer included (R172). The form checks of the PC on a request that is taken,
in their order: UNKNOWN for a kind byte of no known kind, on every port and whatever L; then WRONG PORT; then OUT OF
RANGE for a length or a field format. A refusal changes nothing but the port's receive state, the link timer of an
occupied slot and the reply (R128, R173, R174). It is said of a request that its port takes (R172; that a RECEIVING
port takes it too is the model's choice, log 3). -/
def Obligations.FormChecksRefuseInOrder : Prop :=
  (∀ (s : State) (kind : Byte) (n : Nat), s.power = .running →
    (kind.toNat < 0x10 ∨ 0x16 < kind.toNat ∧ kind.toNat < 0x20 ∨ 0x2F < kind.toNat) →
    (takes .dispatch (.unknownRequest .dispatch kind n) s → exec (.unknownRequest .dispatch kind n) s =
      .next (onDispatch (.unknownRequest .dispatch kind n) (kind ||| 0x80) .unknown [] s)) ∧
    ∀ i, takes (.bay i) (.unknownRequest (.bay i) kind n) s → exec (.unknownRequest (.bay i) kind n) s =
      .next (onBay i (.unknownRequest (.bay i) kind n) (kind ||| 0x80) .unknown [] (bayTaken i s))) ∧
  (∀ (s : State) (p : Port) (kind : Byte) (n : Nat), ¬ takes p (.unknownRequest p kind n) s →
    exec (.unknownRequest p kind n) s = .next s) ∧
  (∀ (c : Instr) (form : Form) (s : State), requestForm c = some form → ¬ takes form.port c s → exec c s = .next s) ∧
  ∀ (c : Instr) (form : Form) (s : State), requestForm c = some form → s.power = .running → takes form.port c s →
    (form.bay = true → form.port = .dispatch →
      exec c s = .next (onDispatch c (form.kind + 0x80) .wrongPort [] s)) ∧
    (∀ i, form.bay = false → form.port = .bay i →
      exec c s = .next (onBay i c (form.kind + 0x80) .wrongPort [] (bayTaken i s))) ∧
    (form.bay = false → form.port = .dispatch → (form.len ≠ form.want ∨ form.formats = false) →
      exec c s = .next (onDispatch c (form.kind + 0x80) .outOfRange [] s)) ∧
    (∀ i, form.bay = true → form.port = .bay i → (form.len ≠ form.want ∨ form.formats = false) →
      exec c s = .next (onBay i c (form.kind + 0x80) .outOfRange [] (bayTaken i s)))

/-! ### Bay requests -/

/-- OPEN_LOAD accepted: the smallest of the request, the available mass and MAX_LOAD_G is reserved with a ticket place,
the slot is filled ARMED under the next number at the clamped rate, and the reply carries the three (R116, R118, R119,
R128, R146, R147). It is said of a request that its port takes (R172; that a RECEIVING port takes it too is the model's
choice, log 3). -/
def Obligations.OpenLoadReservesAndFills : Prop :=
  ∀ (s : State) (i : Spout) (ref : Ref) (target rate : BitVec 32) (o : Order), s.power = .running →
    printable ref = true → massField target = true → rate.toNat ≤ 400000 →
    loadOf s i = none → (gateOf s i).mode ≠ .fault → s.bmu.zero.state ≠ .running →
    s.ots.tickets.length + s.ots.placesHeld < 16 → s.pm.working.minRate ≤ s.pm.working.budget →
    findOrder s ref = some o → o.state = .opened → o.bays.get i = true →
    let granted : Int := min (target.toNat : Int)
      (min ((o.ordered : Int) - o.loaded - o.reserved) s.pm.working.maxLoadG)
    10000 ≤ granted →
    let pace := min (max rate.toNat s.pm.working.minRate) (min s.pm.working.spoutMaxFlow s.pm.working.budget)
    let l : Load :=
      { number := s.lm.counter, order := ref, target := granted.toNat, rate := pace, state := .armed, d := 0
        gravimetric := 0, causes := .none, holdMs := 0, trips := 0, finished := false, cutoff := none, drift := false
        firstFault := none }
    let c := Instr.openLoad (.bay i) 17 ref target rate
    takes (.bay i) c s → ∃ t, exec c s = .next t ∧
      RunsOn [] (onBay i c 0x90 .ok
        (beBytes 2 s.lm.counter ++ beBytes 4 granted.toNat ++ beBytes 4 pace)
        { s with
          lm := { s.lm with
            slot := s.lm.slot.set i (some l)
            counter := if 65535 ≤ s.lm.counter then 1 else s.lm.counter + 1
            linkTimer := s.lm.linkTimer.set i (some 0) }
          ots := { s.ots with
            orders := s.ots.orders.map fun x => if x.ref = ref then { x with reserved := x.reserved + granted.toNat } else x
            placesHeld := s.ots.placesHeld + 1 } }) t

/-- OPEN_LOAD refused: the checks in their order, each with its result, and no state changed but the link timer of an
occupied slot (R118, R146). It is said of a request that its port takes (R172; that a RECEIVING port takes it too is
the model's choice, log 3). -/
def Obligations.OpenLoadRefusesInOrder : Prop :=
  ∀ (s : State) (i : Spout) (ref : Ref) (target rate : BitVec 32), s.power = .running →
    printable ref = true → massField target = true → rate.toNat ≤ 400000 →
    takes (.bay i) (.openLoad (.bay i) 17 ref target rate) s →
    let order := findOrder s ref
    let short := fun o : Order => min (target.toNat : Int)
      (min ((o.ordered : Int) - o.loaded - o.reserved) s.pm.working.maxLoadG) < 10000
    let checks : List (Prop × Result) :=
      [((loadOf s i).isSome, .spoutInUse), ((gateOf s i).mode = .fault, .spoutFault),
       (s.bmu.zero.state = .running, .busy), (16 ≤ s.ots.tickets.length + s.ots.placesHeld, .ticketsFull),
       (s.pm.working.budget < s.pm.working.minRate, .noBudget), (order = none, .noOrder),
       (∃ o, order = some o ∧ o.state = .cancelled, .orderClosed),
       (∃ o, order = some o ∧ o.bays.get i = false, .wrongBay),
       (∃ o, order = some o ∧ o.state = .filled, .orderExhausted),
       (∃ o, order = some o ∧ short o, .orderExhausted)]
    ∀ k (hk : k < checks.length), (∀ j (hj : j < k), ¬ (checks[j]'(Nat.lt_trans hj hk)).1) → checks[k].1 →
      exec (.openLoad (.bay i) 17 ref target rate) s =
        .next (onBay i (.openLoad (.bay i) 17 ref target rate) 0x90 checks[k].2 [] (bayTaken i s))

/-- START accepted and RESUME that empties the cause set, with the reply OK: the load enters WAITING and asks the DBA.
Its place stands at the tail of the queue under its number and rate, or, with a supply condition present at the DBA,
the request is reported back as revoked. A spout without a claim whose sensor is FRESH, with no supply condition, has
its allocation or its place when the event has run on. No load's latched causes change after that (R76 to R79, R121,
R126, R127). It is said of a request that its port takes (R172; that a RECEIVING port takes it too is the model's
choice, log 3). -/
def Obligations.StartAndResumeEnterWaiting : Prop :=
  ∀ (s : State) (i : Spout) (l : Load), s.power = .running → loadOf s i = some l →
    let waiting := fun causes => { l with state := .waiting, causes := causes }
    let u := bayTaken i s
    let grantable := noClaim i s ∧ s.dba.aerationLow = false ∧ s.dba.starved = false ∧
      (s.sli.impact.get i).state = .fresh
    (l.state = .armed → s.lm.interlock.get i = true → s.lm.aerationLow = false → s.lm.starved = false →
      (sensorOf s i).demand = false → (s.sli.feedback.get i).state = .fresh →
      takes (.bay i) (.start (.bay i) 1) s → ∃ t, exec (.start (.bay i) 1) s = .next t ∧
        RunsOn [] (onBay i (.start (.bay i) 1) 0x91 .ok [] (askedBase i (waiting l.causes) u)) t ∧
        (grantable → Asked i (waiting l.causes) s t)) ∧
    (l.state = .held → (l.causes.interlock = true → s.lm.interlock.get i = true) →
      l.causes.aeration = false → l.causes.starve = false → l.causes.sensor = false → l.causes.sense = false →
      takes (.bay i) (.resume (.bay i) 1) s → ∃ t, exec (.resume (.bay i) 1) s = .next t ∧
        RunsOn [] (onBay i (.resume (.bay i) 1) 0x93 .ok [] (askedBase i (waiting .none) u)) t ∧
        (grantable → Asked i (waiting .none) s t))

/-- START refused, RESUME that leaves causes, and each bay request refused WRONG STATE, with the reply's condition or
cause byte; RESUME removes the latched causes it may even so (R120, R123, R126, R130). It is said of a request that its
port takes (R172; that a RECEIVING port takes it too is the model's choice, log 3). -/
def Obligations.StartAndResumeAnswerTheConditions : Prop :=
  ∀ (s : State) (i : Spout), s.power = .running →
    let conditions := (if s.lm.interlock.get i then 0 else 1) + (if s.lm.aerationLow then 2 else 0) +
      (if s.lm.starved then 4 else 0) + (if (sensorOf s i).demand then 8 else 0) +
      (if (s.sli.feedback.get i).state = .fresh then 0 else 16)
    let remains := fun x : Causes => { x with
      bay := false, link := false, interlock := x.interlock && !s.lm.interlock.get i }
    let byte := fun x : Causes => (if x.interlock then 2 else 0) + (if x.aeration then 8 else 0) +
      (if x.starve then 16 else 0) + (if x.sensor then 32 else 0) + (if x.sense then 64 else 0)
    (∀ l, loadOf s i = some l → l.state = .armed → conditions ≠ 0 → takes (.bay i) (.start (.bay i) 1) s →
      exec (.start (.bay i) 1) s =
      .next (onBay i (.start (.bay i) 1) 0x91 .conditionPresent [BitVec.ofNat 8 conditions] (bayTaken i s))) ∧
    (∀ l, loadOf s i = some l → l.state = .held → byte (remains l.causes) ≠ 0 →
      takes (.bay i) (.resume (.bay i) 1) s → exec (.resume (.bay i) 1) s =
      .next (onBay i (.resume (.bay i) 1) 0x93 .conditionPresent [BitVec.ofNat 8 (byte (remains l.causes))]
        { bayTaken i s with lm := { (bayTaken i s).lm with
          slot := s.lm.slot.set i (some { l with causes := remains l.causes }) } })) ∧
    ((∀ l, loadOf s i = some l → l.state ≠ .armed) → takes (.bay i) (.start (.bay i) 1) s → exec (.start (.bay i) 1) s =
      .next (onBay i (.start (.bay i) 1) 0x91 .wrongState [] (bayTaken i s))) ∧
    ((∀ l, loadOf s i = some l → l.state ≠ .held) → takes (.bay i) (.resume (.bay i) 1) s → exec (.resume (.bay i) 1) s =
      .next (onBay i (.resume (.bay i) 1) 0x93 .wrongState [] (bayTaken i s))) ∧
    ((∀ l, loadOf s i = some l → ¬ recordsHolds l.state) → takes (.bay i) (.hold (.bay i) 1) s → exec (.hold (.bay i) 1) s =
      .next (onBay i (.hold (.bay i) 1) 0x92 .wrongState [] (bayTaken i s))) ∧
    ((∀ l, loadOf s i = some l → l.state = .tailing) → takes (.bay i) (.finish (.bay i) 1) s → exec (.finish (.bay i) 1) s =
      .next (onBay i (.finish (.bay i) 1) 0x94 .wrongState [] (bayTaken i s)))

/-- A START that finds the queue empty and room for its rate is granted within the event: the allocation is the
effective rate or BUDGET when lower, the load is DISCHARGING, and a CLOSED gate opens at START_POS, or dribbles at
DRIBBLE_POS when the remaining mass is within DRIBBLE_MASS_G (R76, R78, R90, R121). A gate that dribbles joins the
dribble set (R156). It is said of a request that its port takes (R172; that a RECEIVING port takes it too is the
model's choice, log 3). -/
def Obligations.StartIsGrantedAtOnce : Prop :=
  ∀ (s : State) (i : Spout) (l : Load), s.power = .running → loadOf s i = some l → l.state = .armed →
    s.lm.interlock.get i = true → s.lm.aerationLow = false → s.lm.starved = false → (sensorOf s i).demand = false →
    (s.sli.feedback.get i).state = .fresh → (s.sli.impact.get i).state = .fresh →
    s.dba.aerationLow = false → s.dba.starved = false → s.dba.queue = [] → s.dba.allocation.get i = none →
    (gateOf s i).mode = .closed → takes (.bay i) (.start (.bay i) 1) s →
    let w := s.pm.working
    let granted := min l.rate w.budget
    0 < granted → rateOf s.dba .A + rateOf s.dba .B + rateOf s.dba .C + granted ≤ s.dba.effectiveBudget →
    ∃ t x, exec (.start (.bay i) 1) s = .next t ∧
      t.dba.allocation.get i = some { load := l.number, rate := granted } ∧
      loadOf t i = some x ∧ x.state = .discharging ∧ x.number = l.number ∧
      (if (w.dribbleMassG : Int) < l.target - provisional s i l
        then (gateOf t i).mode = .opening ∧ (gateOf t i).command = w.startPos ∧ t.sli.gateCommand.get i = w.startPos
        else (gateOf t i).mode = .dribble ∧ (gateOf t i).command = w.dribblePos ∧
          t.sli.gateCommand.get i = w.dribblePos ∧ t.bsc.dribbleSet.get i = true) ∧
      (gateOf t i).flowSum = 0 ∧ (gateOf t i).flowCount = 0

/-- HOLD in WAITING, DISCHARGING or HELD: the load is HELD with BAY, the gate of a DISCHARGING load has its plain close
(a discharging mode goes to CLOSING at command 0, a pending grant is dropped) and every other gate of a held load
stands as it was, and the claim on the budget is given up (R91, R101, R102, R122, R123). A gate that leaves DRIBBLE
leaves the dribble set, and a departure that empties it in DEFERRED opens the valve (R156, R159; before the queue is
examined, log 36). It is said of a request that its port takes (R172; that a RECEIVING port takes it too is the model's
choice, log 3). -/
def Obligations.HoldHoldsTheLoad : Prop :=
  ∀ (s : State) (i : Spout) (l : Load), s.power = .running → loadOf s i = some l → recordsHolds l.state →
    takes (.bay i) (.hold (.bay i) 1) s → ∃ t, exec (.hold (.bay i) 1) s = .next t ∧
      RunsOn [] (onBay i (.hold (.bay i) 1) 0x92 .ok [] (heldBase .bay i l (bayTaken i s))) t ∧
      (∃ x, loadOf t i = some x ∧ x.state = .held ∧ x.causes.bay = true) ∧
      (l.state = .discharging → gateOf t i = closedGate (gateOf s i) ∧
        ((gateOf s i).mode.discharging = true → t.sli.gateCommand.get i = 0) ∧ LeavesDribble i s t) ∧
      (l.state ≠ .discharging → gateOf t i = gateOf s i ∧ t.sli.gateCommand.get i = s.sli.gateCommand.get i) ∧
      (GrantsAgree s → noClaim i t)

/-- FINISH: a DISCHARGING load goes to TAILING with FINISHED recorded and its open gate closes with a FINISHED tail; an
ARMED, WAITING or HELD load ends at once with FINISHED (R101, R102, R107, R130, R133). A gate that leaves DRIBBLE
leaves the dribble set, and a departure that empties it in DEFERRED opens the valve (R156, R159; before the queue is
examined, log 36). It is said of a request that its port takes (R172; that a RECEIVING port takes it too is the model's
choice, log 3). -/
def Obligations.FinishEndsOrClosesWithTail : Prop :=
  ∀ (s : State) (i : Spout) (l : Load), s.power = .running → loadOf s i = some l →
    takes (.bay i) (.finish (.bay i) 1) s →
    let u := bayTaken i s
    let c := Instr.finish (.bay i) 1
    let tail : Tail := { kind := .finished, timer := 0, lowCount := 0, spoiled := false }
    (l.state = .discharging → (gateOf s i).mode.discharging = true ∨
        (gateOf s i).mode = .closing ∧ (gateOf s i).pendingGrant.isSome →
      ∃ t, exec c s = .next t ∧
        RunsOn [] (onBay i c 0x94 .ok [] { orderClosed i u with
          gate := s.gate.set i { closedGate (gateOf s i) with tail := some tail }
          lm := { u.lm with slot := s.lm.slot.set i (some { l with state := .tailing, finished := true }) } }) t ∧
        (GrantsAgree s → noClaim i t) ∧ LeavesDribble i s t) ∧
    (l.state = .armed ∨ l.state = .waiting ∨ l.state = .held → ∃ t, exec c s = .next t ∧
      RunsOn [] (onBay i c 0x94 .ok [] (endedBase i l .finished u)) t ∧ (GrantsAgree s → noClaim i t))

/-- CLEAR_FAULT: refused unless the feedback is FRESH at 20 per-mille or below; accepted, it clears the latch, lifts
the drift suspension and takes a gate in FAULT to CLOSED, and touches no load (R50, R106, R137). It is said of a
request that its port takes (R172; that a RECEIVING port takes it too is the model's choice, log 3). -/
def Obligations.ClearFaultChecksTheFeedback : Prop :=
  ∀ (s : State) (i : Spout), s.power = .running → takes (.bay i) (.clearFault (.bay i) 1) s →
    let c := Instr.clearFault (.bay i) 1
    let u := bayTaken i s
    let shut := (s.sli.feedback.get i).state = .fresh ∧ (s.sli.feedback.get i).lastGood ≤ 20
    (¬ shut → exec c s = .next (onBay i c 0x96 .conditionPresent [] u)) ∧
    (shut → exec c s = .next (onBay i c 0x96 .ok [] { u with
      lm := { u.lm with latch := s.lm.latch.set i { fault := none, count := 0 } }
      ssu := s.ssu.set i { sensorOf s i with driftSuspended := false }
      gate := s.gate.set i { gateOf s i with
        mode := if (gateOf s i).mode = .fault then .closed else (gateOf s i).mode } }))

/-! ### Status and reading -/

/-- SPOUT_STATUS, BIN_STATUS and PART_STATUS answer OK in every state with the fields of their layouts, item by item
and of the stated lengths, and READ_PARAMETER the id and the working value of a parameter of the table (OUT OF RANGE
for any other id); none of them changes any other state (R87, R138, R176, R177, R181, and the layouts of chapter 10).
Two items are the model's choice: D_cut is a signed value of which SPOUT STATUS sends the low four bytes, log 23, where
the layout gives it four bytes and R68 lets it be negative; and a reply reads one state between whole events, log 31.
It is said of a request that its port takes (R172; that a RECEIVING port takes it too is the model's choice, log 3). -/
def Obligations.StatusRepliesChangeNothing : Prop :=
  ∀ s : State, s.power = .running →
    (∀ i, (takes (.bay i) (.spoutStatus (.bay i) 1) s → exec (.spoutStatus (.bay i) 1) s =
        .next (onBay i (.spoutStatus (.bay i) 1) 0x95 .ok (spoutStatusFields (bayTaken i s) i) (bayTaken i s))) ∧
      ((∀ l, loadOf s i = some l → l.order.length = 8) → (spoutStatusFields s i).length = 76) ∧
      (loadOf s i = none → (spoutStatusFields s i).take 51 = List.replicate 51 0)) ∧
    (takes .dispatch (.binStatus .dispatch 1) s →
      exec (.binStatus .dispatch 1) s = .next (onDispatch (.binStatus .dispatch 1) 0xA6 .ok (binStatusFields s) s)) ∧
    (binStatusFields s).length = 19 ∧
    (takes .dispatch (.partStatus .dispatch 1) s →
      exec (.partStatus .dispatch 1) s = .next (onDispatch (.partStatus .dispatch 1) 0xAF .ok (partStatusFields s) s)) ∧
    (partStatusFields s).length = 15 ∧
    (∀ i,
      let g := gateOf s i
      let x := sensorOf s i
      let k := s.lm.latch.get i
      spoutStatusFields s i =
        (match loadOf s i with
          | some l =>
            [1] ++ beBytes 2 l.number ++ l.order ++ beBytes 4 l.target ++ beBytes 4 l.rate ++ beBytes 1 l.state.code ++
            beBytes 4 l.d ++ beBytes 4 l.gravimetric ++ beSigned 5 (provisional s i l) ++
            beBytes 2 (if l.d = 0 then 0 else l.gravimetric * 1000 / l.d) ++
            flags [l.causes.bay, l.causes.interlock, l.causes.link, l.causes.aeration, l.causes.starve,
              l.causes.sensor, l.causes.sense] ++
            beBytes 4 l.holdMs ++ beBytes 1 l.trips ++
            flags [l.drift, l.finished, l.cutoff.isSome, (l.cutoff.map CutoffRecord.substituted).getD false] ++
            beSigned 4 ((l.cutoff.map CutoffRecord.dCut).getD 0) ++
            beBytes 4 ((l.cutoff.map CutoffRecord.qCut).getD 0) ++ beBytes 1 (faultCode l.firstFault)
          | none => List.replicate 51 0) ++
        beBytes 1 g.mode.code ++ beBytes 2 g.command ++ beBytes 4 x.lastQ ++
        flags [x.substitution, decide ((s.sli.impact.get i).state ≠ .fresh), x.driftSuspended, x.leakAlarm] ++
        beBytes 1 (s.sli.impact.get i).state.code ++ beBytes 1 (s.sli.feedback.get i).state.code ++
        beSigned 2 (s.sli.feedback.get i).lastGood ++
        beBytes 1 (faultCode (k.fault.map LatchedFault.kind)) ++
        beBytes 2 ((k.fault.bind LatchedFault.load).getD 0) ++ beBytes 4 ((k.fault.map LatchedFault.d).getD 0) ++
        beBytes 1 k.count ++ beBytes 4 ((s.dba.allocation.get i).map Allocation.rate |>.getD 0) ++
        beBytes 1 (if i ∈ s.dba.queue.map QueuePlace.spout
          then ((s.dba.queue.map QueuePlace.spout).takeWhile fun j => decide (j ≠ i)).length + 1 else 0)) ∧
    binStatusFields s =
      beBytes 1 s.bmu.mode.code ++ beSigned 4 (max (-2147483648) ((newestLevel s).getD 0)) ++ beBytes 4 s.bmu.f ++
      beBytes 1 s.bmu.cleanRun ++ beBytes 1 s.bmu.zero.state.code ++ beBytes 1 s.bsc.state.code ++
      flags [s.bsc.starved, !s.bsc.aerationHigh, (newestLevel s).isSome] ++ beBytes 5 s.oau.unassigned ++
      flags [(sensorOf s .A).leakAlarm, (sensorOf s .B).leakAlarm, (sensorOf s .C).leakAlarm] ∧
    partStatusFields s =
      beBytes 1 s.pm.restartCause.code ++ beBytes 1 s.pm.status.code ++
      flags [s.pm.defaulted, s.pm.custodyLock, decide (s.sli.lock = .locked)] ++
      beBytes 2 s.sli.frameErrors ++ beBytes 2 s.sli.missedFrames ++ beBytes 2 (portOf s (.bay .A)).errors ++
      beBytes 2 (portOf s (.bay .B)).errors ++ beBytes 2 (portOf s (.bay .C)).errors ++
      beBytes 2 (portOf s .dispatch).errors ∧
    ∀ id : Byte,
      let c := Instr.readParameter .dispatch 2 id
      takes .dispatch c s →
      (∀ p, (id.toNat, p) ∈ paramTable → ∃ v : BitVec 32,
        (paramsSound s.pm.working = true → v.toInt = paramGet s.pm.working p) ∧
        exec c s = .next (onDispatch c 0xA8 .ok (id :: field32 v) s)) ∧
      ((∀ p, (id.toNat, p) ∉ paramTable) → exec c s = .next (onDispatch c 0xA8 .outOfRange [] s))

/-! ### Orders, tickets and the other dispatch requests -/

/-- POST_ORDER, CANCEL_ORDER, REMOVE_ORDER and ORDER_STATUS: the checks in their order, and the record made, cancelled,
deleted or answered (R141, R143, R144, R145). It is said of a request that its port takes (R172; that a RECEIVING port
takes it too is the model's choice, log 3). -/
def Obligations.OrderRequestsChangeTheTable : Prop :=
  ∀ (s : State) (ref : Ref) (mass tol : BitVec 32) (bays : Byte), s.power = .running → printable ref = true →
    massField mass = true → 1 ≤ bays.toNat → bays.toNat ≤ 7 → tol.toNat ≤ 500000 →
    let p := Instr.postOrder .dispatch 18 ref mass bays tol
    let c := Instr.cancelOrder .dispatch 9 ref
    let r := Instr.removeOrder .dispatch 9 ref
    let q := Instr.orderStatus .dispatch 9 ref
    let table := fun orders => { s with ots := { s.ots with orders := orders } }
    let known := ∃ o, findOrder s ref = some o
    let made : Order :=
      { ref := ref, ordered := mass.toNat, bays := ⟨bays.getLsbD 0, bays.getLsbD 1, bays.getLsbD 2⟩
        tolerance := tol.toNat, loaded := 0, reserved := 0, state := .opened }
    let taken := fun c => takes .dispatch c s
    (mass.toNat ≤ tol.toNat → taken p → exec p s = .next (onDispatch p 0xA0 .outOfRange [] s)) ∧
    (tol.toNat < mass.toNat → known → taken p → exec p s = .next (onDispatch p 0xA0 .duplicate [] s)) ∧
    (tol.toNat < mass.toNat → ¬ known → 24 ≤ s.ots.orders.length → taken p →
      exec p s = .next (onDispatch p 0xA0 .tableFull [] s)) ∧
    (tol.toNat < mass.toNat → ¬ known → s.ots.orders.length < 24 → taken p →
      exec p s = .next (onDispatch p 0xA0 .ok [] (table (s.ots.orders ++ [made])))) ∧
    (¬ known → (taken c → exec c s = .next (onDispatch c 0xA1 .noOrder [] s)) ∧
      (taken r → exec r s = .next (onDispatch r 0xA2 .noOrder [] s)) ∧
      (taken q → exec q s = .next (onDispatch q 0xA3 .noOrder [] s))) ∧
    (∀ o, findOrder s ref = some o →
      (taken c → exec c s = .next (onDispatch c 0xA1 .ok []
        (table (s.ots.orders.map fun x => if x.ref = ref then { x with state := .cancelled } else x)))) ∧
      (0 < o.reserved → taken r → exec r s = .next (onDispatch r 0xA2 .loadsOpen [] s)) ∧
      (o.reserved = 0 → taken r → exec r s = .next (onDispatch r 0xA2 .ok []
        (table (s.ots.orders.filter fun x => decide (x.ref ≠ ref))))) ∧
      (taken q → exec q s = .next (onDispatch q 0xA3 .ok
        (ref ++ beBytes 4 o.ordered ++ beBytes 1 (spoutBits o.bays) ++ beBytes 4 o.tolerance ++ beBytes 5 o.loaded ++
          beBytes 4 o.reserved ++ beSigned 5 ((o.ordered : Int) - o.loaded - o.reserved) ++ beBytes 1 o.state.code)
        s)))

/-- READ_TICKET answers the ticket at the head of the queue and changes nothing; TAKE_TICKET removes the ticket at the
head when its number matches, and nothing else ever; a number of 0 is OUT OF RANGE (R152, R153). It is said of a
request that its port takes (R172; that a RECEIVING port takes it too is the model's choice, log 3). -/
def Obligations.TicketRequestsActOnTheHead : Prop :=
  ∀ s : State, s.power = .running →
    let r := Instr.readTicket .dispatch 1
    (s.ots.tickets = [] → takes .dispatch r s → exec r s = .next (onDispatch r 0xA4 .none [] s)) ∧
    (∀ t rest, s.ots.tickets = t :: rest → takes .dispatch r s → exec r s = .next (onDispatch r 0xA4 .ok
      (beBytes 2 t.number ++ t.ref ++ beBytes 1 (spoutCode t.spout) ++ beBytes 2 t.load ++ beBytes 4 t.target ++
        beBytes 4 t.d ++ beBytes 2 t.share ++ beBytes 1 t.outcome.code ++ beBytes 1 t.endCause.code ++
        beBytes 4 t.holdS ++ beBytes 1 t.trips ++ [if t.drift then 1 else 0] ++
        beBytes 1 (faultCode t.firstFault)) s)) ∧
    (takes .dispatch (.takeTicket .dispatch 3 0) s →
      exec (.takeTicket .dispatch 3 0) s = .next (onDispatch (.takeTicket .dispatch 3 0) 0xA5 .outOfRange [] s)) ∧
    ∀ number : BitVec 16, 1 ≤ number.toNat →
      let c := Instr.takeTicket .dispatch 3 number
      takes .dispatch c s →
      (s.ots.tickets = [] → exec c s = .next (onDispatch c 0xA5 .none [] s)) ∧
      (∀ t rest, s.ots.tickets = t :: rest →
        (t.number ≠ number.toNat → exec c s = .next (onDispatch c 0xA5 .notOldest [] s)) ∧
        (t.number = number.toNat → exec c s = .next (onDispatch c 0xA5 .ok
          [number.extractLsb' 8 8, number.extractLsb' 0 8] { s with ots := { s.ots with tickets := rest } })))

/-- SET_PARAMETER: the five checks in their order; an accepted change replaces the working value, and the parameters
that a block uses at its next use change nothing else (R182, R114, R139, R155, R166). It is said of a request that its
port takes (R172; that a RECEIVING port takes it too is the model's choice, log 3). -/
def Obligations.SetParameterChecksInOrder : Prop :=
  ∀ (s : State) (id : Byte) (value : BitVec 32), s.power = .running →
    takes .dispatch (.setParameter .dispatch 6 id value) s →
    let c := Instr.setParameter .dispatch 6 id value
    let refused := fun r => exec c s = .next (onDispatch c 0xA7 r [] s)
    ((∀ p, (id.toNat, p) ∉ paramTable) → refused .outOfRange) ∧
    (∀ p, (id.toNat, p) ∈ paramTable →
      let after := paramSet s.pm.working p value.toInt
      let level := p = .lEmpty ∨ p = .lLow ∨ p = .lHigh ∨ p = .binCapacityG
      let disordered := ¬ (after.lEmpty < after.lLow ∧ after.lLow < after.lHigh ∧ after.lHigh ≤ after.binCapacityG)
      let guarded := p = .framePeriodUs ∨ p = .syncRole ∨ p = .binZero ∨ p = .binSpan ∨ p = .rateSpan
      let occupied := ∃ i, (loadOf s i).isSome
      let zeroing := s.bmu.zero.state = .running
      let busy := (p = .framePeriodUs ∨ p = .syncRole ∨ p = .rateSpan) ∧ occupied ∨
        (p = .binZero ∨ p = .binSpan ∨ p = .rateSpan) ∧ zeroing ∨
        (∃ i, (p = .spoutZero i ∨ p = .spoutGain i ∨ p = .tailMs i) ∧ (loadOf s i).isSome) ∨
        p = .budget ∧ ∃ i, (s.dba.allocation.get i).isSome
      let effective := guarded ∨ (∃ i, p = .spoutZero i ∨ p = .spoutGain i) ∨ p = .sensorPolicy ∨ p = .budget
      (paramInRange p value.toInt = false → refused .outOfRange) ∧
      (paramInRange p value.toInt = true → level → disordered → refused .outOfRange) ∧
      (paramInRange p value.toInt = true → ¬ (level ∧ disordered) → guarded → s.pm.custodyLock = true →
        refused .locked) ∧
      (paramInRange p value.toInt = true → ¬ (level ∧ disordered) → ¬ (guarded ∧ s.pm.custodyLock = true) → busy →
        refused .busy) ∧
      (paramInRange p value.toInt = true → ¬ (level ∧ disordered) → ¬ (guarded ∧ s.pm.custodyLock = true) →
        ¬ busy → paramGet after p = value.toInt ∧
          (¬ effective → exec c s = .next (onDispatch c 0xA7 .ok [] { s with pm := { s.pm with working := after } }))))

/-- SET_PARAMETER on the parameters whose owner acts on an accepted change, in every state that the table's BUSY column
and the custody lock let by: a new bin scale or span empties the history, loads open or not, a new spout scale clears
its spout's solo counter, a new SENSOR_POLICY has the demands judged afresh and holds or frees loads by them, a new
BUDGET recomputes the effective budget and grants the head of the queue where it then fits, and a new role or period
restarts the link and aborts a running zero (R2, R7, R27, R37, R38, R45, R46, R53, R78, R85, R86). It is said of a
request that its port takes (R172; that a RECEIVING port takes it too is the model's choice, log 3). -/
def Obligations.SetParameterReachesItsOwner : Prop :=
  ∀ (s : State) (id : Byte) (value : BitVec 32) (p : ParamId), s.power = .running → (id.toNat, p) ∈ paramTable →
    takes .dispatch (.setParameter .dispatch 6 id value) s →
    let c := Instr.setParameter .dispatch 6 id value
    let after := paramSet s.pm.working p value.toInt
    let changed := onDispatch c 0xA7 .ok [] { s with pm := { s.pm with working := after } }
    let noLoad := ∀ i, loadOf s i = none
    let noZero := s.bmu.zero.state ≠ .running
    let unlocked := s.pm.custodyLock = false
    let weighs := s.bmu.mode = .gravimetric ∨ s.bmu.mode = .settling
    let mode := if weighs then .unready else s.bmu.mode
    let emptied := { changed with
      bmu := { s.bmu with
        position := 0, massSum := 0, goodCount := 0, rawSum := 0, refillMark := false, disturbedMark := false
        zero := { s.bmu.zero with skipWindow := false }
        ring := [], cleanRun := 0, previous := none, mode := mode }
      oau := { s.oau with
        modeRecord := if weighs then .unready else s.oau.modeRecord
        carry := if weighs ∧ s.oau.modeRecord = .gravimetric then 0 else s.oau.carry } }
    paramInRange p value.toInt = true →
    (∀ i, p = .spoutZero i ∨ p = .spoutGain i → loadOf s i = none →
      exec c s = .next { changed with ssu := s.ssu.set i { sensorOf s i with solo := 0 } }) ∧
    (p = .sensorPolicy → ∃ t, exec c s = .next t ∧ RunsOn [] changed t ∧
      ∀ i, let fresh := (s.sli.impact.get i).state = .fresh
        (fresh → (sensorOf t i).demand = false) ∧
        (¬ fresh → after.sensorPolicy = .hold ∨ (∀ l, loadOf s i = some l → l.state = .armed ∨ l.state = .held) →
          (sensorOf t i).demand = true) ∧
        (¬ fresh → after.sensorPolicy = .hold → (sensorOf s i).demand = false →
          ∀ l, loadOf s i = some l → recordsHolds l.state →
            ∃ x, loadOf t i = some x ∧ x.state = .held ∧ x.causes.sensor = true) ∧
        (fresh → (sensorOf s i).demand = true →
          ∀ l, loadOf s i = some l → l.state = .held → ∃ x, loadOf t i = some x ∧ x.causes.sensor = false)) ∧
    (p = .budget → (∀ i, s.dba.allocation.get i = none) → ∃ t, exec c s = .next t ∧
      RunsOn [] { changed with dba := { s.dba with
        effectiveBudget := if s.dba.aerationLow = true ∨ s.dba.starved = true then 0 else value.toNat } } t ∧
      (QueueInv s → ∀ q rest, s.dba.queue = q :: rest → s.dba.aerationLow = false → s.dba.starved = false →
        (s.sli.impact.get q.spout).state = .fresh → 0 < min q.rate value.toNat →
          t.dba.allocation.get q.spout = some { load := q.load, rate := min q.rate value.toNat } ∧
          ∃ x, loadOf t q.spout = some x ∧ x.state = .discharging)) ∧
    (p = .binZero ∨ p = .binSpan → noZero → unlocked → ∃ t, exec c s = .next t ∧ RunsOn [] emptied t) ∧
    (p = .rateSpan → noZero → unlocked → noLoad → ∃ t, exec c s = .next t ∧ RunsOn [] emptied t) ∧
    (p = .framePeriodUs ∨ p = .syncRole → noLoad → unlocked → ∃ t, exec c s = .next t ∧
      t.pm = changed.pm ∧ t.pc = changed.pc ∧ t.sli.lock = .seeking ∧ t.sli.lastSeq = none ∧
      t.sli.lockTimer = none ∧ (∀ ch, channelOf t ch = { state := .awaiting, lastGood := 0, timer := none }) ∧
      t.sli.frameErrors = s.sli.frameErrors ∧ t.sli.missedFrames = s.sli.missedFrames ∧
      t.sli.frameInProgress = false ∧ t.sli.syncClockUs = 0 ∧ t.bmu.mode = .blind ∧ t.lm.seeking = true ∧
      t.ots = s.ots ∧
      (s.bmu.mode ≠ .blind → t.bmu.ring = [] ∧ (s.bmu.zero.state = .running → t.bmu.zero.state = .aborted)))

/-- A save from end to end. SAVE_PARAMETERS is refused BUSY in WRITING; otherwise the working values become the
snapshot, the status WRITING, the save timer starts and the image is not sound until the write has completed.
SAVE_WRITE_COMPLETION, and SAVE_TIMER_EXPIRY with the timer at 5,000 ms, end a save that is WRITING, DONE only when
what is read back is the snapshot with its CRC-32, and change nothing otherwise (R184, R185; that the store's contents
are operands is log 11, that an expiry below its limit does nothing log 2). That the snapshot's values with a wrong
CRC-32 end it FAILED is the model's choice, log 37. It is said of a request that its port takes (R172; that a RECEIVING
port takes it too is the model's choice, log 3). -/
def Obligations.SaveRunsToItsFirstEnd : Prop :=
  ∀ s : State, s.power = .running →
    let c := Instr.saveParameters .dispatch 1
    (s.pm.status = .writing → takes .dispatch c s → exec c s = .next (onDispatch c 0xA9 .busy [] s)) ∧
    (s.pm.status ≠ .writing → takes .dispatch c s → ∃ t, exec c s = .next t ∧
      t = onDispatch c 0xA9 .ok [] { s with pm := { s.pm with
        snapshot := some s.pm.working, status := .writing, saveTimer := some 0, image := t.pm.image } } ∧
      soundValues t.pm.image = none) ∧
    ∀ x : StoredImage,
      let ended := fun (status : StoreStatus) =>
        { s.pm with status := status, image := x, saveTimer := none, snapshot := none }
      (∀ w, s.pm.status = .writing → s.pm.snapshot = some w →
        (x = .written w (imageCrc w) → exec (.saveWriteCompletion x) s =
          .next { s with pm := { ended .done with defaulted := false } }) ∧
        (x ≠ .written w (imageCrc w) → exec (.saveWriteCompletion x) s = .next { s with pm := ended .failed })) ∧
      (∀ n, s.pm.status = .writing → s.pm.saveTimer = some n → 5000 ≤ n →
        exec (.saveTimerExpiry x) s = .next { s with pm := ended .timedOut }) ∧
      ((∀ n, s.pm.saveTimer = some n → n < 5000) → exec (.saveTimerExpiry x) s = .next s) ∧
      (s.pm.status ≠ .writing → exec (.saveWriteCompletion x) s = .next s ∧ exec (.saveTimerExpiry x) s = .next s)

/-- ZERO_BIN: LOCKED, NOT READY and BUSY in their order; accepted, the operation is RUNNING from nothing and the refill
control SUSPENDED from IDLE. SET_CUSTODY_LOCK sets the cell and aborts a RUNNING zero, whose end frees a SUSPENDED
refill control outside BLIND; on a set cell it changes nothing. RESTART is answered OK in every state and changes
nothing until its reply has been sent (R35, R36, R37, R162, R179, R186, R188). It is said of a request that its port
takes (R172; that a RECEIVING port takes it too is the model's choice, log 3). -/
def Obligations.ZeroLockAndRestartRequests : Prop :=
  ∀ s : State, s.power = .running →
    let z := Instr.zeroBin .dispatch 1
    let c := Instr.setCustodyLock .dispatch 1
    let r := Instr.restart .dispatch 1
    let busy := s.bmu.zero.state = .running ∨ (∃ i, (loadOf s i).isSome) ∨ s.sli.refillCommand = true
    let taken := fun c => takes .dispatch c s
    let locked := { s with pm := { s.pm with custodyLock := true } }
    (s.pm.custodyLock = true → taken z → exec z s = .next (onDispatch z 0xAA .locked [] s)) ∧
    (s.pm.custodyLock = false → s.bmu.mode = .blind → taken z → exec z s = .next (onDispatch z 0xAA .notReady [] s)) ∧
    (s.pm.custodyLock = false → s.bmu.mode ≠ .blind → busy → taken z →
      exec z s = .next (onDispatch z 0xAA .busy [] s)) ∧
    (s.pm.custodyLock = false → s.bmu.mode ≠ .blind → ¬ busy → taken z → exec z s = .next (onDispatch z 0xAA .ok [] { s with
      bmu := { s.bmu with zero :=
        { state := .running, windowCount := 0, rawSum := 0, sampleCount := 0,
          skipWindow := decide (s.bmu.position ≠ 0) } }
      bsc := { s.bsc with
        zeroRecord := true, state := if s.bsc.state = .idle then .suspended else s.bsc.state } })) ∧
    (s.pm.custodyLock = true → taken c → exec c s = .next (onDispatch c 0xAB .ok [] s)) ∧
    (s.pm.custodyLock = false → s.bmu.zero.state ≠ .running → taken c →
      exec c s = .next (onDispatch c 0xAB .ok [] locked)) ∧
    (s.pm.custodyLock = false → s.bmu.zero.state = .running → taken c →
      exec c s = .next (onDispatch c 0xAB .ok [] { locked with
      bmu := { s.bmu with zero :=
        { state := .aborted, windowCount := 0, rawSum := 0, sampleCount := 0, skipWindow := false } }
      bsc := { s.bsc with
        zeroRecord := false,
        state := if s.bsc.state = .suspended ∧ s.bsc.blindRecord = false then .idle else s.bsc.state } })) ∧
    (taken r → exec r s = .next (onDispatch r 0xAE .ok [] s))

/-- CLEAR_UNASSIGNED sets the account to 0 in every mode and under every lock, and changes nothing else.
CLEAR_SUPPLY_FAULT clears a set latch, and the refill state leaves SUPPLY FAULT for SUSPENDED or IDLE; with the latch
clear it changes nothing (R72, R163). It is said of a request that its port takes (R172; that a RECEIVING port takes it
too is the model's choice, log 3). -/
def Obligations.ClearRequestsClear : Prop :=
  ∀ s : State, s.power = .running →
    (takes .dispatch (.clearUnassigned .dispatch 1) s →
      exec (.clearUnassigned .dispatch 1) s = .next (onDispatch (.clearUnassigned .dispatch 1) 0xAC .ok []
        { s with oau := { s.oau with unassigned := 0 } })) ∧
    let c := Instr.clearSupplyFault .dispatch 1
    takes .dispatch c s →
    (s.bsc.supplyFault = false → exec c s = .next (onDispatch c 0xAD .ok [] s)) ∧
    (s.bsc.supplyFault = true → exec c s = .next (onDispatch c 0xAD .ok [] { s with bsc := { s.bsc with
      supplyFault := false
      state := if s.bsc.blindRecord = true ∨ s.bsc.zeroRecord = true then .suspended else .idle } }))
end

