-- ==== Sys2Proof/Laws/State.lean ====
section
/-! SUPPORT. One lemma per field per block update of State, the reading and writing of one spout's value, and what the
named accessors read after the named writes, and when a timer stands at its limit. -/

namespace Sys2Proof

/-! ### One value for each spout -/

@[simp] theorem PerSpout.get_set_same {α : Type} (x : PerSpout α) (i : Spout) (v : α) : (x.set i v).get i = v := by
  cases i <;> rfl

theorem PerSpout.get_set_other {α : Type} (x : PerSpout α) {i j : Spout} (v : α) (h : j ≠ i) :
    (x.set i v).get j = x.get j := by
  cases i <;> cases j <;> first | rfl | exact absurd rfl h

theorem PerSpout.get_set {α : Type} (x : PerSpout α) (i j : Spout) (v : α) :
    (x.set i v).get j = if j = i then v else x.get j := by
  cases i <;> cases j <;> rfl

@[simp] theorem PerSpout.get_of {α : Type} (f : Spout → α) (i : Spout) : (PerSpout.of f).get i = f i := by
  cases i <;> rfl

@[simp] theorem PerSpout.get_all {α : Type} (v : α) (i : Spout) : (PerSpout.all v).get i = v := by
  cases i <;> rfl

theorem PerSpout.ext_get {α : Type} {x y : PerSpout α} (h : ∀ i, x.get i = y.get i) : x = y := by
  cases x; cases y
  have ha := h .A; have hb := h .B; have hc := h .C
  simp only [PerSpout.get] at ha hb hc
  simp [ha, hb, hc]

@[simp] theorem PerSpout.set_get {α : Type} (x : PerSpout α) (i : Spout) : x.set i (x.get i) = x := by
  cases i <;> rfl

namespace Machine

/-! ### One block replaced -/

@[simp] theorem State.withPower_power (s : State) (x) : (s.withPower x).power = x := rfl
@[simp] theorem State.withPower_sli (s : State) (x) : (s.withPower x).sli = s.sli := rfl
@[simp] theorem State.withPower_bmu (s : State) (x) : (s.withPower x).bmu = s.bmu := rfl
@[simp] theorem State.withPower_ssu (s : State) (x) : (s.withPower x).ssu = s.ssu := rfl
@[simp] theorem State.withPower_oau (s : State) (x) : (s.withPower x).oau = s.oau := rfl
@[simp] theorem State.withPower_dba (s : State) (x) : (s.withPower x).dba = s.dba := rfl
@[simp] theorem State.withPower_gate (s : State) (x) : (s.withPower x).gate = s.gate := rfl
@[simp] theorem State.withPower_lm (s : State) (x) : (s.withPower x).lm = s.lm := rfl
@[simp] theorem State.withPower_ots (s : State) (x) : (s.withPower x).ots = s.ots := rfl
@[simp] theorem State.withPower_bsc (s : State) (x) : (s.withPower x).bsc = s.bsc := rfl
@[simp] theorem State.withPower_pc (s : State) (x) : (s.withPower x).pc = s.pc := rfl
@[simp] theorem State.withPower_pm (s : State) (x) : (s.withPower x).pm = s.pm := rfl
@[simp] theorem State.withPower_pending (s : State) (x) : (s.withPower x).pending = s.pending := rfl
@[simp] theorem State.withSli_power (s : State) (x) : (s.withSli x).power = s.power := rfl
@[simp] theorem State.withSli_sli (s : State) (x) : (s.withSli x).sli = x := rfl
@[simp] theorem State.withSli_bmu (s : State) (x) : (s.withSli x).bmu = s.bmu := rfl
@[simp] theorem State.withSli_ssu (s : State) (x) : (s.withSli x).ssu = s.ssu := rfl
@[simp] theorem State.withSli_oau (s : State) (x) : (s.withSli x).oau = s.oau := rfl
@[simp] theorem State.withSli_dba (s : State) (x) : (s.withSli x).dba = s.dba := rfl
@[simp] theorem State.withSli_gate (s : State) (x) : (s.withSli x).gate = s.gate := rfl
@[simp] theorem State.withSli_lm (s : State) (x) : (s.withSli x).lm = s.lm := rfl
@[simp] theorem State.withSli_ots (s : State) (x) : (s.withSli x).ots = s.ots := rfl
@[simp] theorem State.withSli_bsc (s : State) (x) : (s.withSli x).bsc = s.bsc := rfl
@[simp] theorem State.withSli_pc (s : State) (x) : (s.withSli x).pc = s.pc := rfl
@[simp] theorem State.withSli_pm (s : State) (x) : (s.withSli x).pm = s.pm := rfl
@[simp] theorem State.withSli_pending (s : State) (x) : (s.withSli x).pending = s.pending := rfl
@[simp] theorem State.withBmu_power (s : State) (x) : (s.withBmu x).power = s.power := rfl
@[simp] theorem State.withBmu_sli (s : State) (x) : (s.withBmu x).sli = s.sli := rfl
@[simp] theorem State.withBmu_bmu (s : State) (x) : (s.withBmu x).bmu = x := rfl
@[simp] theorem State.withBmu_ssu (s : State) (x) : (s.withBmu x).ssu = s.ssu := rfl
@[simp] theorem State.withBmu_oau (s : State) (x) : (s.withBmu x).oau = s.oau := rfl
@[simp] theorem State.withBmu_dba (s : State) (x) : (s.withBmu x).dba = s.dba := rfl
@[simp] theorem State.withBmu_gate (s : State) (x) : (s.withBmu x).gate = s.gate := rfl
@[simp] theorem State.withBmu_lm (s : State) (x) : (s.withBmu x).lm = s.lm := rfl
@[simp] theorem State.withBmu_ots (s : State) (x) : (s.withBmu x).ots = s.ots := rfl
@[simp] theorem State.withBmu_bsc (s : State) (x) : (s.withBmu x).bsc = s.bsc := rfl
@[simp] theorem State.withBmu_pc (s : State) (x) : (s.withBmu x).pc = s.pc := rfl
@[simp] theorem State.withBmu_pm (s : State) (x) : (s.withBmu x).pm = s.pm := rfl
@[simp] theorem State.withBmu_pending (s : State) (x) : (s.withBmu x).pending = s.pending := rfl
@[simp] theorem State.withSsu_power (s : State) (x) : (s.withSsu x).power = s.power := rfl
@[simp] theorem State.withSsu_sli (s : State) (x) : (s.withSsu x).sli = s.sli := rfl
@[simp] theorem State.withSsu_bmu (s : State) (x) : (s.withSsu x).bmu = s.bmu := rfl
@[simp] theorem State.withSsu_ssu (s : State) (x) : (s.withSsu x).ssu = x := rfl
@[simp] theorem State.withSsu_oau (s : State) (x) : (s.withSsu x).oau = s.oau := rfl
@[simp] theorem State.withSsu_dba (s : State) (x) : (s.withSsu x).dba = s.dba := rfl
@[simp] theorem State.withSsu_gate (s : State) (x) : (s.withSsu x).gate = s.gate := rfl
@[simp] theorem State.withSsu_lm (s : State) (x) : (s.withSsu x).lm = s.lm := rfl
@[simp] theorem State.withSsu_ots (s : State) (x) : (s.withSsu x).ots = s.ots := rfl
@[simp] theorem State.withSsu_bsc (s : State) (x) : (s.withSsu x).bsc = s.bsc := rfl
@[simp] theorem State.withSsu_pc (s : State) (x) : (s.withSsu x).pc = s.pc := rfl
@[simp] theorem State.withSsu_pm (s : State) (x) : (s.withSsu x).pm = s.pm := rfl
@[simp] theorem State.withSsu_pending (s : State) (x) : (s.withSsu x).pending = s.pending := rfl
@[simp] theorem State.withOau_power (s : State) (x) : (s.withOau x).power = s.power := rfl
@[simp] theorem State.withOau_sli (s : State) (x) : (s.withOau x).sli = s.sli := rfl
@[simp] theorem State.withOau_bmu (s : State) (x) : (s.withOau x).bmu = s.bmu := rfl
@[simp] theorem State.withOau_ssu (s : State) (x) : (s.withOau x).ssu = s.ssu := rfl
@[simp] theorem State.withOau_oau (s : State) (x) : (s.withOau x).oau = x := rfl
@[simp] theorem State.withOau_dba (s : State) (x) : (s.withOau x).dba = s.dba := rfl
@[simp] theorem State.withOau_gate (s : State) (x) : (s.withOau x).gate = s.gate := rfl
@[simp] theorem State.withOau_lm (s : State) (x) : (s.withOau x).lm = s.lm := rfl
@[simp] theorem State.withOau_ots (s : State) (x) : (s.withOau x).ots = s.ots := rfl
@[simp] theorem State.withOau_bsc (s : State) (x) : (s.withOau x).bsc = s.bsc := rfl
@[simp] theorem State.withOau_pc (s : State) (x) : (s.withOau x).pc = s.pc := rfl
@[simp] theorem State.withOau_pm (s : State) (x) : (s.withOau x).pm = s.pm := rfl
@[simp] theorem State.withOau_pending (s : State) (x) : (s.withOau x).pending = s.pending := rfl
@[simp] theorem State.withDba_power (s : State) (x) : (s.withDba x).power = s.power := rfl
@[simp] theorem State.withDba_sli (s : State) (x) : (s.withDba x).sli = s.sli := rfl
@[simp] theorem State.withDba_bmu (s : State) (x) : (s.withDba x).bmu = s.bmu := rfl
@[simp] theorem State.withDba_ssu (s : State) (x) : (s.withDba x).ssu = s.ssu := rfl
@[simp] theorem State.withDba_oau (s : State) (x) : (s.withDba x).oau = s.oau := rfl
@[simp] theorem State.withDba_dba (s : State) (x) : (s.withDba x).dba = x := rfl
@[simp] theorem State.withDba_gate (s : State) (x) : (s.withDba x).gate = s.gate := rfl
@[simp] theorem State.withDba_lm (s : State) (x) : (s.withDba x).lm = s.lm := rfl
@[simp] theorem State.withDba_ots (s : State) (x) : (s.withDba x).ots = s.ots := rfl
@[simp] theorem State.withDba_bsc (s : State) (x) : (s.withDba x).bsc = s.bsc := rfl
@[simp] theorem State.withDba_pc (s : State) (x) : (s.withDba x).pc = s.pc := rfl
@[simp] theorem State.withDba_pm (s : State) (x) : (s.withDba x).pm = s.pm := rfl
@[simp] theorem State.withDba_pending (s : State) (x) : (s.withDba x).pending = s.pending := rfl
@[simp] theorem State.withGate_power (s : State) (x) : (s.withGate x).power = s.power := rfl
@[simp] theorem State.withGate_sli (s : State) (x) : (s.withGate x).sli = s.sli := rfl
@[simp] theorem State.withGate_bmu (s : State) (x) : (s.withGate x).bmu = s.bmu := rfl
@[simp] theorem State.withGate_ssu (s : State) (x) : (s.withGate x).ssu = s.ssu := rfl
@[simp] theorem State.withGate_oau (s : State) (x) : (s.withGate x).oau = s.oau := rfl
@[simp] theorem State.withGate_dba (s : State) (x) : (s.withGate x).dba = s.dba := rfl
@[simp] theorem State.withGate_gate (s : State) (x) : (s.withGate x).gate = x := rfl
@[simp] theorem State.withGate_lm (s : State) (x) : (s.withGate x).lm = s.lm := rfl
@[simp] theorem State.withGate_ots (s : State) (x) : (s.withGate x).ots = s.ots := rfl
@[simp] theorem State.withGate_bsc (s : State) (x) : (s.withGate x).bsc = s.bsc := rfl
@[simp] theorem State.withGate_pc (s : State) (x) : (s.withGate x).pc = s.pc := rfl
@[simp] theorem State.withGate_pm (s : State) (x) : (s.withGate x).pm = s.pm := rfl
@[simp] theorem State.withGate_pending (s : State) (x) : (s.withGate x).pending = s.pending := rfl
@[simp] theorem State.withLm_power (s : State) (x) : (s.withLm x).power = s.power := rfl
@[simp] theorem State.withLm_sli (s : State) (x) : (s.withLm x).sli = s.sli := rfl
@[simp] theorem State.withLm_bmu (s : State) (x) : (s.withLm x).bmu = s.bmu := rfl
@[simp] theorem State.withLm_ssu (s : State) (x) : (s.withLm x).ssu = s.ssu := rfl
@[simp] theorem State.withLm_oau (s : State) (x) : (s.withLm x).oau = s.oau := rfl
@[simp] theorem State.withLm_dba (s : State) (x) : (s.withLm x).dba = s.dba := rfl
@[simp] theorem State.withLm_gate (s : State) (x) : (s.withLm x).gate = s.gate := rfl
@[simp] theorem State.withLm_lm (s : State) (x) : (s.withLm x).lm = x := rfl
@[simp] theorem State.withLm_ots (s : State) (x) : (s.withLm x).ots = s.ots := rfl
@[simp] theorem State.withLm_bsc (s : State) (x) : (s.withLm x).bsc = s.bsc := rfl
@[simp] theorem State.withLm_pc (s : State) (x) : (s.withLm x).pc = s.pc := rfl
@[simp] theorem State.withLm_pm (s : State) (x) : (s.withLm x).pm = s.pm := rfl
@[simp] theorem State.withLm_pending (s : State) (x) : (s.withLm x).pending = s.pending := rfl
@[simp] theorem State.withOts_power (s : State) (x) : (s.withOts x).power = s.power := rfl
@[simp] theorem State.withOts_sli (s : State) (x) : (s.withOts x).sli = s.sli := rfl
@[simp] theorem State.withOts_bmu (s : State) (x) : (s.withOts x).bmu = s.bmu := rfl
@[simp] theorem State.withOts_ssu (s : State) (x) : (s.withOts x).ssu = s.ssu := rfl
@[simp] theorem State.withOts_oau (s : State) (x) : (s.withOts x).oau = s.oau := rfl
@[simp] theorem State.withOts_dba (s : State) (x) : (s.withOts x).dba = s.dba := rfl
@[simp] theorem State.withOts_gate (s : State) (x) : (s.withOts x).gate = s.gate := rfl
@[simp] theorem State.withOts_lm (s : State) (x) : (s.withOts x).lm = s.lm := rfl
@[simp] theorem State.withOts_ots (s : State) (x) : (s.withOts x).ots = x := rfl
@[simp] theorem State.withOts_bsc (s : State) (x) : (s.withOts x).bsc = s.bsc := rfl
@[simp] theorem State.withOts_pc (s : State) (x) : (s.withOts x).pc = s.pc := rfl
@[simp] theorem State.withOts_pm (s : State) (x) : (s.withOts x).pm = s.pm := rfl
@[simp] theorem State.withOts_pending (s : State) (x) : (s.withOts x).pending = s.pending := rfl
@[simp] theorem State.withBsc_power (s : State) (x) : (s.withBsc x).power = s.power := rfl
@[simp] theorem State.withBsc_sli (s : State) (x) : (s.withBsc x).sli = s.sli := rfl
@[simp] theorem State.withBsc_bmu (s : State) (x) : (s.withBsc x).bmu = s.bmu := rfl
@[simp] theorem State.withBsc_ssu (s : State) (x) : (s.withBsc x).ssu = s.ssu := rfl
@[simp] theorem State.withBsc_oau (s : State) (x) : (s.withBsc x).oau = s.oau := rfl
@[simp] theorem State.withBsc_dba (s : State) (x) : (s.withBsc x).dba = s.dba := rfl
@[simp] theorem State.withBsc_gate (s : State) (x) : (s.withBsc x).gate = s.gate := rfl
@[simp] theorem State.withBsc_lm (s : State) (x) : (s.withBsc x).lm = s.lm := rfl
@[simp] theorem State.withBsc_ots (s : State) (x) : (s.withBsc x).ots = s.ots := rfl
@[simp] theorem State.withBsc_bsc (s : State) (x) : (s.withBsc x).bsc = x := rfl
@[simp] theorem State.withBsc_pc (s : State) (x) : (s.withBsc x).pc = s.pc := rfl
@[simp] theorem State.withBsc_pm (s : State) (x) : (s.withBsc x).pm = s.pm := rfl
@[simp] theorem State.withBsc_pending (s : State) (x) : (s.withBsc x).pending = s.pending := rfl
@[simp] theorem State.withPc_power (s : State) (x) : (s.withPc x).power = s.power := rfl
@[simp] theorem State.withPc_sli (s : State) (x) : (s.withPc x).sli = s.sli := rfl
@[simp] theorem State.withPc_bmu (s : State) (x) : (s.withPc x).bmu = s.bmu := rfl
@[simp] theorem State.withPc_ssu (s : State) (x) : (s.withPc x).ssu = s.ssu := rfl
@[simp] theorem State.withPc_oau (s : State) (x) : (s.withPc x).oau = s.oau := rfl
@[simp] theorem State.withPc_dba (s : State) (x) : (s.withPc x).dba = s.dba := rfl
@[simp] theorem State.withPc_gate (s : State) (x) : (s.withPc x).gate = s.gate := rfl
@[simp] theorem State.withPc_lm (s : State) (x) : (s.withPc x).lm = s.lm := rfl
@[simp] theorem State.withPc_ots (s : State) (x) : (s.withPc x).ots = s.ots := rfl
@[simp] theorem State.withPc_bsc (s : State) (x) : (s.withPc x).bsc = s.bsc := rfl
@[simp] theorem State.withPc_pc (s : State) (x) : (s.withPc x).pc = x := rfl
@[simp] theorem State.withPc_pm (s : State) (x) : (s.withPc x).pm = s.pm := rfl
@[simp] theorem State.withPc_pending (s : State) (x) : (s.withPc x).pending = s.pending := rfl
@[simp] theorem State.withPm_power (s : State) (x) : (s.withPm x).power = s.power := rfl
@[simp] theorem State.withPm_sli (s : State) (x) : (s.withPm x).sli = s.sli := rfl
@[simp] theorem State.withPm_bmu (s : State) (x) : (s.withPm x).bmu = s.bmu := rfl
@[simp] theorem State.withPm_ssu (s : State) (x) : (s.withPm x).ssu = s.ssu := rfl
@[simp] theorem State.withPm_oau (s : State) (x) : (s.withPm x).oau = s.oau := rfl
@[simp] theorem State.withPm_dba (s : State) (x) : (s.withPm x).dba = s.dba := rfl
@[simp] theorem State.withPm_gate (s : State) (x) : (s.withPm x).gate = s.gate := rfl
@[simp] theorem State.withPm_lm (s : State) (x) : (s.withPm x).lm = s.lm := rfl
@[simp] theorem State.withPm_ots (s : State) (x) : (s.withPm x).ots = s.ots := rfl
@[simp] theorem State.withPm_bsc (s : State) (x) : (s.withPm x).bsc = s.bsc := rfl
@[simp] theorem State.withPm_pc (s : State) (x) : (s.withPm x).pc = s.pc := rfl
@[simp] theorem State.withPm_pm (s : State) (x) : (s.withPm x).pm = x := rfl
@[simp] theorem State.withPm_pending (s : State) (x) : (s.withPm x).pending = s.pending := rfl
@[simp] theorem State.withPending_power (s : State) (x) : (s.withPending x).power = s.power := rfl
@[simp] theorem State.withPending_sli (s : State) (x) : (s.withPending x).sli = s.sli := rfl
@[simp] theorem State.withPending_bmu (s : State) (x) : (s.withPending x).bmu = s.bmu := rfl
@[simp] theorem State.withPending_ssu (s : State) (x) : (s.withPending x).ssu = s.ssu := rfl
@[simp] theorem State.withPending_oau (s : State) (x) : (s.withPending x).oau = s.oau := rfl
@[simp] theorem State.withPending_dba (s : State) (x) : (s.withPending x).dba = s.dba := rfl
@[simp] theorem State.withPending_gate (s : State) (x) : (s.withPending x).gate = s.gate := rfl
@[simp] theorem State.withPending_lm (s : State) (x) : (s.withPending x).lm = s.lm := rfl
@[simp] theorem State.withPending_ots (s : State) (x) : (s.withPending x).ots = s.ots := rfl
@[simp] theorem State.withPending_bsc (s : State) (x) : (s.withPending x).bsc = s.bsc := rfl
@[simp] theorem State.withPending_pc (s : State) (x) : (s.withPending x).pc = s.pc := rfl
@[simp] theorem State.withPending_pm (s : State) (x) : (s.withPending x).pm = s.pm := rfl
@[simp] theorem State.withPending_pending (s : State) (x) : (s.withPending x).pending = x := rfl

/-! ### Accessors -/

@[simp] theorem loadOf_setLoad_same (s : State) (i : Spout) (l : Option Load) : loadOf (setLoad s i l) i = l := by
  simp [loadOf, setLoad]

theorem loadOf_setLoad_other (s : State) {i j : Spout} (l : Option Load) (h : j ≠ i) :
    loadOf (setLoad s i l) j = loadOf s j := by
  simp [loadOf, setLoad, PerSpout.get_set_other _ _ h]

@[simp] theorem gateOf_setGate_same (s : State) (i : Spout) (g : Gate) : gateOf (setGate s i g) i = g := by
  simp [gateOf, setGate]

theorem gateOf_setGate_other (s : State) {i j : Spout} (g : Gate) (h : j ≠ i) :
    gateOf (setGate s i g) j = gateOf s j := by
  simp [gateOf, setGate, PerSpout.get_set_other _ _ h]

@[simp] theorem sensorOf_setSensor_same (s : State) (i : Spout) (x : Sensor) :
    sensorOf (setSensor s i x) i = x := by
  simp [sensorOf, setSensor]

theorem sensorOf_setSensor_other (s : State) {i j : Spout} (x : Sensor) (h : j ≠ i) :
    sensorOf (setSensor s i x) j = sensorOf s j := by
  simp [sensorOf, setSensor, PerSpout.get_set_other _ _ h]

@[simp] theorem portOf_setPort_same (s : State) (p : Port) (x : PortState) : portOf (setPort s p x) p = x := by
  cases p <;> simp [portOf, setPort]

theorem portOf_setPort_other (s : State) {p q : Port} (x : PortState) (h : q ≠ p) :
    portOf (setPort s p x) q = portOf s q := by
  cases p <;> cases q <;> simp_all [portOf, setPort, PerSpout.get_set]

/-! ### Timers at their limits (log 2) -/

theorem reached_iff (limit : Nat) (t : Option Nat) : reached limit t = true ↔ ∃ n, t = some n ∧ limit ≤ n := by
  cases t <;> simp [reached]

theorem tailDue_iff (s : State) (i : Spout) :
    tailDue s i = true ↔ ∃ x, (gateOf s i).tail = some x ∧ (working s).tailMaxMs ≤ x.timer := by
  simp [tailDue, reached_iff]

theorem closeDue_iff (s : State) (i : Spout) :
    closeDue s i = true ↔ (gateOf s i).mode = .closing ∧
      ∃ n, (gateOf s i).closeTimer = some n ∧ (working s).gateCloseMs ≤ n := by
  simp [closeDue, reached_iff]

theorem linkDue_iff (s : State) (i : Spout) :
    linkDue s i = true ↔ (working s).linkTimeoutMs ≠ 0 ∧
      ∃ n, s.lm.linkTimer.get i = some n ∧ (working s).linkTimeoutMs ≤ n := by
  simp [linkDue, reached_iff]

theorem holdDue_iff (s : State) (i : Spout) :
    holdDue s i = true ↔ ∃ l, loadOf s i = some l ∧ l.state = .held ∧ (working s).holdLimitS ≠ 0 ∧
      (working s).holdLimitS * 1000 < l.holdMs := by
  unfold holdDue
  cases loadOf s i <;> simp [and_assoc]

end Machine

end Sys2Proof
end

