-- ==== Sys2Proof/Laws/Settle.lean ====
section
/-! SUPPORT. What the shared operations of one event can do, said once: each of them keeps `RunsOn`, up to `settle`. -/

namespace Sys2Proof.Machine

/-! ### The relation -/

theorem LoadRunsOn.refl (p : Prop) (l : Option Load) : LoadRunsOn p l l := by
  cases l with
  | none => rfl
  | some l => exact ⟨l, rfl, rfl, fun _ => rfl, id, fun _ => ⟨rfl, rfl, rfl, rfl, fun h _ => h⟩⟩

theorem LoadRunsOn.trans {p : Prop} {a b c : Option Load} (h : LoadRunsOn p a b) (k : LoadRunsOn p b c) :
    LoadRunsOn p a c := by
  cases a with
  | none => simp only [LoadRunsOn] at h; subst h; exact k
  | some l =>
    obtain ⟨x, rfl, hx, hf, hr, hc⟩ := h
    obtain ⟨y, rfl, hy, kf, kr, kc⟩ := k
    refine ⟨y, rfl, ?_, ?_, fun h => kr (hr h), ?_⟩
    · rw [hy, hx]
    · intro h; have := hf h; subst this; exact kf h
    · intro hp
      obtain ⟨h1, h2, h3, h4, h5⟩ := hc hp
      obtain ⟨k1, k2, k3, k4, k5⟩ := kc hp
      refine ⟨k1.trans h1, k2.trans h2, k3.trans h3, k4.trans h4, fun n m => k5 (h5 n m) ?_⟩
      simpa only [latchedIn, h1, h2, h3, h4] using m

/-- An idle gate's load and gate are still idle after. -/
theorem gateIdle_runsOn {p : Prop} {l l' : Option Load} {g g' : Gate} (hl : LoadRunsOn p l l')
    (hg : GateRunsOn p l g g') (h : gateIdle p l g) : gateIdle p l' g' := by
  rw [hg.2.2 h]
  rcases h with h | h
  · exact .inl h
  · refine .inr fun x hx => ?_
    cases l with
    | none => simp only [LoadRunsOn] at hl; simp [hl] at hx
    | some l =>
      obtain ⟨y, rfl, -, hf, -, hc⟩ := hl
      cases hx
      have same : l.state = .armed ∨ l.state = .tailing →
          x.state = .armed ∨ x.state = .tailing ∨ ¬ p ∧ x.state = .held ∧ latchedIn x.causes :=
        fun n => by rw [hf n]; exact n.imp_right .inl
      rcases h l rfl with n | n | ⟨hp, hs, hb⟩
      · exact same (.inl n)
      · exact same (.inr n)
      · obtain ⟨h1, h2, h3, h4, h5⟩ := hc hp
        exact .inr (.inr ⟨hp, h5 hs hb, by simpa only [latchedIn, h1, h2, h3, h4] using hb⟩)

theorem RunsOn.refl (acts : List Spout) (s : State) : RunsOn acts s s where
  power := rfl
  ots := rfl
  pc := rfl
  pm := rfl
  pending := rfl
  sli := rfl
  bmu := rfl
  ssu := fun _ => rfl
  oau := rfl
  dba := rfl
  lm := rfl
  bsc := rfl
  valve := .inl ⟨rfl, rfl, rfl, rfl, rfl, rfl, rfl, rfl⟩
  load := fun _ => .refl _ _
  gate := fun _ => ⟨rfl, rfl, fun _ => rfl⟩
  command := fun _ _ => rfl

theorem RunsOn.trans {acts : List Spout} {s t u : State} (h : RunsOn acts s t) (k : RunsOn acts t u) :
    RunsOn acts s u where
  power := k.power.trans h.power
  ots := k.ots.trans h.ots
  pc := k.pc.trans h.pc
  pm := k.pm.trans h.pm
  pending := k.pending.trans h.pending
  sli := by rw [k.sli, h.sli]
  bmu := by rw [k.bmu, h.bmu]
  ssu := fun i => by rw [k.ssu i, h.ssu i]
  oau := by rw [k.oau, h.oau]
  dba := by rw [k.dba, h.dba]
  lm := by rw [k.lm, h.lm]
  bsc := by rw [k.bsc, h.bsc]
  valve := by
    rcases h.valve with ⟨h1, h2, h3, h4, h5, h6, h7, h8⟩ | ⟨h1, h2, h3, h4, h5, h6, h7⟩ <;>
      rcases k.valve with ⟨k1, k2, k3, k4, k5, k6, k7, k8⟩ | ⟨k1, k2, k3, k4, k5, k6, k7⟩
    · exact .inl ⟨k1.trans h1, k2.trans h2, k3.trans h3, k4.trans h4, k5.trans h5, k6.trans h6, k7.trans h7,
        k8.trans h8⟩
    · exact .inr ⟨h6 ▸ k1, k2, k3, k4, fun n => k5 (h2 ▸ n), k6, k7⟩
    · exact .inr ⟨h1, k6.trans h2, k1.trans h3, k3.trans h4, fun n => k2.trans (h5 n), k7.trans h6, k8.trans h7⟩
    · rw [h2] at k1; cases k1
  load := fun i => (h.load i).trans (k.load i)
  gate := fun i => by
    obtain ⟨h1, h2, h3⟩ := h.gate i
    obtain ⟨k1, k2, k3⟩ := k.gate i
    exact ⟨k1.trans h1, k2.trans h2, fun n =>
      (k3 (gateIdle_runsOn (h.load i) (h.gate i) n)).trans (h3 n)⟩
  command := fun i n =>
    (k.command i (gateIdle_runsOn (h.load i) (h.gate i) n)).trans (h.command i n)

theorem LoadRunsOn.mono {p q : Prop} (hpq : p → q) {a b : Option Load} (h : LoadRunsOn p a b) :
    LoadRunsOn q a b := by
  cases a with
  | none => exact h
  | some l =>
    obtain ⟨x, h1, h2, h3, h4, h5⟩ := h
    exact ⟨x, h1, h2, h3, h4, fun hq => h5 fun hp => hq (hpq hp)⟩

theorem gateIdle.mono {p q : Prop} (hpq : p → q) {l : Option Load} {g : Gate} (h : gateIdle q l g) : gateIdle p l g :=
  h.imp_right fun k x hx => (k x hx).imp_right fun n => n.imp_right fun m => ⟨fun hp => m.1 (hpq hp), m.2⟩

theorem RunsOn.mono {a b : List Spout} (hab : ∀ i ∈ a, i ∈ b) {s t : State} (h : RunsOn a s t) : RunsOn b s t :=
  { h with
    load := fun i => (h.load i).mono (hab i)
    gate := fun i => ⟨(h.gate i).1, (h.gate i).2.1, fun n => (h.gate i).2.2 (n.mono (hab i))⟩
    command := fun i n => h.command i (n.mono (hab i)) }

/-! ### The single changes -/

theorem loadOf_setLoad (s : State) (i j : Spout) (l : Option Load) :
    loadOf (setLoad s i l) j = if j = i then l else loadOf s j := by
  simp [loadOf, setLoad, PerSpout.get_set]

theorem gateOf_setGate (s : State) (i j : Spout) (g : Gate) :
    gateOf (setGate s i g) j = if j = i then g else gateOf s j := by
  simp [gateOf, setGate, PerSpout.get_set]

@[simp] theorem gateOf_setLoad (s : State) (i j : Spout) (l) : gateOf (setLoad s i l) j = gateOf s j := rfl
@[simp] theorem loadOf_setGate (s : State) (i j : Spout) (g) : loadOf (setGate s i g) j = loadOf s j := rfl
@[simp] theorem loadOf_setCommand (s : State) (i j : Spout) (c) : loadOf (setCommand i c s) j = loadOf s j := rfl
@[simp] theorem loadOf_dbaRelease (s : State) (i j : Spout) : loadOf (dbaRelease i s) j = loadOf s j := rfl
@[simp] theorem loadOf_dbaRemoval (s : State) (i j : Spout) : loadOf (dbaRemoval i s) j = loadOf s j := rfl
@[simp] theorem gateOf_dbaRelease (s : State) (i j : Spout) : gateOf (dbaRelease i s) j = gateOf s j := rfl
@[simp] theorem gateOf_dbaRemoval (s : State) (i j : Spout) : gateOf (dbaRemoval i s) j = gateOf s j := rfl
@[simp] theorem gateOf_setCommand (s : State) (i j : Spout) (c : Nat) :
    gateOf (setCommand i c s) j = if j = i then { gateOf s i with command := c } else gateOf s j := by
  show gateOf (setGate s i _) j = _
  rw [gateOf_setGate]

theorem setLoad_runsOn {acts : List Spout} {s : State} {i : Spout} {l x : Load} (hl : loadOf s i = some l)
    (hx : x = { l with state := x.state, causes := x.causes }) (hr : recordsHolds l.state)
    (hr' : recordsHolds x.state)
    (hc : i ∉ acts → x.causes.bay = l.causes.bay ∧ x.causes.interlock = l.causes.interlock ∧
      x.causes.link = l.causes.link ∧ x.causes.sense = l.causes.sense ∧
      (l.state = .held → latchedIn l.causes → x.state = .held)) :
    RunsOn acts s (setLoad s i (some x)) :=
  { RunsOn.refl acts s with
    lm := rfl
    load := fun j => by
      rw [loadOf_setLoad]
      split
      · subst j
        rw [hl]
        refine ⟨x, rfl, hx, fun h => ?_, fun _ => hr', hc⟩
        rcases hr with r | r | r <;> rcases h with h | h <;> simp [r] at h
      · exact .refl _ _ }

theorem setGate_runsOn {acts : List Spout} {s : State} {i : Spout} {g : Gate}
    (h : ¬ gateIdle (i ∈ acts) (loadOf s i) (gateOf s i)) (hc : g.cutoff = (gateOf s i).cutoff)
    (ht : g.tail = (gateOf s i).tail) : RunsOn acts s (setGate s i g) :=
  { RunsOn.refl acts s with
    ssu := fun _ => rfl
    gate := fun j => by
      rw [gateOf_setGate]
      split
      · subst j; exact ⟨hc, ht, fun n => absurd n h⟩
      · exact ⟨rfl, rfl, fun _ => rfl⟩ }

theorem setCommand_runsOn {acts : List Spout} {s : State} {i : Spout} {c : Nat}
    (h : ¬ gateIdle (i ∈ acts) (loadOf s i) (gateOf s i)) : RunsOn acts s (setCommand i c s) :=
  { RunsOn.refl acts s with
    sli := rfl
    ssu := fun _ => rfl
    gate := fun j => by
      rw [gateOf_setCommand]
      split
      · subst j; exact ⟨rfl, rfl, fun n => absurd n h⟩
      · exact ⟨rfl, rfl, fun _ => rfl⟩
    command := fun j n => by
      show (s.sli.gateCommand.set i c).get j = _
      rw [PerSpout.get_set]
      split
      · subst j; exact absurd n h
      · rfl }

theorem withDba_runsOn {acts : List Spout} {s : State} {x : Dba}
    (h : x = { s.dba with allocation := x.allocation, queue := x.queue }) : RunsOn acts s (s.withDba x) :=
  { RunsOn.refl acts s with dba := h, ssu := fun _ => rfl }

theorem dbaRelease_runsOn (acts : List Spout) (s : State) (i : Spout) : RunsOn acts s (dbaRelease i s) :=
  withDba_runsOn rfl

theorem dbaRemoval_runsOn (acts : List Spout) (s : State) (i : Spout) : RunsOn acts s (dbaRemoval i s) :=
  withDba_runsOn rfl

theorem recordDemands_runsOn (acts : List Spout) (s : State) (d : PerSpout Bool) :
    RunsOn acts s (recordDemands d s) :=
  { RunsOn.refl acts s with
    lm := rfl
    ssu := fun i => by cases i <;> rfl }

theorem dribbleEntered_runsOn (acts : List Spout) (s : State) (i : Spout) : RunsOn acts s (dribbleEntered i s) :=
  { RunsOn.refl acts s with ssu := fun _ => rfl, bsc := rfl }

/-! ### The valve -/

@[simp] theorem oauModeReport_power (m : Mode) (s : State) : (oauModeReport m s).power = s.power := rfl

/-- What an opening of the valve leaves (R158, R31). -/
theorem openValve_runsOn (acts : List Spout) (s : State) (h : s.bsc.state = .deferred) :
    RunsOn acts s (openValve s) := by
  cases hm : s.bmu.mode <;>
    exact
      { RunsOn.refl acts s with
        sli := by simp [openValve, bmuRefillOpened, setRefillCommand, bmuSetMode, oauModeReport, hm]
        bmu := by simp [openValve, bmuRefillOpened, setRefillCommand, bmuSetMode, oauModeReport, hm]
        oau := by simp [openValve, bmuRefillOpened, setRefillCommand, bmuSetMode, oauModeReport, hm]
        bsc := by simp [openValve, bmuRefillOpened, setRefillCommand, bmuSetMode, oauModeReport, hm]
        power := by simp [openValve, bmuRefillOpened, setRefillCommand, bmuSetMode, oauModeReport, hm]
        ots := by simp [openValve, bmuRefillOpened, setRefillCommand, bmuSetMode, oauModeReport, hm]
        pc := by simp [openValve, bmuRefillOpened, setRefillCommand, bmuSetMode, oauModeReport, hm]
        pm := by simp [openValve, bmuRefillOpened, setRefillCommand, bmuSetMode, oauModeReport, hm]
        pending := by simp [openValve, bmuRefillOpened, setRefillCommand, bmuSetMode, oauModeReport, hm]
        ssu := by simp [openValve, bmuRefillOpened, setRefillCommand, bmuSetMode, oauModeReport, hm, sensorOf]
        dba := by simp [openValve, bmuRefillOpened, setRefillCommand, bmuSetMode, oauModeReport, hm]
        lm := by simp [openValve, bmuRefillOpened, setRefillCommand, bmuSetMode, oauModeReport, hm]
        valve := by
          right
          simp [openValve, bmuRefillOpened, setRefillCommand, bmuSetMode, oauModeReport, hm, h]
        load := by
          intro i
          have : loadOf (openValve s) i = loadOf s i := by
            simp [openValve, bmuRefillOpened, setRefillCommand, bmuSetMode, oauModeReport, hm, loadOf]
          rw [this]; exact .refl _ _
        gate := by
          intro i
          have : gateOf (openValve s) i = gateOf s i := by
            simp [openValve, bmuRefillOpened, setRefillCommand, bmuSetMode, oauModeReport, hm, gateOf]
          rw [this]; exact ⟨rfl, rfl, fun _ => rfl⟩
        command := by
          intro i _
          simp [openValve, bmuRefillOpened, setRefillCommand, bmuSetMode, oauModeReport, hm] }

theorem dribbleLeft_runsOn (acts : List Spout) (s : State) (i : Spout) : RunsOn acts s (dribbleLeft i s) := by
  have h : RunsOn acts s (s.withBsc { s.bsc with dribbleSet := s.bsc.dribbleSet.set i false }) :=
    { RunsOn.refl acts s with ssu := fun _ => rfl, bsc := rfl }
  unfold dribbleLeft
  dsimp only
  split
  · next hd => exact h.trans (openValve_runsOn acts _ hd.2)
  · exact h

theorem leftDribble_runsOn (acts : List Spout) (s : State) (i : Spout) (m : GateMode) :
    RunsOn acts s (leftDribble i m s) := by
  unfold leftDribble
  split
  · exact dribbleLeft_runsOn acts s i
  · exact .refl _ _

/-! ### Closing and opening a gate -/

/-- The gate of a DISCHARGING load, when it is not in FAULT, is not idle. -/
theorem not_gateIdle {p : Prop} {l : Load} {g : Gate} (hr : l.state = .discharging) (hg : g.mode ≠ .fault) :
    ¬ gateIdle p (some l) g := by
  rintro (h | h)
  · exact hg h
  · simpa [hr] using h l rfl

theorem discharging_ne_fault {m : GateMode} (h : m.discharging = true) : m ≠ .fault := by
  rintro rfl; cases h

theorem gateToClosing_runsOn {acts : List Spout} {s : State} {i : Spout}
    (h : ¬ gateIdle (i ∈ acts) (loadOf s i) (gateOf s i)) : RunsOn acts s (gateToClosing i s) := by
  unfold gateToClosing
  dsimp only
  refine RunsOn.trans ?_ (leftDribble_runsOn acts _ i _)
  refine RunsOn.trans ?_ (dbaRelease_runsOn acts _ i)
  refine RunsOn.trans (setGate_runsOn h ?_ ?_) (setCommand_runsOn ?_)
  · rfl
  · rfl
  · rw [loadOf_setGate, gateOf_setGate_same]
    rintro (n | n)
    · cases n
    · exact h (.inr n)

theorem dropPending_runsOn {acts : List Spout} {s : State} {i : Spout}
    (h : ¬ gateIdle (i ∈ acts) (loadOf s i) (gateOf s i)) : RunsOn acts s (dropPending i s) := by
  unfold dropPending
  split
  · refine RunsOn.trans ?_ (dbaRelease_runsOn acts _ i)
    exact setGate_runsOn h rfl rfl
  · exact .refl _ _

theorem plainClose_runsOn {acts : List Spout} {s : State} {i : Spout} {l : Load} (hl : loadOf s i = some l)
    (hr : l.state = .discharging) : RunsOn acts s (plainClose i s) := by
  unfold plainClose
  split
  · next h => exact gateToClosing_runsOn (hl ▸ not_gateIdle hr (discharging_ne_fault h))
  · split
    · next h => exact dropPending_runsOn (hl ▸ not_gateIdle hr (by rw [h]; exact nofun))
    · exact .refl _ _

/-! A plain close neither reads nor writes the LM's part. -/

theorem openValve_setLoad (s : State) (j : Spout) (l : Option Load) :
    openValve (setLoad s j l) = setLoad (openValve s) j l := by
  cases hm : s.bmu.mode <;>
    simp [openValve, bmuRefillOpened, setRefillCommand, bmuSetMode, oauModeReport, setLoad, hm] <;> rfl

theorem dribbleLeft_setLoad (s : State) (i j : Spout) (l : Option Load) :
    dribbleLeft i (setLoad s j l) = setLoad (dribbleLeft i s) j l := by
  let u := s.withBsc { s.bsc with dribbleSet := s.bsc.dribbleSet.set i false }
  by_cases h : s.bsc.dribbleSet.set i false = .all false ∧ s.bsc.state = .deferred
  · have e : dribbleLeft i s = openValve u := if_pos h
    have e' : dribbleLeft i (setLoad s j l) = openValve (setLoad u j l) := if_pos h
    rw [e, e']
    exact openValve_setLoad u j l
  · have e : dribbleLeft i s = u := if_neg h
    have e' : dribbleLeft i (setLoad s j l) = setLoad u j l := if_neg h
    rw [e, e']

theorem leftDribble_setLoad (s : State) (i j : Spout) (m : GateMode) (l : Option Load) :
    leftDribble i m (setLoad s j l) = setLoad (leftDribble i m s) j l := by
  unfold leftDribble
  split
  · exact dribbleLeft_setLoad s i j l
  · rfl

theorem gateToClosing_setLoad (s : State) (i j : Spout) (l : Option Load) :
    gateToClosing i (setLoad s j l) = setLoad (gateToClosing i s) j l :=
  leftDribble_setLoad (dbaRelease i (setCommand i 0 (setGate s i
    { gateOf s i with mode := .closing, closeTimer := some 0 }))) i j (gateOf s i).mode l

theorem plainClose_setLoad (s : State) (i j : Spout) (l : Option Load) :
    plainClose i (setLoad s j l) = setLoad (plainClose i s) j l := by
  unfold plainClose
  rw [gateOf_setLoad]
  split
  · exact gateToClosing_setLoad s i j l
  · split
    · unfold dropPending
      rw [gateOf_setLoad]
      split <;> rfl
    · rfl

theorem loadOf_openValve (s : State) (j : Spout) : loadOf (openValve s) j = loadOf s j := by
  cases hm : s.bmu.mode <;>
    simp [openValve, bmuRefillOpened, setRefillCommand, bmuSetMode, oauModeReport, loadOf, hm]

theorem loadOf_plainClose (s : State) (i j : Spout) : loadOf (plainClose i s) j = loadOf s j := by
  unfold plainClose
  split
  · unfold gateToClosing leftDribble dribbleLeft
    dsimp only
    split
    · split
      · exact loadOf_openValve _ j
      · rfl
    · rfl
  · split
    · unfold dropPending; split <;> rfl
    · rfl

theorem gateOpen_runsOn {acts : List Spout} {s : State} {i : Spout} {l : Load} (hl : loadOf s i = some l)
    (hr : l.state = .discharging) (hg : (gateOf s i).mode ≠ .fault) : RunsOn acts s (gateOpen i s) := by
  unfold gateOpen
  rw [hl]
  dsimp only
  have h0 : RunsOn acts s (setGate s i { gateOf s i with flowSum := 0, flowCount := 0 }) :=
    setGate_runsOn (hl ▸ not_gateIdle hr hg) rfl rfl
  refine h0.trans ?_
  have hn : ¬ gateIdle (i ∈ acts) (loadOf (setGate s i { gateOf s i with flowSum := 0, flowCount := 0 }) i)
      (gateOf (setGate s i { gateOf s i with flowSum := 0, flowCount := 0 }) i) := by
    rw [loadOf_setGate, gateOf_setGate_same, hl]; exact not_gateIdle hr hg
  generalize setGate s i { gateOf s i with flowSum := 0, flowCount := 0 } = u at hn h0 ⊢
  have hu : ∀ m, m ≠ .fault → ¬ gateIdle (i ∈ acts) (loadOf (setGate u i { gateOf u i with mode := m }) i)
      (gateOf (setGate u i { gateOf u i with mode := m }) i) := by
    intro m hm
    rw [loadOf_setGate, gateOf_setGate_same]
    rintro (n | n)
    · exact hm n
    · exact hn (.inr n)
  split
  · refine RunsOn.trans ?_ (setCommand_runsOn (hu _ nofun))
    exact setGate_runsOn hn rfl rfl
  · refine RunsOn.trans ?_ (dribbleEntered_runsOn acts _ i)
    refine RunsOn.trans ?_ (setCommand_runsOn (hu _ nofun))
    exact setGate_runsOn hn rfl rfl

theorem gateTakeGrant_runsOn {acts : List Spout} {s : State} {i : Spout} {l : Load} (a : Allocation)
    (hl : loadOf s i = some l) (hr : l.state = .discharging) : RunsOn acts s (gateTakeGrant i a s) := by
  unfold gateTakeGrant
  split
  · next h => exact gateOpen_runsOn hl hr (by rw [h]; exact nofun)
  · next h => exact setGate_runsOn (hl ▸ not_gateIdle hr (by rw [h]; exact nofun)) rfl rfl
  · exact .refl _ _

/-! ### Holds, requests and releases of holds -/

theorem Causes.add_has (x : Causes) (cs : List Cause) (c : Cause) :
    (x.add cs).has c = (x.has c || decide (c ∈ cs)) := by
  induction cs generalizing x with
  | nil => simp [Causes.add]
  | cons a cs ih =>
    show ((x.put a true).add cs).has c = _
    rw [ih]
    cases a <;> cases c <;> simp [Causes.put, Causes.has]

/-- The causes that only the event itself may change (R122, R125, R126). -/
def latching (c : Cause) : Prop := c = .bay ∨ c = .interlock ∨ c = .link ∨ c = .sense

theorem Causes.add_latched {x : Causes} {cs : List Cause} (h : ∀ c ∈ cs, ¬ latching c) :
    (x.add cs).bay = x.bay ∧ (x.add cs).interlock = x.interlock ∧ (x.add cs).link = x.link ∧
      (x.add cs).sense = x.sense := by
  refine ⟨?_, ?_, ?_, ?_⟩
  · have := x.add_has cs .bay; simpa [Causes.has, show Cause.bay ∉ cs from fun m => h _ m (by simp [latching])] using this
  · have := x.add_has cs .interlock
    simpa [Causes.has, show Cause.interlock ∉ cs from fun m => h _ m (by simp [latching])] using this
  · have := x.add_has cs .link
    simpa [Causes.has, show Cause.link ∉ cs from fun m => h _ m (by simp [latching])] using this
  · have := x.add_has cs .sense
    simpa [Causes.has, show Cause.sense ∉ cs from fun m => h _ m (by simp [latching])] using this

theorem lmHold_runsOn {acts : List Spout} (cs : List Cause) (i : Spout) (s : State)
    (h : i ∈ acts ∨ ∀ c ∈ cs, ¬ latching c) : RunsOn acts s (lmHold cs i s) := by
  unfold lmHold
  split
  · exact .refl _ _
  · split
    · exact .refl _ _
    · next l hl =>
      have hc : i ∉ acts → (l.causes.add cs).bay = l.causes.bay ∧
          (l.causes.add cs).interlock = l.causes.interlock ∧ (l.causes.add cs).link = l.causes.link ∧
          (l.causes.add cs).sense = l.causes.sense ∧
          (l.state = .held → latchedIn l.causes → LoadState.held = .held) := by
        intro n
        obtain ⟨h1, h2, h3, h4⟩ := Causes.add_latched (x := l.causes) (h.resolve_left n)
        exact ⟨h1, h2, h3, h4, fun _ _ => rfl⟩
      have held : recordsHolds LoadState.held := .inr (.inr rfl)
      dsimp only
      split
      · next hs =>
        exact (setLoad_runsOn hl rfl (.inl hs) held hc).trans (dbaRemoval_runsOn _ _ _)
      · next hs =>
        rw [plainClose_setLoad]
        exact (plainClose_runsOn hl hs).trans
          (setLoad_runsOn ((loadOf_plainClose s i i).trans hl) rfl (.inr (.inl hs)) held hc)
      · next hs => exact setLoad_runsOn hl rfl (.inr (.inr hs)) held hc
      · exact .refl _ _

theorem supplyCauses_not_latching (d : Dba) : ∀ c ∈ supplyCauses d, ¬ latching c := by
  intro c hc
  have : c = .aeration ∨ c = .starve := by
    unfold supplyCauses at hc
    rcases List.mem_append.mp hc with h | h <;> split at h <;> simp_all
  rcases this with rfl | rfl <;> simp [latching]

theorem dbaRequest_runsOn (acts : List Spout) (i : Spout) (l : Load) (s : State) :
    RunsOn acts s (dbaRequest i l s) := by
  unfold dbaRequest
  split
  · exact .refl _ _
  · split
    · exact lmHold_runsOn _ _ _ (.inr (supplyCauses_not_latching _))
    · exact withDba_runsOn rfl

/-- A load that records holds enters WAITING (R121). -/
theorem enterWaiting_runsOn {acts : List Spout} {s : State} {i : Spout} {l : Load} (hl : loadOf s i = some l)
    (hr : recordsHolds l.state) (hn : i ∈ acts ∨ ¬ latchedIn l.causes) : RunsOn acts s (enterWaiting i s) := by
  unfold enterWaiting
  rw [hl]
  dsimp only
  refine RunsOn.trans ?_ (dbaRequest_runsOn acts i _ _)
  exact setLoad_runsOn hl rfl hr (.inl rfl)
    (fun n => ⟨rfl, rfl, rfl, rfl, fun _ m => absurd m (hn.resolve_left n)⟩)

theorem lmLift_runsOn {acts : List Spout} (c : Cause) (i : Spout) (s : State)
    (h : i ∈ acts ∨ ¬ latching c) : RunsOn acts s (lmLift c i s) := by
  unfold lmLift
  split
  · exact .refl _ _
  · next l hl =>
    split
    · next hh =>
      have held : recordsHolds l.state := .inr (.inr hh.1)
      have hc : i ∉ acts → (l.causes.put c false).bay = l.causes.bay ∧
          (l.causes.put c false).interlock = l.causes.interlock ∧ (l.causes.put c false).link = l.causes.link ∧
          (l.causes.put c false).sense = l.causes.sense ∧
          (l.state = .held → latchedIn l.causes → l.state = .held) := by
        intro n
        have := h.resolve_left n
        cases c <;> simp_all [latching, Causes.put]
      have h1 : RunsOn acts s (setLoad s i (some { l with causes := l.causes.put c false })) :=
        setLoad_runsOn hl rfl held held hc
      dsimp only
      split
      · next hz =>
        refine h1.trans (enterWaiting_runsOn (loadOf_setLoad_same _ _ _) held (.inr ?_))
        rw [hz]
        simp [latchedIn, Causes.none]
      · exact h1
    · exact .refl _ _

theorem eachSpout_runsOn {acts : List Spout} {f : Spout → State → State} {s : State}
    (h : ∀ i t, RunsOn acts t (f i t)) : RunsOn acts s (eachSpout f s) :=
  ((h .A s).trans (h .B _)).trans (h .C _)

/-! ### Grants, demands and `settle` -/

theorem grant_runsOn (acts : List Spout) (q : QueuePlace) (rest : List QueuePlace) (s : State) :
    RunsOn acts s (grant q rest s) := by
  unfold grant
  dsimp only
  refine (withDba_runsOn (acts := acts) (s := s) (x := { s.dba with
    allocation := s.dba.allocation.set q.spout
      (some { load := q.load, rate := headRate (working s) q }), queue := rest }) rfl).trans ?_
  unfold grantTaken
  split
  · exact .refl _ _
  · next l hl =>
    split
    · next hh =>
      refine RunsOn.trans ?_ (gateTakeGrant_runsOn (acts := acts) _ (loadOf_setLoad_same _ _ _) rfl)
      exact setLoad_runsOn hl rfl (.inl hh.2) (.inr (.inl rfl))
        (fun _ => ⟨rfl, rfl, rfl, rfl, fun n => by rw [hh.2] at n; cases n⟩)
    · exact .refl _ _

theorem examineFrom_runsOn (acts : List Spout) (qs : List QueuePlace) (s : State) :
    RunsOn acts s (examineFrom qs s) := by
  induction qs generalizing s with
  | nil => exact .refl _ _
  | cons q rest ih =>
    unfold examineFrom
    split
    · exact (grant_runsOn acts q rest s).trans (ih _)
    · exact .refl _ _

theorem examine_runsOn (acts : List Spout) (s : State) : RunsOn acts s (examine s) := examineFrom_runsOn _ _ _

theorem demandChanged_runsOn (acts : List Spout) (b a : PerSpout Bool) (i : Spout) (s : State) :
    RunsOn acts s (demandChanged b a i s) := by
  unfold demandChanged
  split
  · exact lmHold_runsOn _ _ _ (.inr (by simp [latching]))
  · split
    · exact lmLift_runsOn _ _ _ (.inr (by simp [latching]))
    · exact .refl _ _

theorem rejudge_runsOn (acts : List Spout) (s : State) : RunsOn acts s (rejudge s) :=
  (recordDemands_runsOn acts s _).trans (eachSpout_runsOn fun i t => demandChanged_runsOn acts _ _ i t)

theorem settleFor_runsOn (acts : List Spout) (n : Nat) (s : State) : RunsOn acts s (settleFor n s) := by
  induction n generalizing s with
  | zero => exact .refl _ _
  | succ n ih =>
    unfold settleFor
    dsimp only
    split
    · exact examine_runsOn acts s
    · exact ((examine_runsOn acts s).trans (rejudge_runsOn acts _)).trans (ih _)

/-- What the reports of one event can do, run to their end. -/
theorem settle_runsOn (acts : List Spout) (s : State) : RunsOn acts s (settle s) := settleFor_runsOn _ _ _

end Sys2Proof.Machine
end

