-- ==== Sys2Proof/Tests/Slice0.lean ====
section
/-! SUPPORT. Tests: the well-formedness checks refuse what they should, the manual's worked figures come out, and for every
statement with hypotheses a concrete state and operands meet them. Expected figures stand in the chapter named. -/

open Sys2Proof Sys2Proof.Machine

namespace Sys2Proof.Tests

-- The tests are evaluated one after another: side by side their evaluations take more threads than a check allows.
set_option Elab.async false

/-! ### Small states -/

def ref : Ref := List.replicate 8 0x41

def slot (v : Int) : Slot := BitVec.ofInt 24 v ++ (0 : BitVec 8)

def usual : Sched := ⟨false, false, false⟩

/-- A frame with good samples on every channel: 40 t in the bin, 50,000 g/s on every plate, the gates shut. -/
def frame (n : Nat) : InFrame :=
  { bin := slot 4000000, impact := .all (slot 50000), feedback := .all (slot 0), sequence := slot n }

def shutGate : Gate := { Gate.reset with mode := .closed, closeTimer := none }

/-- A LOCKED link with every channel FRESH, the lines high, no load. -/
def ready : State := { State.reset with
  sli := { State.reset.sli with
    lock := .locked, lastSeq := some 7, lockTimer := some 3, bin := ⟨.fresh, 4000000, some 2⟩,
    impact := .all ⟨.fresh, 0, some 2⟩, feedback := .all ⟨.fresh, 0, some 2⟩ }
  bmu := { State.reset.bmu with mode := .unready }
  ssu := .all { Sensor.reset with demand := false }
  oau := { State.reset.oau with modeRecord := .unready }
  dba := { State.reset.dba with effectiveBudget := 240000, aerationLow := false }
  gate := .all shutGate
  lm := { State.reset.lm with
    interlock := .all true, aerationLow := false, seeking := false, demand := .all false }
  ots := { State.reset.ots with orders := [⟨ref, 60000000, .all true, 100000, 0, 0, .opened⟩] }
  bsc := { State.reset.bsc with blindRecord := false, aerationHigh := true } }

def load (x : LoadState) : Load where
  number := 1
  order := ref
  target := 1000000
  rate := 100000
  state := x
  d := 20000
  gravimetric := 0
  causes := if x = .held then { Causes.none with bay := true } else .none
  holdMs := 0
  trips := 0
  finished := false
  cutoff := none
  drift := false
  firstFault := none

/-- `ready` with a load on spout A, its order's reservation and its ticket place. -/
def withLoad (l : Load) : State := { ready with
  lm := { ready.lm with slot := ⟨some l, none, none⟩, counter := 2, linkTimer := ⟨some 0, none, none⟩ }
  ots := { ready.ots with orders := [⟨ref, 60000000, .all true, 100000, 0, 1000000, .opened⟩], placesHeld := 1 } }

def armed : State := withLoad (load .armed)

def held : State := withLoad (load .held)

def waiting : State := { withLoad (load .waiting) with dba := { ready.dba with queue := [⟨.A, 1, 100000⟩] } }

/-- The load discharges through a REGULATING gate at 300 per-mille, under a grant of 100,000 g/s. -/
def discharging : State := { withLoad (load .discharging) with
  dba := { ready.dba with allocation := ⟨some ⟨1, 100000⟩, none, none⟩ }
  gate := ⟨{ shutGate with mode := .regulating, command := 300 }, shutGate, shutGate⟩
  sli := { ready.sli with gateCommand := ⟨300, 0, 0⟩ } }

/-- The same load's gate in DRIBBLE, the only one of the dribble set, with the refill DEFERRED. -/
def dribbling : State := { discharging with
  gate := ⟨{ shutGate with mode := .dribble, command := 250 }, shutGate, shutGate⟩
  sli := { ready.sli with gateCommand := ⟨250, 0, 0⟩ }
  bsc := { ready.bsc with state := .deferred, deferralTimer := some 9, dribbleSet := ⟨true, false, false⟩ } }

/-- The load's gate is still CLOSING, with a pending grant or without. -/
def closingUnder (grant : Option Allocation) : State := { discharging with
  gate := ⟨{ shutGate with mode := .closing, closeTimer := some 9, pendingGrant := grant }, shutGate, shutGate⟩
  sli := { ready.sli with gateCommand := .all 0 } }

/-- A tail whose timer and low-flow count stand at the values given. -/
def tailingAt (timer low : Nat) : State := { withLoad (load .tailing) with
  gate := ⟨{ shutGate with tail := some ⟨.cutoff, timer, low, false⟩, cutoff := some ⟨10000, 30000, 1, false⟩ },
    shutGate, shutGate⟩ }

/-- TAIL_MAX_MS is 6,000 ms. -/
def tailing : State := tailingAt 6000 0

/-- A state whose lock timer stands at the value given; the limit is 30 ms. -/
def lockAt (n : Nat) (s : State) : State := { s with sli := { s.sli with lockTimer := some n } }

/-- A state whose bin and impact channel timers stand at the value given; the limit is 50 ms. -/
def staleAt (n : Nat) (s : State) : State := { s with sli := { s.sli with
  bin := { s.sli.bin with timer := some n }, impact := s.sli.impact.set .A { s.sli.impact.get .A with timer := some n } } }

/-- A state whose link timer on A stands at the value given; the limit is 5,000 ms. -/
def linkAt (n : Nat) (s : State) : State := { s with lm := { s.lm with linkTimer := s.lm.linkTimer.set .A (some n) } }

/-- The refill valve is open. -/
def refilling : State := { ready with
  sli := { ready.sli with refillCommand := true }
  bmu := { ready.bmu with mode := .refilling, refillMark := true }
  bsc := { ready.bsc with state := .opened, refillTimer := some 9 } }

def cleanEntry : Entry := ⟨40000000, true, false, false, .all false, .all 0⟩

/-- Twenty CLEAN windows behind it, in GRAVIMETRIC at 110,000 g/s. -/
def gravimetric : State := { ready with
  bmu := { ready.bmu with mode := .gravimetric, ring := List.replicate 20 cleanEntry, cleanRun := 20, f := 110000 } }

/-- The next state's value of something, where there is a next state. -/
def after {α : Type} (c : Instr) (s : State) (f : State → α) : Option α :=
  match exec c s with
  | .next t => some (f t)
  | _ => none

def reply (c : Instr) (p : Port) (s : State) : Option Result :=
  (after c s fun t => (portOf t p).reply.map Reply.result).join

/-! ### Well-formedness (chapter 10, "Bytes and frames", "Request kinds") -/

theorem test_wf_length_zero_refused : (Instr.start (.bay .A) 0).wf = false := by decide
theorem test_wf_length_121_refused : (Instr.start (.bay .A) 121).wf = false := by decide
theorem test_wf_short_reference_refused : (Instr.cancelOrder .dispatch 9 (List.replicate 7 0x41)).wf = false := by decide
theorem test_wf_known_kind_refused : (Instr.unknownRequest .dispatch 0x2F 1).wf = false := by decide
theorem test_wf_accepts : (Instr.openLoad (.bay .A) 17 ref 1000000 100000).wf = true := by decide

/-- No row gives bits, so no word spells a command and the state is left alone. -/
theorem test_no_word_spells_a_command : decodeTableWord 8 2 = none ∧ ready.withFetchWord 8 2 = ready := by
  exact ⟨rfl, rfl⟩

/-! ### The manual's figures -/

/-- Chapter 2, R19: 12,007 and 11,993 counts give 70 g and −70 g. -/
theorem test_frame_bin_mass :
    frameBinMass { paramDefaults with binZero := 12000, binSpan := 2570 } 12007 = 70 ∧
    frameBinMass { paramDefaults with binZero := 12000, binSpan := 2570 } 11993 = -70 := by decide

/-- Chapter 2, R20: 66,000,000 g at the default capacity. -/
theorem test_capacity_limit : capacityLimit paramDefaults = 66000000 := by decide

def caseMeans (newest : List Int) : List Entry :=
  ([41052300, 41041250, 41030180, 41019270] ++ List.replicate 12 41000000 ++ newest).map fun m =>
    { cleanEntry with mean := m }

/-- Chapter 2, "Worked case: the outflow rate": 110,000 g/s, and 0 for a bin that rose. -/
theorem test_outflow_rate :
    outflowRate paramDefaults (caseMeans [40876300, 40865250, 40854180, 40843270]) = 110000 ∧
    outflowRate paramDefaults (caseMeans [41037500, 41037500, 41037500, 41037500]) = 0 := by decide

/-- Chapter 3, R40: 200,000 counts over a zero of 96,000 at a gain of 65,772. -/
theorem test_indicated_flow : indicated 96000 65772 200000 = 104374 := by decide

/-- Chapter 3, "Worked case: a learning step and a drift finding": 65,536 becomes 65,772. -/
theorem test_gain_step : correctedGain 65536 110000 104000 = 65772 := by decide

/-- Chapter 4, "the quantum": the numerators and the carries of two closes. -/
theorem test_quantum :
    quantumNumerator paramDefaults 110437 0 = 11043700000 ∧ 11043700000 / 1000000 = 11043 ∧
    (quantumNumerator paramDefaults 110437 700000) % 1000000 = 400000 := by decide

/-- Chapter 4: the credits of two gravimetric windows; the remainder goes to the largest, A in a tie. -/
theorem test_credits :
    gravimetricCredits 11000 ⟨6120, 4790, 0⟩ = ⟨6171, 4829, 0⟩ ∧
    gravimetricCredits 16500 ⟨5000, 5000, 700⟩ = ⟨7711, 7710, 1079⟩ := by decide

/-- Chapter 7, R119: requested 4,000, 180,000 and 180,000 g/s, the last under a BUDGET of 120,000. -/
theorem test_effective_rate :
    effectiveRate paramDefaults 4000 = 10000 ∧ effectiveRate paramDefaults 180000 = 150000 ∧
    effectiveRate { paramDefaults with budget := 120000 } 180000 = 120000 := by decide

/-- Chapter 1, R5: the lock timer's limits. -/
theorem test_lock_limits :
    lockLimitMs paramDefaults = 30 ∧ lockLimitMs { paramDefaults with framePeriodUs := 5000 } = 15 ∧
    lockLimitMs { paramDefaults with framePeriodUs := 7500 } = 23 := by decide

/-- Chapter 1, R13: the default staleness limit is 50 ms. -/
theorem test_stale_limit : staleLimitMs paramDefaults = 50 := by decide

/-- Chapter 1, the worked case: frame 44 after 41 is a gap of 2, frame 50 after 44 a gap of 5, and 0 follows 255. -/
theorem test_gaps : gapOf 44 41 = 2 ∧ gapOf 50 44 = 5 ∧ gapOf 0 255 = 0 ∧ gapOf 41 41 = 255 := by decide

/-- Chapter 6, "Worked case: dribble, cutoff and tail learning": the window steps 353, 303, 253, 250, 250. -/
theorem test_dribble_steps :
    let g := fun c => (dribbleStep paramDefaults { shutGate with mode := .dribble, command := c }).command
    g 353 = 303 ∧ g 303 = 253 ∧ g 253 = 250 ∧ g 250 = 250 := by decide

/-- The published check value of the CRC that R170 describes, over the digits 1 to 9. -/
theorem test_crc16 : crc16 [0x31, 0x32, 0x33, 0x34, 0x35, 0x36, 0x37, 0x38, 0x39] = 0x29B1 := by decide +kernel

/-- The published check value of the CRC-32 that R183 describes, over the digits 1 to 9. -/
theorem test_crc32 : crc32 [0x31, 0x32, 0x33, 0x34, 0x35, 0x36, 0x37, 0x38, 0x39] = 0xCBF43926 := by decide +kernel

/-- Chapter 11: the default column is a sound set of values. -/
theorem test_defaults_sound : paramsSound paramDefaults = true := by decide

/-- Chapter 12, sequences 1, 2 and 3: the credits of two closes, two gains, two tail times and three shares. -/
theorem test_worked_sequences :
    gravimetricCredits 23847 ⟨14780, 8860, 0⟩ = ⟨14910, 8937, 0⟩ ∧
    gravimetricCredits 23841 ⟨14820, 8790, 0⟩ = ⟨14965, 8876, 0⟩ ∧
    correctedGain 65772 109580 104045 = 65990 ∧ correctedGain 66100 101300 100200 = 66145 ∧
    learnedTail 800 ⟨27976100, 30000, 1, false⟩ 28003700 = 830 ∧
    learnedTail 700 ⟨21980500, 28000, 1, false⟩ 22009600 = 784 ∧
    gravimetricShare { load .tailing with d := 40021800, gravimetric := 39725800 } = 992 ∧
    gravimetricShare { load .tailing with d := 32017400, gravimetric := 17676800 } = 552 := by decide +kernel

/-- Chapter 12, sequence 1: MAX_LOAD_G clamps the load on A, which is number 2,301. -/
theorem test_open_load_clamped :
    let s := { ready with
      lm := { ready.lm with counter := 2301 }
      ots := { ready.ots with orders := [⟨ref, 65000000, ⟨true, true, false⟩, 80000, 0, 0, .opened⟩] } }
    after (.openLoad (.bay .A) 17 ref 52000000 150000) s (fun t => ((loadOf t .A).map fun l => (l.number, l.target, l.rate),
      t.ots.orders.map Order.reserved)) = some (some (2301, 40000000, 150000), [40000000]) := by decide +kernel

/-- Chapter 12, sequence 3 and R190: a cutoff that empties the dribble set in DEFERRED opens the refill in its event. -/
theorem test_cutoff_opens_deferred_refill :
    let s := { dribbling with
      bmu := { gravimetric.bmu with position := 3 }
      oau := { ready.oau with openPart := ⟨979000, 0, 0⟩ } }
    after (.frameArrival (frame 8) usual) s (fun t => (t.bsc.state, t.bmu.mode, t.bmu.refillMark,
      (loadOf t .A).map Load.state)) = some (.opened, .refilling, true, some .tailing) := by decide +kernel

/-! ### One step of a command -/

/-- R16, R180: slot 3 of the outbound frame is the refill command, slot 0 gate A's. -/
theorem test_sync_takes_commands :
    after .frameSync { refilling with sli := { refilling.sli with gateCommand := ⟨300, 0, 0⟩ } } (·.sli.outbound.take 4) =
      some [0x00012C00, 0, 0, 0x00000100] := by decide +kernel

/-- R11: a gap of five is counted as 5 and marks the window DISTURBED, which then has four positions filled. -/
theorem test_large_gap :
    after (.frameArrival (frame 13) usual) ready (fun t => (t.sli.missedFrames, t.bmu.disturbedMark, t.bmu.position)) =
      some (5, true, 4) := by decide +kernel

/-- R4: an early sync in SEEKING drops the candidate, in the FOLLOWER role. -/
theorem test_early_sync :
    after .earlySync { State.reset with
      pm := { State.reset.pm with working := { paramDefaults with syncRole := .follower } }
      sli := { State.reset.sli with lastSeq := some 3, lockTimer := some 1 } }
      (fun t => (t.sli.lastSeq, t.sli.frameErrors)) = some (none, 1) := by decide +kernel

/-- R122, R102: HOLD on a discharging load. -/
theorem test_hold : after (.hold (.bay .A) 1) discharging
    (fun t => ((gateOf t .A).mode, t.sli.gateCommand.a, (loadOf t .A).map Load.state, t.dba.allocation.a)) =
      some (.closing, 0, some .held, none) := by decide +kernel

/-- R120: START with the interlock low and the feedback STALE. -/
theorem test_start_conditions :
    after (.start (.bay .A) 1) { armed with
      lm := { armed.lm with interlock := ⟨false, true, true⟩ }
      sli := { armed.sli with feedback := ⟨⟨.stale, 0, none⟩, armed.sli.feedback.b, armed.sli.feedback.c⟩ } }
      (fun t => (portOf t (.bay .A)).reply.map Reply.fields) = some (some [17]) := by decide +kernel

/-- R150, R151, R70: FINISH on a HELD load with 20,000 g leaves a ticket UNDER its target, the number 1. -/
theorem test_finish_ticket : after (.finish (.bay .A) 1) held
    (fun t => (t.ots.tickets.map fun k => (k.number, k.d, k.outcome, k.endCause), t.ots.placesHeld, t.ots.counter)) =
      some ([(1, 20000, .under, .finished)], 0, 2) := by decide +kernel

/-- R112: a tail that delivered 10,000 g against 30,000 g/s was 333 ms, so τ goes from 600 to 600 − 66. -/
theorem test_tail_learning : after (.tailTimerExpiry .A) tailing (·.pm.working.tailMs.a) = some 534 := by
  decide +kernel

/-- R128: at 5,000 ms LINK is added; a request taken first restarts the timer, and the expiry behind it adds no LINK. -/
theorem test_request_first_adds_no_link :
    let causes := fun t : State => (loadOf t .A).map fun l => l.causes.link
    after (.linkTimerExpiry .A) (linkAt 5000 held) causes = some (some true) ∧
    ((after (.spoutStatus (.bay .A) 1) (linkAt 5000 held) fun t => after (.linkTimerExpiry .A) t causes).join) =
      some (some false) := by decide +kernel

/-- R170: the frame of HOLD (L = 1, kind 0x12) on a bay port, its second CRC byte. -/
theorem test_hold_frame :
    let x : PortState := (PortState.reset 19200)
    ([0x02] ++ [0x01, 0x12] ++ crcBytes [0x01, 0x12]).foldl (fun y b => receiveByte (.bay .B) b true y) x =
      { x with receive := .answering, request := some (.hold (.bay .B) 1) } := by decide +kernel

/-- R182, R186: BIN_SPAN is LOCKED under the custody lock; GEAR_STEP is not. -/
theorem test_custody_lock :
    let s := { ready with pm := { ready.pm with custodyLock := true } }
    reply (.setParameter .dispatch 6 0x11 2570) .dispatch s = some .locked ∧
    reply (.setParameter .dispatch 6 0x51 40) .dispatch s = some .ok := by decide +kernel

/-- R128, R2: the idle step that brings a link timer to 5,000 ms puts its expiry in the queue, and a MASTER's first sync
comes a millisecond after reset (log 19). -/
theorem test_tick_raises_link_timer :
    let s := { held with lm := { held.lm with linkTimer := ⟨some 4999, none, none⟩ } }
    (match step s with | .next t => t.pending | _ => []) = [.linkTimerExpiry .A, .frameSync] := by decide +kernel

/-! ### Witnesses: states and operands that meet the hypotheses of the statements -/

def answersNext (s : State) (c : Instr) : Bool := match exec c s with | .next _ => true | _ => false

theorem witness_StepRunsTheFrontCommand :
    ({ ready with pending := [.frameSync] } : State).pending = .frameSync :: [] ∧
      answersNext ready .frameSync = true := by decide +kernel

theorem witness_IdleStepTakesOwnEventsOrAMillisecond :
    ({ ready with power := .off } : State).pending = [] ∧ ({ ready with power := .off } : State).power ≠ .running ∧
    ready.pending = [] ∧ ready.power = .running ∧ ownEvents ready = [] ∧
    ready.pm.working.framePeriodUs ≤ 9000 + 1000 ∧ ¬ ready.pm.working.framePeriodUs ≤ 8999 + 1000 ∧
    (let c := Instr.hold (.bay .B) 1
     ownEvents { ready with
       pc := { ready.pc with
        bay := ready.pc.bay.set .B { ready.pc.bay.b with receive := .answering, request := some c }
        dispatch := { ready.pc.dispatch with baud := 9600 } }
       oau := { ready.oau with reports := [⟨true, .all none⟩] }
       pm := { ready.pm with warmPending := true } } =
      [c, .applyWindowReport, .warmRestart { interlock := .all true, aerationOk := true },
        .portBaudTakenUp .dispatch]) := by decide +kernel

theorem discharging_gateInv : GateInv discharging where
  outbound := by intro i; cases i <;> rfl
  shut := by intro i; cases i <;> decide
  pendingCloses := by intro i; cases i <;> decide
  opened := by
    intro i h
    cases i
    · exact ⟨load .discharging, rfl, rfl⟩
    · exact absurd h (by decide)
    · exact absurd h (by decide)
  tailing := by intro i h; cases i <;> exact absurd h (by decide)

theorem discharging_queueInv : QueueInv discharging where
  once := by decide
  waiting := by intro q h; exact absurd h (by simp [discharging, withLoad, ready, State.reset])
  noClaim := by intro q h; exact absurd h (by simp [discharging, withLoad, ready, State.reset])

theorem discharging_budgetInv : BudgetInv discharging where
  budget := by decide
  fits := by decide

theorem discharging_claimInv : ClaimInv discharging where
  granted := by intro i; cases i <;> decide
  faulted := by intro i; cases i <;> decide
  asked := by
    intro i l h w
    cases i
    · obtain rfl : load .discharging = l := by simpa [discharging, withLoad, loadOf, PerSpout.get] using h
      exact absurd w (by decide)
    · exact absurd h (by simp [discharging, withLoad, loadOf, PerSpout.get])
    · exact absurd h (by simp [discharging, withLoad, loadOf, PerSpout.get])

/-- The hypothesis of every `noClaim` clause, on a state with a granted load. -/
theorem witness_GrantsAgree : GrantsAgree discharging :=
  ⟨discharging_gateInv, discharging_queueInv, discharging_budgetInv, discharging_claimInv⟩

/-- A state that meets GateInv, QueueInv and BudgetInv and whose step answers next; the witness of the four statements
that keep them and of ClaimInvKept. -/
theorem witness_GateInvKept_BudgetInvKept_ClaimInvKept :
    GrantsAgree discharging ∧ ∃ t, step discharging = .next t := ⟨witness_GrantsAgree, _, rfl⟩

theorem waiting_gateInv : GateInv waiting where
  outbound := by intro i; cases i <;> rfl
  shut := by intro i; cases i <;> decide
  pendingCloses := by intro i; cases i <;> decide
  opened := by intro i h; cases i <;> exact absurd h (by decide)
  tailing := by intro i h; cases i <;> exact absurd h (by decide)

theorem waiting_queueInv : QueueInv waiting := by
  refine ⟨by decide, ?_, ?_⟩
  · intro q h
    simp only [waiting, List.mem_singleton] at h
    subst h
    exact ⟨load .waiting, rfl, rfl, rfl⟩
  · intro q h
    simp only [waiting, List.mem_singleton] at h
    subst h
    rfl

theorem witness_QueueInvKept : GateInv waiting ∧ QueueInv waiting ∧ ∃ t, step waiting = .next t :=
  ⟨waiting_gateInv, waiting_queueInv, _, rfl⟩

theorem witness_RefillInvKept : RefillInv refilling ∧ ∃ t, step refilling = .next t :=
  ⟨⟨by decide, by decide, by decide, by decide⟩, _, rfl⟩

theorem witness_PlacesInvKept : PlacesInv held ∧ ∃ t, step held = .next t :=
  ⟨⟨by decide, by decide⟩, _, rfl⟩

theorem witness_OrdersInvKept : OrdersInv held ∧ ∃ t, step held = .next t := by
  refine ⟨⟨by decide, by decide, ?_, ?_⟩, _, rfl⟩
  · intro o h
    simp only [held, withLoad, List.mem_singleton] at h
    subst h
    decide +kernel
  · intro i l h
    cases i
    · obtain rfl : load .held = l := by simpa [held, withLoad, loadOf, PerSpout.get] using h
      exact ⟨by decide, _, List.mem_singleton.mpr rfl, rfl⟩
    · exact absurd h (by simp [held, withLoad, loadOf, PerSpout.get])
    · exact absurd h (by simp [held, withLoad, loadOf, PerSpout.get])

theorem witness_LoadInvKept : GateInv discharging ∧ LoadInv discharging ∧ ∃ t, step discharging = .next t := by
  refine ⟨discharging_gateInv, ⟨?_, ?_⟩, _, rfl⟩ <;> intro i l h <;> cases i
  · obtain rfl : load .discharging = l := by simpa [discharging, withLoad, loadOf, PerSpout.get] using h
    decide
  · exact absurd h (by simp [discharging, withLoad, loadOf, PerSpout.get])
  · exact absurd h (by simp [discharging, withLoad, loadOf, PerSpout.get])
  · obtain rfl : load .discharging = l := by simpa [discharging, withLoad, loadOf, PerSpout.get] using h
    decide
  · exact absurd h (by simp [discharging, withLoad, loadOf, PerSpout.get])
  · exact absurd h (by simp [discharging, withLoad, loadOf, PerSpout.get])

theorem witness_HistoryInvKept :
    RefillInv gravimetric ∧ HistoryInv gravimetric ∧ ∃ t, step gravimetric = .next t :=
  ⟨⟨by decide, by decide, by decide, by decide⟩, ⟨by decide, by decide, by decide, by decide, by decide⟩, _, rfl⟩

theorem witness_ParamInvKept : ParamInv gravimetric ∧ ∃ t, step gravimetric = .next t :=
  ⟨⟨by decide, by decide, by decide⟩, _, rfl⟩

theorem witness_CounterInvKept : CounterInv held ∧ ∃ t, step held = .next t := by
  refine ⟨⟨by decide, by decide, by decide, by decide, ?_, ?_, ?_, ?_, by decide, ?_⟩, _, rfl⟩
  · intro i; cases i <;> decide
  · rintro (i | _)
    · cases i <;> decide
    · decide
  · intro i; cases i <;> decide
  · intro i l h
    cases i
    · obtain rfl : load .held = l := by simpa [held, withLoad, loadOf, PerSpout.get] using h
      decide
    · exact absurd h (by simp [held, withLoad, loadOf, PerSpout.get])
    · exact absurd h (by simp [held, withLoad, loadOf, PerSpout.get])
  · intro i x h; cases i <;> exact absurd (show none = some x from h) (by simp)

/-- The FOLLOWER role. -/
def follower (s : State) : State :=
  { s with pm := { s.pm with working := { s.pm.working with syncRole := .follower } } }

def inProgress (s : State) : State := { s with sli := { s.sli with frameInProgress := true } }

theorem witness_SyncBeginsAFrame :
    ready.power = .running ∧ ready.pm.working.syncRole = .master ∧
    (follower ready).sli.frameInProgress = false ∧ (follower ready).pm.working.syncRole = .follower ∧
    (inProgress (follower ready)).sli.frameInProgress = true := by decide +kernel

/-- Slot 7 of 256, the first number outside 0..255. -/
theorem witness_MalformedAndCandidateFramesGoNoFurther :
    (∀ n ≤ 255, (frame 256).sequence ≠ slotOf n) ∧ State.reset.power = .running ∧ State.reset.sli.lock = .seeking ∧
    wellFormed (frame 255) 255 ∧ wellFormed (frame 0) 0 ∧ State.reset.sli.lastSeq = none := by
  refine ⟨by decide +kernel, rfl, rfl, ?_, ?_, rfl⟩ <;> unfold wellFormed <;> decide +kernel

theorem witness_DuplicateFrameIsDiscarded :
    let s := inProgress ready
    s.power = .running ∧ s.sli.lock = .locked ∧ s.sli.frameInProgress = true ∧ s.sli.lastSeq = some 7 ∧
      wellFormed (frame 7) 7 := by
  unfold wellFormed; decide +kernel

/-- The gaps 0, 3, 4 and 254: normal, the longest filled one, the shortest that disturbs, the longest. At position 5 a gap of
three does not reach the close, at position 6 it does. -/
theorem witness_AcceptedFrameReachesTheChannels :
    ready.sli.lock = .locked ∧ ready.sli.lastSeq = some 7 ∧ wellFormed (frame 8) 8 ∧ wellFormed (frame 11) 11 ∧
    wellFormed (frame 12) 12 ∧ wellFormed (frame 6) 6 ∧ ready.bmu.mode ≠ .blind ∧
    (12 + 255 - 7) % 256 = 4 ∧ 5 + min ((12 + 255 - 7) % 256) 3 < 9 ∧ ¬ 6 + min ((12 + 255 - 7) % 256) 3 < 9 := by
  unfold wellFormed; decide +kernel

/-- After reset, with a HELD load and a SUSPENDED refill control; under SENSOR_POLICY HOLD; with and without a bin sample. -/
theorem witness_ConsecutiveFrameLocksTheLink :
    let s := { held with
      sli := { State.reset.sli with lastSeq := some 255, lockTimer := some 5 }
      bmu := { State.reset.bmu with position := 8 }
      bsc := { ready.bsc with state := .suspended, blindRecord := true }
      pm := { ready.pm with working := { paramDefaults with sensorPolicy := .hold } } }
    s.power = .running ∧ s.sli.lock = .seeking ∧ s.sli.lastSeq = some 255 ∧ wellFormed (frame 0) 0 ∧
      0 = (255 + 1) % 256 ∧ s.bmu.mode = .blind ∧ s.bmu.position < 9 ∧ (∀ j ∈ Spout.all, (sensorOf s j).count < 9) ∧
      (channelAfter (sampleOf (frame 0).bin) s.sli.bin).state = .fresh ∧
      (channelAfter (sampleOf (0x01 : Slot)) s.sli.bin).state ≠ .fresh ∧
      s.bsc.state = .suspended ∧ s.bsc.zeroRecord = false ∧ loadOf s .A = some (load .held) := by
  unfold wellFormed; decide +kernel

/-- Position 8 under SENSOR_POLICY HOLD; and BIN-SOLO in force, with spout A's channel STALE and its load the only one that
draws. -/
theorem witness_NormalFrameGivesFlowsAndMasses :
    (let s := { ready with
      pm := { ready.pm with working := { ready.pm.working with sensorPolicy := .hold } }
      bmu := { ready.bmu with position := 8 } }
    s.power = .running ∧ s.sli.lock = .locked ∧ s.sli.lastSeq = some 7 ∧ wellFormed (frame 8) 8 ∧ 8 = (7 + 1) % 256 ∧
      s.pm.working.sensorPolicy = .hold ∧ s.bmu.mode ≠ .blind ∧ s.bmu.position < 9) ∧
    (let s := { discharging with
      bmu := gravimetric.bmu
      sli := { discharging.sli with impact := discharging.sli.impact.set .A ⟨.stale, 0, none⟩ } }
    s.pm.working.sensorPolicy = .binSolo ∧ (s.sli.impact.get .A).state ≠ .fresh ∧ s.bmu.mode = .gravimetric ∧
      loadOf s .A = some (load .discharging) ∧ loadOf s .B = none ∧ loadOf s .C = none ∧
      (flowOf s missedPosition .A).effective = 110000) := by
  unfold wellFormed; decide +kernel

/-- In GRAVIMETRIC under SENSOR_POLICY HOLD with a previous close to judge by, no tail and a load on A, whose part of the
window's mass the close makes pending. -/
theorem witness_TenthFrameClosesTheWindow :
    let s := { gravimetric with
      bmu := { gravimetric.bmu with
        position := 9, goodCount := 9, massSum := 360000000, previous := some (.gravimetric, 110000) }
      pm := { ready.pm with working := { paramDefaults with sensorPolicy := .hold } } }
    s.power = .running ∧ s.sli.lock = .locked ∧ s.sli.lastSeq = some 7 ∧ wellFormed (frame 8) 8 ∧ 8 = (7 + 1) % 256 ∧
      s.bmu.mode ≠ .blind ∧ s.bmu.position = 9 ∧ s.bmu.zero.state ≠ .running ∧ s.bsc.state ≠ .deferred ∧
      s.bmu.ring.getLast? = some cleanEntry ∧ s.pm.working.sensorPolicy = .hold ∧
      (∀ j ∈ Spout.all, (gateOf s j).tail = none) ∧ loadOf { s with lm := discharging.lm } .A = some (load .discharging) ∧
      after (.frameArrival (frame 8) usual) { s with lm := discharging.lm }
        (fun t => (t.oau.reports.length, t.oau.pending.a, t.oau.openPart.a)) = some (1, some ⟨500, 1⟩, 0) := by
  unfold wellFormed; decide +kernel

/-- The lock timer one below its limit of 30 ms, and at it, in each lock state. -/
theorem witness_LockTimerExpiryEndsTheLock :
    (let s := lockAt 30 discharging
     s.power = .running ∧ s.sli.lockTimer = some 30 ∧ (3 * s.pm.working.framePeriodUs + 999) / 1000 ≤ 30 ∧
      s.sli.lock = .locked ∧ s.bmu.mode ≠ .blind ∧ loadOf s .A = some (load .discharging) ∧
      (gateOf s .A).mode.discharging = true) ∧
    ¬ (3 * discharging.pm.working.framePeriodUs + 999) / 1000 ≤ 29 ∧
    (lockAt 30 State.reset).sli.lock = .seeking ∧ recordsHolds (load .discharging).state ∧
    (gateOf (lockAt 30 tailing) .A).tail = some ⟨.cutoff, 6000, 0, false⟩ ∧ ¬ recordsHolds (load .tailing).state := by
  unfold recordsHolds; decide +kernel

/-- The channels' timers one below their limit of 50 ms, and at it. -/
theorem witness_StaleChannelIsReported :
    (let s := staleAt 50 discharging
     (s.sli.impact.get .A).state = .fresh ∧ (s.sli.impact.get .A).timer = some 50 ∧ s.sli.bin.state = .fresh ∧
      s.sli.bin.timer = some 50 ∧
      (s.pm.working.staleFrames * s.pm.working.framePeriodUs + 999) / 1000 ≤ 50 ∧
      ¬ (s.pm.working.staleFrames * s.pm.working.framePeriodUs + 999) / 1000 ≤ 49 ∧
      (sensorOf s .A).demand = false ∧ loadOf s .A = some (load .discharging) ∧ s.bmu.mode ≠ .blind) ∧
    ({ discharging with pm := { discharging.pm with
      working := { discharging.pm.working with sensorPolicy := .hold } } } : State).pm.working.sensorPolicy = .hold := by
  decide +kernel

theorem witness_queueWaits : queueWaits discharging ∧
    draws { discharging with bmu := gravimetric.bmu } .A ∧ ¬ draws discharging .B := by
  refine ⟨?_, ⟨load .discharging, rfl, .inl rfl⟩, ?_⟩
  · intro q rest h
    simp [discharging, ready, State.reset] at h
  · rintro ⟨l, h, -⟩
    simp [discharging, withLoad, loadOf, PerSpout.get] at h

/-- Under BIN-SOLO: a spout that draws alone in GRAVIMETRIC runs on when its channel goes STALE, and in UNREADY is held. -/
theorem witness_StaleChannelIsReported_binSolo :
    let s := staleAt 50 { discharging with bmu := gravimetric.bmu }
    let condition := fun t : State => (loadOf t .A).map fun l => (l.state, l.causes.sensor)
    s.pm.working.sensorPolicy = .binSolo ∧ (sensorOf s .A).demand = false ∧ s.dba.queue = [] ∧
    (∀ j ∈ Spout.all, j ≠ .A → (sensorOf s j).demand = decide ((s.sli.impact.get j).state ≠ .fresh)) ∧
    after (.stalenessTimerExpiry (.impact .A)) s condition = some (some (.discharging, false)) ∧
    after (.stalenessTimerExpiry (.impact .A)) (staleAt 50 discharging) condition = some (some (.held, true)) := by
  decide +kernel

/-- A CLEAN entry in GRAVIMETRIC and one in UNREADY; a BLIND position at which a spout's count is ten, and nine,
and ten in the BLIND of a restart. The account
at the largest value that still takes the quantum of 11,043 g. -/
theorem witness_GravimetricCloseCreditsExactlyE :
    let s := { gravimetric with oau := { gravimetric.oau with unassigned := 999999988956 } }
    s.oau.unassigned + (110437 * (10 * s.pm.working.framePeriodUs) + s.oau.carry) / 1000000 ≤ 999999999999 ∧
    (cleanEntry.valid = true ∧ cleanEntry.refill = false ∧ cleanEntry.disturbed = false) ∧
    (let u := fun entered => { discharging with
      bmu := { State.reset.bmu with blindEntered := entered }
      ssu := .all { sensorOf ready .A with count := 10, massSum := 700 } }
     (u true).bmu.mode = .blind ∧ 10 ≤ (sensorOf (u true) .A).count ∧
      (bmuPosition missedPosition (u true)).oau.reports = [⟨false, ⟨some ⟨1, 700⟩, none, none⟩⟩] ∧
      State.reset.bmu.blindEntered = false ∧ (bmuPosition missedPosition (u false)).oau.reports = []) ∧
    (let u := { discharging with bmu := { State.reset.bmu with blindEntered := true }, ssu := .all { sensorOf ready .A with count := 9 } }
     (∀ j ∈ Spout.all, (sensorOf u j).count < 10) ∧ (bmuPosition missedPosition u).oau.reports = []) := by
  decide +kernel

theorem witness_RemainderGoesToTheLargest :
    let m : PerSpout Nat := ⟨5000, 5000, 700⟩
    0 < m.a + m.b + m.c ∧ (∀ j ∈ Spout.all, m.get j ≤ m.get .A) ∧ ¬ (m.a < m.b) ∧
    (⟨5000, 0, 700⟩ : PerSpout Nat).b = 0 ∧ gravimetricCredits 16500 ⟨5000, 0, 700⟩ = ⟨14474, 0, 2026⟩ := by decide

def report : WindowReport := ⟨true, ⟨some ⟨1, 6171⟩, some ⟨9, 4829⟩, none⟩⟩

/-- A report with a credit for the load in the slot and one for a load that is gone; alone, and before a later report that
names the same load, which leaves the pending part standing. -/
theorem witness_WindowReportIsApplied :
    let s := fun rest => { discharging with oau := { discharging.oau with
      reports := report :: rest, pending := ⟨some ⟨6120, 1⟩, none, none⟩ } }
    (s []).power = .running ∧ (s []).oau.reports = [report] ∧ (s []).oau.unassigned ≤ 999999999999 ∧
    loadOf (s []) .A = some (load .discharging) ∧ report.credits.get .A = some ⟨1, 6171⟩ ∧
    (s []).oau.pending.get .A = some ⟨6120, 1⟩ ∧ (load .discharging).d + 6171 ≤ 4294967295 ∧ ready.oau.reports = [] ∧
    after .applyWindowReport (s []) (·.oau.pending.a) = some none ∧
    after .applyWindowReport (s [report]) (·.oau.pending.a) = some (some ⟨6120, 1⟩) := by
  decide +kernel

/-- A window of one spout's flow alone; 20,000 g/s over a span of twenty. -/
def soloEntry (m : Nat) : Entry := { cleanEntry with flowing := ⟨true, false, false⟩, m := ⟨m, 0, 0⟩ }

/-- The solo counter of a spout that flowed alone over ten positions, at its end, and over nine; the ends of the gain's
range; the least span rate that learns, in its band and out of it, and one below; a tail observed
longer and shorter than τ; the leak counts at 8 and 9; the nineteenth and the twentieth window of a zero. -/
theorem witness_LearningLeakAndZeroSteps :
    4096 ≤ 262143 ∧ correctedGain 262143 400000 1 = 262143 ∧ correctedGain 4096 1 400000 = 4096 ∧
    (let s := fun m : Nat => { gravimetric with
      bmu := { gravimetric.bmu with ring := List.replicate 20 (soloEntry m) }
      ssu := ready.ssu.set .A { sensorOf ready .A with solo := 20 } }
     let gain := fun (m f : Nat) => (learnGain .gravimetric f .A (s m)).pm.working.spoutGain.a
     gain 2000 21000 ≠ 65536 ∧ gain 1999 21000 = 65536 ∧
     (sensorOf (learnGain .gravimetric 41000 .A (s 2000)) .A).driftSuspended = true) ∧
    (let s := fun n solo : Nat => { ready with
      ssu := ⟨{ Sensor.reset with massSum := 700, count := n, solo := solo }, { Sensor.reset with count := n },
        { Sensor.reset with count := n }⟩ }
     (sensorOf (ssuComplete (s 10 4)) .A).solo = 5 ∧ (sensorOf (ssuComplete (s 10 255)) .A).solo = 255 ∧
     (sensorOf (ssuComplete (s 9 4)) .A).solo = 0 ∧ (sensorOf (ssuComplete (s 10 4)) .B).solo = 0) ∧
    (leakJudged paramDefaults { Sensor.reset with massSum := 300, count := 10, leakSet := 8 }).leakAlarm = false ∧
    (leakJudged paramDefaults { Sensor.reset with massSum := 300, count := 10, leakSet := 9 }).leakAlarm = true ∧
    (let s := fun n : Nat => { gravimetric with bmu := { gravimetric.bmu with zero := ⟨.running, n, 9000, 10, false⟩ } }
     (s 18).bmu.zero.state = .running ∧ (s 18).bmu.zero.windowCount < 19 ∧ 19 ≤ (s 19).bmu.zero.windowCount) ∧
    cleanEntry.valid = true ∧ cleanEntry.disturbed = false := by decide +kernel

theorem witness_WindowStepMovesTheGate :
    let s := fun (m : GateMode) (c n : Nat) => { discharging with gate :=
      ⟨{ shutGate with mode := m, command := c, flowSum := 100000 * n, flowCount := n }, shutGate, shutGate⟩ }
    (gateOf (s .opening 960 1) .A).mode = .opening ∧ (gateOf (s .regulating 50 0) .A).mode = .regulating ∧
    (gateOf (s .regulating 1000 1) .A).flowCount = 1 ∧ (gateOf (s .dribble 251 1) .A).mode = .dribble ∧
    (gateOf (s .closing 0 1) .A).mode.discharging = false := by decide +kernel

/-- A projection at the target exactly, and one gram below it with the dribble mass reached and not reached; feedback of 20
and of 21 per-mille on a CLOSING gate, with a pending grant and without. -/
theorem witness_CutoffClosesTheGate :
    let fl : Nat → Flow := fun q => ⟨q, q, 0, false⟩
    let target := (load .discharging).target
    loadOf discharging .A = some (load .discharging) ∧ (gateOf discharging .A).mode.discharging = true ∧
    projection { discharging with oau := { discharging.oau with openPart := ⟨980000, 0, 0⟩ } } .A (load .discharging)
      (fl 0) = target ∧
    projection { discharging with oau := { discharging.oau with openPart := ⟨979999, 0, 0⟩ } } .A (load .discharging)
      (fl 0) < target ∧
    projection discharging .A (load .discharging) (fl 0) < target - 300000 ∧
    (gateOf (gateFeedback .A (.good 20) (closingUnder none)) .A).mode = .closed ∧
    (gateOf (gateFeedback .A (.good 21) (closingUnder none)) .A).mode = .closing ∧
    (gateOf (gateFeedback .A (.good 20) (closingUnder (some ⟨1, 100000⟩))) .A).mode = .opening := by decide +kernel

/-- The same on a normal frame with 50,000 g/s on the plate: 500 g on the position and 30,000 g for τ over 20,000 g of D and
the open part; and the gate in DRIBBLE. -/
theorem witness_CutoffClosesTheGate_frame :
    let s := fun opened : Int => { discharging with
      bmu := { discharging.bmu with position := 8 }, oau := { discharging.oau with openPart := ⟨opened, 0, 0⟩ } }
    let state := fun opened => after (.frameArrival (frame 8) usual) (s opened) fun t =>
      (loadOf t .A).map Load.state
    (s 0).power = .running ∧ (s 0).sli.lock = .locked ∧ (s 0).sli.lastSeq = some 7 ∧ wellFormed (frame 8) 8 ∧
      8 = (7 + 1) % 256 ∧ (s 0).bmu.mode ≠ .blind ∧ (s 0).bmu.position < 9 ∧ loadOf (s 0) .A = some (load .discharging) ∧
      (gateOf (s 0) .A).mode.discharging = true ∧ (gateOf (s 0) .A).tail = none ∧
      (gateOf (s 0) .A).pendingGrant = none ∧ (sensorOf (s 0) .A).demand = false ∧
      (channelAfter (sampleOf ((frame 8).impact.get .A)) ((s 0).sli.impact.get .A)).state = .fresh ∧
      state 949500 = some (some .tailing) ∧ state 949499 = some (some .discharging) ∧
      (gateOf dribbling .A).mode = .dribble := by
  unfold wellFormed; decide +kernel

/-- The hypotheses of `LeavesDribble` in the statements of gate faults, link timeouts, interlock edges, aeration, HOLD and
FINISH, and the valve that each event opens. -/
theorem witness_LeavesDribble :
    (gateOf dribbling .A).mode = .dribble ∧ dribbling.bsc.state = .deferred ∧
    (∀ j ∈ Spout.all, j ≠ .A → dribbling.bsc.dribbleSet.get j = false) ∧
    (let feedbackStale := { dribbling with sli := { dribbling.sli with feedback := .all ⟨.fresh, 0, some 50⟩ } }
     [after (.stalenessTimerExpiry (.feedback .A)) feedbackStale (·.bsc.state),
      after (.linkTimerExpiry .A) (linkAt 5000 dribbling) (·.bsc.state),
      after (.interlockFallingEdge .A) dribbling (·.bsc.state), after (.aerationOkChange false) dribbling (·.bsc.state),
      after (.hold (.bay .A) 1) dribbling (·.bsc.state), after (.finish (.bay .A) 1) dribbling (·.bsc.state)] =
      List.replicate 6 (some .opened)) := by decide +kernel

/-- Each refill state and the levels next to L_EMPTY and L_LOW; a newest VALID mean one below L_EMPTY with the bin not
starved, and at L_LOW with it starved, with a load on A. -/
theorem witness_BinLevelDrivesTheRefill :
    ready.bsc.state = .idle ∧ refilling.bsc.state = .opened ∧
    ({ ready.bsc with dribbleSet := ⟨true, false, false⟩ } : Bsc).dribbleSet ≠ .all false ∧
    0 < ready.pm.working.refillDeferMaxS ∧ (ready.pm.working.lEmpty : Int) ≤ 24999999 ∧
    (24999999 : Int) < ready.pm.working.lLow ∧
    (let levelled := fun (level : Int) (starved : Bool) (s : State) => { s with
      bmu := { s.bmu with ring := [{ cleanEntry with mean := level }, { cleanEntry with valid := false }] }
      bsc := { s.bsc with starved := starved } }
     newestLevel ready = none ∧ newestLevel (levelled 3999999 false discharging) = some 3999999 ∧
     (bscClose (levelled 3999999 false discharging)).lm.starved = true ∧
     (bscClose (levelled 4000000 false discharging)).lm.starved = false ∧
     (bscClose (levelled 25000000 true held)).bsc.starved = false ∧
     (bscClose (levelled 24999999 true held)).bsc.starved = true ∧
     0 < discharging.dba.effectiveBudget ∧ loadOf discharging .A = some (load .discharging) ∧
     loadOf held .A = some (load .held)) := by decide +kernel

/-- The tail timer at TAIL_MAX_MS and one below; the fourth and the fifth position in a row below TAIL_END_FLOW. -/
theorem witness_TailTimerEndsTheLoad :
    tailing.power = .running ∧ (gateOf tailing .A).tail = some ⟨.cutoff, 6000, 0, false⟩ ∧
    tailing.pm.working.tailMaxMs ≤ 6000 ∧ (gateOf (tailingAt 5999 4) .A).tail = some ⟨.cutoff, 5999, 4, false⟩ ∧
    5999 < tailing.pm.working.tailMaxMs ∧ loadOf tailing .A = some (load .tailing) ∧
    (let fl : Flow := ⟨1499, 1499, 15, false⟩
     loadOf (tailPosition .A ⟨.cutoff, 9, 3, false⟩ fl (tailingAt 9 3)) .A = some (load .tailing) ∧
     loadOf (tailPosition .A ⟨.cutoff, 9, 4, false⟩ fl (tailingAt 9 4)) .A = none) := by decide +kernel

theorem witness_CompletionMakesTheTicket :
    (findOrder held (load .held).order).isSome ∧ (held.ots.orders.map Order.ref).Nodup ∧ 0 < (load .held).d := by
  decide +kernel

/-- A CLOSING gate at its limit and one below; a FRESH feedback channel at its limit with the link LOCKED and SEEKING. -/
theorem witness_GateFaultsEndTheLoad :
    let s := { held with
      gate := ⟨{ Gate.reset with closeTimer := some 3000 }, shutGate, shutGate⟩
      sli := { held.sli with feedback := .all ⟨.fresh, 0, some 50⟩ } }
    let seeking := { s with sli := { s.sli with lock := .seeking } }
    s.power = .running ∧ (gateOf s .A).mode = .closing ∧ (gateOf s .A).closeTimer = some 3000 ∧
      s.pm.working.gateCloseMs ≤ 3000 ∧ 2999 < s.pm.working.gateCloseMs ∧ (s.sli.feedback.get .A).state = .fresh ∧
      (s.sli.feedback.get .A).timer = some 50 ∧
      (s.pm.working.staleFrames * s.pm.working.framePeriodUs + 999) / 1000 ≤ 50 ∧ s.sli.lock = .locked ∧
      seeking.sli.lock = .seeking ∧ (seeking.sli.feedback.get .A).timer = some 50 := by decide +kernel

/-- The link timer at LINK_TIMEOUT_MS and one below, on a load that records holds and on one that does not; the hold time at
the limit of 1,800 s and one millisecond above. -/
theorem witness_LinkAndHoldLimitsActOnTheLoad :
    (linkAt 5000 held).power = .running ∧ (linkAt 5000 held).lm.linkTimer.get .A = some 5000 ∧
    held.pm.working.linkTimeoutMs ≠ 0 ∧ held.pm.working.linkTimeoutMs ≤ 5000 ∧ ¬ held.pm.working.linkTimeoutMs ≤ 4999 ∧
    recordsHolds (load .held).state ∧ loadOf (linkAt 5000 discharging) .A = some (load .discharging) ∧
    recordsHolds (load .discharging).state ∧ (gateOf (linkAt 5000 discharging) .A).mode.discharging = true ∧
    ¬ recordsHolds (load .armed).state ∧ loadOf (linkAt 5000 armed) .A = some (load .armed) ∧
    (let l := fun n : Nat => { load .held with holdMs := n }
     (l 0).state = .held ∧ held.pm.working.holdLimitS ≠ 0 ∧ held.pm.working.holdLimitS * 1000 < (l 1800001).holdMs ∧
      (l 1800000).holdMs ≤ held.pm.working.holdLimitS * 1000 ∧ loadOf (withLoad (l 1800001)) .A = some (l 1800001)) := by
  unfold recordsHolds; decide +kernel

/-- The deferral timer at 30 s and the refill timer at 600 s, and each one millisecond below. -/
theorem witness_RefillTimersMoveTheValve :
    (let s := { ready with bsc := { ready.bsc with state := .deferred, deferralTimer := some 30000 } }
     s.power = .running ∧ s.bsc.state = .deferred ∧ s.bmu.mode = .unready ∧
      s.pm.working.refillDeferMaxS * 1000 ≤ 30000 ∧ ¬ s.pm.working.refillDeferMaxS * 1000 ≤ 29999) ∧
    ready.bsc.state ≠ .deferred ∧
    (let s := { refilling with bsc := { refilling.bsc with refillTimer := some 600000 } }
     s.bsc.state = .opened ∧ s.bmu.mode = .refilling ∧ s.pm.working.refillMaxS * 1000 ≤ 600000 ∧
      ¬ s.pm.working.refillMaxS * 1000 ≤ 599999) ∧ ready.bsc.state ≠ .opened := by decide +kernel

/-- A part with a save in progress. -/
def writing : State := { ready with pm := beginSave ready.pm }

/-- With a save in progress, its timer at 5,000 ms and one below; with none. -/
theorem witness_SaveRunsToItsFirstEnd :
    writing.power = .running ∧ writing.pm.status = .writing ∧ writing.pm.snapshot = some paramDefaults ∧
    ready.pm.status ≠ .writing ∧ StoredImage.cutOff ≠ .written paramDefaults (imageCrc paramDefaults) ∧
    (let s := fun n : Nat => { writing with pm := { writing.pm with saveTimer := some n } }
     (s 5000).pm.status = .writing ∧ (s 5000).pm.saveTimer = some 5000 ∧ (s 4999).pm.saveTimer = some 4999) := by
  decide +kernel

theorem witness_InterlockEdgesActOnTheirSpout :
    discharging.power = .running ∧ loadOf discharging .A = some (load .discharging) ∧
    recordsHolds (load .discharging).state ∧ loadOf ready .A = none ∧ ¬ recordsHolds (load .tailing).state := by
  unfold recordsHolds; decide +kernel

theorem witness_AerationChangeReachesTheLoads :
    discharging.bsc.aerationHigh = true ∧ loadOf discharging .A = some (load .discharging) ∧
    recordsHolds (load .discharging).state ∧
    (let s := { held with
      bsc := { held.bsc with aerationHigh := false }, dba := { held.dba with aerationLow := true, effectiveBudget := 0 } }
     s.bsc.aerationHigh = false ∧ loadOf s .A = some (load .held) ∧ (load .held).state = .held) := by
  unfold recordsHolds; decide +kernel

/-- A part as delivered; a sound image; an image whose values stand outside their ranges. -/
theorem witness_ColdStartSetsColdValues :
    State.reset.pm.image = .neverWritten ∧ State.reset.pm.custodyLock = false ∧ State.reset.pm.status ≠ .writing ∧
    State.reset.pending = [] ∧ paramsSound paramDefaults = true ∧
    paramsSound { paramDefaults with kp := 51 } = false := by decide +kernel

theorem witness_ResetLineAndPowerLossKeepTheStore :
    ready.power = .running ∧ ready.pm.status ≠ .writing ∧ writing.pm.status = .writing ∧
    ({ ready with power := .atRest } : State).power ≠ .running ∧
    answersNext writing .powerLost = true := by decide +kernel

theorem witness_WarmRestartEndsTheLoads : held.power = .running := rfl

/-- Each receive state, a frame's L of 0, 1, 120 and 121, a last CRC byte, and the gap timer at 20 ms and at 19. -/
theorem witness_ReceiverAssemblesFrames :
    let x : PortState := PortState.reset 19200
    let r : List Byte → PortState := fun b => { x with receive := .receiving, buffer := b, gapTimer := some 20 }
    x.receive = .idle ∧ (r []).receive = .receiving ∧ ({ x with receive := .answering } : PortState).receive = .answering ∧
    (([0] : List Byte).headD 0).toNat = 0 ∧ (([121] : List Byte).headD 0).toNat = 121 ∧
    1 ≤ (([120] : List Byte).headD 0).toNat ∧ (([1, 0x12, 9] : List Byte) ++ [9]).length = 1 + 3 ∧
    (r []).gapTimer = some 20 ∧ ({ r [] with gapTimer := some 19 } : PortState).gapTimer = some 19 := by decide +kernel

theorem witness_FrameOnTheLineBecomesItsRequest :
    let c := Instr.openLoad (.bay .A) 17 ref 1000000 100000
    (requestForm c).map (fun f => decide (f.len = f.want)) = some true ∧ c.wf = true ∧
      (PortState.reset 19200).receive = .idle := by decide +kernel

/-- The dispatch port answering RESTART, a bay port answering, and an idle port. -/
theorem witness_RepliesEndAndRatesAreTakenUp :
    let d := { ready with pc := { ready.pc with dispatch := { ready.pc.dispatch with
      receive := .answering, reply := some ⟨0xAE, .ok, []⟩ } } }
    d.power = .running ∧ (portOf d .dispatch).reply = some ⟨0xAE, .ok, []⟩ ∧ (portOf ready (.bay .B)).reply = none ∧
    (portOf ready (.bay .B)).receive = .idle ∧ (portOf d .dispatch).receive ≠ .idle := by decide +kernel

/-- A port that is ANSWERING the request `c`, with or without its reply formed. -/
def answering (c : Instr) (r : Option Reply) : State := { discharging with
  pc := { ready.pc with bay := ready.pc.bay.set .A { ready.pc.bay.a with
    receive := .answering, request := some c, reply := r } } }

/-- The hypothesis `takes` of the statements on requests: the ports of the states that witness them are IDLE; a request in
progress is taken once; and a request that is not taken, before the reply is formed and after. -/
theorem witness_takes :
    (∀ p c, takes p c ready) ∧
    [armed, held, waiting, discharging, tailing, refilling, gravimetric, closingUnder none, dribbling].all
      (fun s => decide (s.pc = ready.pc)) = true ∧
    takes (.bay .A) (.hold (.bay .A) 1) (answering (.hold (.bay .A) 1) none) ∧
    ¬ takes (.bay .A) (.hold (.bay .A) 1) (answering (.start (.bay .A) 1) none) ∧
    ¬ takes (.bay .A) (.hold (.bay .A) 1) (answering (.hold (.bay .A) 1) (some ⟨0x92, .ok, []⟩)) := by
  refine ⟨fun p _ => .inl ?_, by decide +kernel, ?_⟩
  · rcases p with (_ | _ | _) | _ <;> decide
  · unfold takes; decide +kernel

/-- R172, and the worked sequence of chapter 10: HOLD is taken once; its repeat before the reply has been sent is lost, and
after it is answered again. -/
theorem test_repeat_before_the_reply_is_lost :
    let c := Instr.hold (.bay .A) 1
    let r : Reply := ⟨0x92, .ok, []⟩
    after c (answering c none) (fun t => ((loadOf t .A).map Load.state, (portOf t (.bay .A)).reply)) =
      some (some .held, some r) ∧
    after c (answering c (some r)) (fun t => decide (t = answering c (some r))) = some true ∧
    ((after (.replySent (.bay .A)) (answering c (some r)) fun t => reply c (.bay .A) t).join) = some .ok := by
  decide +kernel

/-- The kind bytes next to the known ranges, and requests that fail each later check. -/
theorem witness_FormChecksRefuseInOrder :
    ([0x0F, 0x17, 0x1F, 0x30, 0xFF] : List Byte).all (fun k => decide (k.toNat < 0x10 ∨ 0x16 < k.toNat ∧ k.toNat < 0x20 ∨
      0x2F < k.toNat)) = true ∧
    (requestForm (.start .dispatch 1)).map Form.bay = some true ∧
    (requestForm (.binStatus (.bay .A) 1)).map Form.bay = some false ∧
    (requestForm (.start (.bay .A) 2)).map (fun f => decide (f.len ≠ f.want)) = some true ∧
    (requestForm (.openLoad (.bay .A) 17 ref 9999 0)).map Form.formats = some false ∧
    (requestForm (.postOrder .dispatch 18 ref 10000 8 0)).map Form.formats = some false := by decide +kernel

/-- A target of exactly 10,000 g and a rate of exactly 400,000 g/s. -/
theorem witness_OpenLoadReservesAndFills :
    ready.power = .running ∧ printable ref = true ∧ massField 10000 = true ∧ (400000 : BitVec 32).toNat ≤ 400000 ∧
    loadOf ready .A = none ∧ (gateOf ready .A).mode ≠ .fault ∧ ready.bmu.zero.state ≠ .running ∧
    ready.ots.tickets.length + ready.ots.placesHeld < 16 ∧ ready.pm.working.minRate ≤ ready.pm.working.budget ∧
    findOrder ready ref = some ⟨ref, 60000000, .all true, 100000, 0, 0, .opened⟩ ∧
    reply (.openLoad (.bay .A) 17 ref 10000 400000) (.bay .A) ready = some .ok := by decide +kernel

def orders (xs : List Order) : State := { ready with ots := { ready.ots with orders := xs } }

/-- One state for each of the ten refusals of OPEN_LOAD, in their order. -/
theorem witness_OpenLoadRefusesInOrder :
    let c := Instr.openLoad (.bay .A) 17 ref 1000000 100000
    let o : Order := ⟨ref, 60000000, .all true, 100000, 0, 0, .opened⟩
    let states := [
      held, { ready with gate := .all { Gate.reset with mode := .fault } },
      { ready with bmu := { ready.bmu with zero := { ZeroOp.idle with state := .running } } },
      { ready with ots := { ready.ots with placesHeld := 16 } },
      { ready with pm := { ready.pm with working := { paramDefaults with budget := 9999 } } },
      orders [], orders [{ o with state := .cancelled }], orders [{ o with bays := ⟨false, true, true⟩ }],
      orders [{ o with state := .filled }], orders [{ o with loaded := 59990001 }]]
    states.map (reply c (.bay .A)) = [some .spoutInUse, some .spoutFault, some .busy, some .ticketsFull,
      some .noBudget, some .noOrder, some .orderClosed, some .wrongBay, some .orderExhausted,
      some .orderExhausted] := by decide +kernel

/-- START and RESUME with nothing in the way, RESUME with INTERLOCK held and the line high again, and a grant that can be
had; a request with a supply condition at the DBA, and one of a spout that has its place. -/
theorem witness_StartAndResumeEnterWaiting :
    armed.power = .running ∧ loadOf armed .A = some (load .armed) ∧ armed.lm.interlock.get .A = true ∧
    armed.lm.aerationLow = false ∧ armed.lm.starved = false ∧ (sensorOf armed .A).demand = false ∧
    (armed.sli.feedback.get .A).state = .fresh ∧
    loadOf held .A = some (load .held) ∧ (load .held).causes.aeration = false ∧ (load .held).causes.starve = false ∧
    (load .held).causes.sensor = false ∧ (load .held).causes.sense = false ∧
    (load .held).causes.interlock = false ∧ held.lm.interlock.get .A = true ∧
    armed.dba.allocation.get .A = none ∧ armed.dba.queue = [] ∧ armed.dba.aerationLow = false ∧
    armed.dba.starved = false ∧ (armed.sli.impact.get .A).state = .fresh ∧
    (let s := { armed with dba := { armed.dba with starved := true, effectiveBudget := 0 } }
     after (.start (.bay .A) 1) s (fun t => (t.dba.queue, (loadOf t .A).map fun l => (l.state, l.causes.starve))) =
      some ([], some (.held, true))) ∧
    (let s := { armed with dba := { armed.dba with queue := [⟨.A, 1, 100000⟩] } }
     .A ∈ s.dba.queue.map QueuePlace.spout) := by decide +kernel

theorem witness_StartAndResumeAnswerTheConditions :
    loadOf armed .A = some (load .armed) ∧
    ({ armed with lm := { armed.lm with starved := true } } : State).lm.starved = true ∧
    (let l := { load .held with causes := { Causes.none with bay := true, starve := true } }
     loadOf (withLoad l) .A = some l ∧ l.state = .held ∧ l.causes.starve = true) ∧
    loadOf ready .A = none ∧ ¬ recordsHolds (load .armed).state ∧ loadOf tailing .A = some (load .tailing) := by
  unfold recordsHolds; decide +kernel

theorem witness_StartIsGrantedAtOnce :
    armed.power = .running ∧ loadOf armed .A = some (load .armed) ∧ armed.lm.interlock.get .A = true ∧
    armed.lm.aerationLow = false ∧ armed.lm.starved = false ∧ (sensorOf armed .A).demand = false ∧
    (armed.sli.feedback.get .A).state = .fresh ∧ (armed.sli.impact.get .A).state = .fresh ∧
    armed.dba.aerationLow = false ∧ armed.dba.starved = false ∧ armed.dba.queue = [] ∧
    armed.dba.allocation.get .A = none ∧ (gateOf armed .A).mode = .closed ∧
    0 < min (load .armed).rate armed.pm.working.budget ∧
    rateOf armed.dba .A + rateOf armed.dba .B + rateOf armed.dba .C + 100000 ≤ armed.dba.effectiveBudget := by
  decide +kernel

/-- A DISCHARGING load with an open gate and with a pending grant, a WAITING load and a HELD one. -/
theorem witness_HoldHoldsTheLoad :
    discharging.power = .running ∧ loadOf discharging .A = some (load .discharging) ∧
    recordsHolds (load .discharging).state ∧ (gateOf discharging .A).mode.discharging = true ∧
    (let s := closingUnder (some ⟨1, 100000⟩)
     loadOf s .A = some (load .discharging) ∧ (gateOf s .A).mode.discharging = false ∧
      (gateOf s .A).pendingGrant.isSome = true) ∧
    loadOf waiting .A = some (load .waiting) ∧ recordsHolds (load .waiting).state ∧
    loadOf held .A = some (load .held) ∧ recordsHolds (load .held).state := by
  unfold recordsHolds; decide +kernel

/-- Both ways a DISCHARGING load's gate can stand, and the three states that end at once. -/
theorem witness_FinishEndsOrClosesWithTail :
    loadOf discharging .A = some (load .discharging) ∧ (gateOf discharging .A).mode.discharging = true ∧
    (let g := { Gate.reset with pendingGrant := some ⟨1, 100000⟩ }
     g.mode = .closing ∧ g.pendingGrant.isSome = true) ∧
    loadOf armed .A = some (load .armed) ∧ loadOf waiting .A = some (load .waiting) ∧
    loadOf held .A = some (load .held) := by decide +kernel

/-- A feedback of exactly 20 per-mille, and of 21. -/
theorem witness_ClearFaultChecksTheFeedback :
    let s := fun v : Int => { ready with sli := { ready.sli with feedback := .all ⟨.fresh, v, some 0⟩ } }
    (s 20).power = .running ∧ feedbackShut (s 20) .A = true ∧ feedbackShut (s 21) .A = false := by decide +kernel

theorem witness_StatusRepliesChangeNothing :
    held.power = .running ∧ (load .held).order.length = 8 ∧ loadOf ready .A = none ∧
    ((0x01 : Byte).toNat, ParamId.framePeriodUs) ∈ paramTable ∧ ((0x80 : Byte).toNat, ParamId.portBaud) ∈ paramTable ∧
    paramsSound held.pm.working = true ∧ paramOfId 0x04 = none := by decide +kernel

/-- A tolerance equal to the mass and one below it; a table with the reference, a full one and one with room. -/
theorem witness_OrderRequestsChangeTheTable :
    printable ref = true ∧ massField 10000 = true ∧ (10000 : BitVec 32).toNat ≤ (10000 : BitVec 32).toNat ∧
    (9999 : BitVec 32).toNat < (10000 : BitVec 32).toNat ∧ (7 : Byte).toNat ≤ 7 ∧ (findOrder ready ref).isSome = true ∧
    findOrder (orders []) ref = none ∧
    24 ≤ (orders (List.replicate 24 ⟨[], 1, .all true, 0, 0, 0, .opened⟩)).ots.orders.length ∧
    findOrder (orders (List.replicate 24 ⟨[], 1, .all true, 0, 0, 0, .opened⟩)) ref = none ∧
    (findOrder held ref).map (fun o => decide (0 < o.reserved)) = some true := by decide +kernel

theorem witness_TicketRequestsActOnTheHead :
    let k : Ticket := ⟨65535, ref, .A, 1, 1000000, 20000, 0, .under, .finished, 0, 0, false, none⟩
    let s := { ready with ots := { ready.ots with tickets := [k] } }
    s.power = .running ∧ s.ots.tickets = k :: [] ∧ ready.ots.tickets = [] ∧ k.number = (65535 : BitVec 16).toNat ∧
      k.number ≠ (1 : BitVec 16).toNat := by decide +kernel

/-- A value at the end of its range and one past it; disordered levels; a locked, a busy and a free parameter. -/
theorem witness_SetParameterChecksInOrder :
    paramOfId 0x00 = none ∧ ((0x52 : Byte).toNat, ParamId.kp) ∈ paramTable ∧
    paramInRange .kp 50 = true ∧ paramInRange .kp 51 = false ∧
    paramInRange .lLow 4000000 = true ∧ levelsOrdered (paramSet paramDefaults .lLow 4000000) = false ∧
    paramLocked .binSpan = true ∧ paramBusy held (.spoutGain .A) = true ∧ paramBusy held .kp = false := by
  decide +kernel

/-- The WAITING load's rate does not fit the budget. -/
def poor : State := { waiting with
  dba := { waiting.dba with effectiveBudget := 10000 }
  pm := { waiting.pm with working := { paramDefaults with budget := 10000 } } }

theorem poor_queueInv : QueueInv poor :=
  ⟨waiting_queueInv.once, waiting_queueInv.waiting, waiting_queueInv.noClaim⟩

/-- With no load and no allocation; a gain beside a load on another spout, a policy and a span with a load open, a BUDGET
with `poor`'s waiting load, and a role with a zero RUNNING. -/
theorem witness_SetParameterReachesItsOwner :
    ready.power = .running ∧ ((0x42 : Byte).toNat, ParamId.budget) ∈ paramTable ∧ paramInRange .budget 400000 = true ∧
    (∀ i ∈ Spout.all, loadOf ready i = none ∧ ready.dba.allocation.get i = none) ∧
    ready.bmu.zero.state ≠ .running ∧ ready.pm.custodyLock = false ∧
    (let c := fun (id : Byte) (v : BitVec 32) => Instr.setParameter .dispatch 6 id v
     let zeroing := { ready with bmu := { ready.bmu with zero := { ZeroOp.idle with state := .running } } }
     loadOf discharging .A = some (load .discharging) ∧ loadOf discharging .B = none ∧
     reply (c 0x24 65772) .dispatch discharging = some .ok ∧ reply (c 0x31 0) .dispatch discharging = some .ok ∧
     reply (c 0x11 2570) .dispatch discharging = some .ok ∧ reply (c 0x13 20) .dispatch ready = some .ok ∧
     poor.dba.queue = [⟨.A, 1, 100000⟩] ∧ poor.dba.allocation.get .A = none ∧ poor.dba.aerationLow = false ∧
     poor.dba.starved = false ∧ (poor.sli.impact.get .A).state = .fresh ∧
     after (c 0x42 240000) poor (·.dba.allocation.a) = some (some ⟨1, 100000⟩) ∧
     after (c 0x02 1) zeroing (·.bmu.zero.state) = some .aborted) ∧
    ((0x02 : Byte).toNat, ParamId.syncRole) ∈ paramTable ∧ ((0x13 : Byte).toNat, ParamId.rateSpan) ∈ paramTable ∧
    ((0x20 : Byte).toNat, ParamId.spoutZero .A) ∈ paramTable ∧
    ((0x31 : Byte).toNat, ParamId.sensorPolicy) ∈ paramTable := by decide +kernel

theorem witness_ZeroLockAndRestartRequests :
    ready.pm.custodyLock = false ∧ ready.bmu.mode ≠ .blind ∧ ready.bmu.zero.state ≠ .running ∧
    ready.sli.refillCommand = false ∧ refilling.sli.refillCommand = true ∧ State.reset.bmu.mode = .blind ∧
    (let s := { ready with
      bmu := { ready.bmu with zero := { ZeroOp.idle with state := .running } }
      bsc := { ready.bsc with state := .suspended, zeroRecord := true } }
     reply (.setCustodyLock .dispatch 1) .dispatch s = some .ok ∧ reply (.zeroBin .dispatch 1) .dispatch s = some .busy) := by
  decide +kernel

theorem witness_ClearRequestsClear :
    let s := { ready with bsc := { ready.bsc with state := .supplyFault, supplyFault := true } }
    s.power = .running ∧ s.bsc.supplyFault = true ∧ ready.bsc.supplyFault = false := by decide +kernel

end Sys2Proof.Tests
end

section
/-! What the application of a window report does (R62, R63, R67, R71, R132), written as one record of the next state,
whose pieces are functions of one spout's credit, load and pending part; and O26, which reads that record. -/

namespace Sys2Proof.Machine

/-! ### One spout of a report -/

/-- The grams that a credit adds to the load in its slot: none where there is no credit or the load it names is gone. -/
def matchedGrams : Option Credit → Option Load → Option Nat
  | some c, some l => if l.number = c.load then some c.grams else none
  | _, _ => none

/-- The grams that a credit returns to the unassigned account (R63, R71). -/
def returnedGrams (gravimetric : Bool) (credit : Option Credit) (load : Option Load) : Nat :=
  match credit with
  | some c => if gravimetric = true ∧ matchedGrams (some c) load = none then c.grams else 0
  | none => 0

/-- A load after the credit matched to it, if there is one (R132). -/
def Load.creditedBy (gravimetric : Bool) (grams : Option Nat) (l : Load) : Load :=
  match grams with
  | some g => l.credited gravimetric g
  | none => l

/-- The load in the slot of spout `i` after the report's credit for it. -/
def loadAfterCredit (r : WindowReport) (i : Spout) (load : Option Load) : Option Load :=
  load.map (Load.creditedBy r.gravimetric (matchedGrams (r.credits.get i) load))

/-- A pending part after a report's application, with the reports in `rest` still waiting (R67, log 16). -/
def pendingAfterCredit (rest : List WindowReport) (i : Spout) : Option Credit → Option Pending → Option Pending
  | some c, some p => if p.load = c.load ∧ namedLater rest i c.load = false then none else some p
  | _, pending => pending

theorem namedLater_eq_false_iff (rest : List WindowReport) (i : Spout) (n : Nat) :
    namedLater rest i n = false ↔ ∀ later ∈ rest, ∀ c, later.credits.get i = some c → c.load ≠ n := by
  simp only [namedLater, List.any_eq_false]
  refine forall₂_congr fun later _ => ?_
  cases later.credits.get i <;> simp

theorem exists_of_matchedGrams_ne_none {credit : Option Credit} {load : Option Load}
    (h : matchedGrams credit load ≠ none) : ∃ c l, credit = some c ∧ load = some l ∧ l.number = c.load := by
  cases credit with
  | none => exact absurd rfl h
  | some c =>
    cases load with
    | none => exact absurd rfl h
    | some l => exact ⟨c, l, rfl, rfl, by simpa [matchedGrams] using h⟩

theorem loadAfterCredit_of_unmatched {r : WindowReport} {i : Spout} {load : Option Load}
    (h : matchedGrams (r.credits.get i) load = none) : loadAfterCredit r i load = load := by
  rw [loadAfterCredit, h]
  exact Option.map_id'

/-- A report's application covers the pending part of the load it names, unless a later report names that load too. -/
theorem pendingAfterCredit_cases (rest : List WindowReport) (i : Spout) (credit : Option Credit)
    (pending : Option Pending) :
    let covered := ∃ c p, credit = some c ∧ pending = some p ∧ p.load = c.load ∧
      ∀ later ∈ rest, ∀ c', later.credits.get i = some c' → c'.load ≠ c.load
    (covered → pendingAfterCredit rest i credit pending = none) ∧
    (¬ covered → pendingAfterCredit rest i credit pending = pending) := by
  cases credit with
  | none => simp [pendingAfterCredit]
  | some c =>
    cases pending with
    | none => simp [pendingAfterCredit]
    | some p => simp [pendingAfterCredit, namedLater_eq_false_iff]

/-- The newest report leaves no pending part of the load it names. -/
theorem load_ne_of_pendingAfterCredit_nil {i : Spout} {c : Credit} {pending : Option Pending} {p : Pending}
    (h : pendingAfterCredit [] i (some c) pending = some p) : p.load ≠ c.load := by
  cases pending with
  | none => simp [pendingAfterCredit] at h
  | some q =>
    simp only [pendingAfterCredit, namedLater, List.any_nil, and_true] at h
    split at h
    · cases h
    · next hq => cases h; exact hq

/-! ### One spout of a report in the state -/

theorem addUnassigned_zero {s : State} (h : s.oau.unassigned ≤ maxUnassigned) : addUnassigned 0 s = s := by
  simp only [addUnassigned, satAdd, Nat.add_zero, Nat.min_eq_right h]
  rfl

theorem addUnassigned_unassigned_le (g : Nat) (s : State) : (addUnassigned g s).oau.unassigned ≤ maxUnassigned :=
  Nat.min_le_left _ _

@[simp] theorem loadOf_addUnassigned (g : Nat) (s : State) (i : Spout) :
    loadOf (addUnassigned g s) i = loadOf s i := rfl

theorem setLoad_addUnassigned (g : Nat) (s : State) (i : Spout) (l : Option Load) :
    setLoad (addUnassigned g s) i l = addUnassigned g (setLoad s i l) := rfl

/-- The account saturates, so grams added one after another are grams added together. -/
theorem addUnassigned_addUnassigned (g h : Nat) (s : State) :
    addUnassigned h (addUnassigned g s) = addUnassigned (g + h) s := by
  have sat : satAdd maxUnassigned (satAdd maxUnassigned s.oau.unassigned g) h =
      satAdd maxUnassigned s.oau.unassigned (g + h) := by
    simp only [satAdd]; omega
  simp only [addUnassigned, State.withOau_oau, sat]
  rfl

theorem setLoad_loadOf (s : State) (i : Spout) : setLoad s i (loadOf s i) = s := by
  simp only [setLoad, loadOf, PerSpout.set_get]
  rfl

/-- A spout's credit changes its slot and the unassigned account, each by a function of the credit and the load. -/
theorem applyCredit_eq (r : WindowReport) (i : Spout) {s : State} (h : s.oau.unassigned ≤ maxUnassigned) :
    applyCredit r i s =
      addUnassigned (returnedGrams r.gravimetric (r.credits.get i) (loadOf s i))
        (setLoad s i (loadAfterCredit r i (loadOf s i))) := by
  by_cases hm : matchedGrams (r.credits.get i) (loadOf s i) = none
  · rw [loadAfterCredit_of_unmatched hm, setLoad_loadOf]
    unfold applyCredit
    cases hc : r.credits.get i with
    | none => exact (addUnassigned_zero h).symm
    | some c =>
      have gone : returnedGrams r.gravimetric (some c) (loadOf s i) = if r.gravimetric then c.grams else 0 := by
        simp [returnedGrams, ← hc, hm]
      rw [gone]
      cases hl : loadOf s i with
      | none => cases r.gravimetric <;> simp [addUnassigned_zero h]
      | some l =>
        have other : l.number ≠ c.load := by simpa [hc, hl, matchedGrams] using hm
        cases r.gravimetric <;> simp [other, addUnassigned_zero h]
  · obtain ⟨c, l, hc, hl, hn⟩ := exists_of_matchedGrams_ne_none hm
    have credited : loadAfterCredit r i (loadOf s i) = some (l.credited r.gravimetric c.grams) := by
      simp [loadAfterCredit, hc, hl, matchedGrams, hn, Load.creditedBy]
    have none_back : returnedGrams r.gravimetric (r.credits.get i) (loadOf s i) = 0 := by
      rw [hc] at hm ⊢
      simp [returnedGrams, hm]
    rw [none_back, credited, addUnassigned_zero (by exact h)]
    simp [applyCredit, hc, hl, hn]

/-- What a report's application tells the OAU of one spout changes that spout's pending part alone. -/
theorem oauApplied_eq (r : WindowReport) (rest : List WindowReport) (i : Spout) (s : State) :
    oauApplied r rest i s = s.withOau { s.oau with
      pending := s.oau.pending.set i (pendingAfterCredit rest i (r.credits.get i) (s.oau.pending.get i)) } := by
  have unchanged : ∀ x, s.oau.pending.get i = x →
      s = s.withOau { s.oau with pending := s.oau.pending.set i x } := by
    rintro x rfl
    rw [PerSpout.set_get]
    rfl
  unfold oauApplied
  cases hc : r.credits.get i with
  | none => exact unchanged _ rfl
  | some c =>
    cases hp : s.oau.pending.get i with
    | none => exact unchanged _ hp
    | some p =>
      by_cases hcov : p.load = c.load ∧ namedLater rest i c.load = false
      · simp only [pendingAfterCredit, if_pos hcov]
      · simp only [pendingAfterCredit, if_neg hcov]
        exact unchanged _ hp

/-! ### The report -/

/-- The three credits of a report together: each slot after its credit, and the credits of loads that are gone. -/
theorem eachSpout_applyCredit (r : WindowReport) {s : State} (h : s.oau.unassigned ≤ maxUnassigned) :
    let returned := fun i => returnedGrams r.gravimetric (r.credits.get i) (loadOf s i)
    eachSpout (applyCredit r) s = addUnassigned (returned .A + returned .B + returned .C)
      (s.withLm { s.lm with slot := .of fun i => loadAfterCredit r i (loadOf s i) }) := by
  unfold eachSpout
  rw [applyCredit_eq r .A h, applyCredit_eq r .B (addUnassigned_unassigned_le _ _),
    applyCredit_eq r .C (addUnassigned_unassigned_le _ _)]
  simp only [setLoad_addUnassigned, addUnassigned_addUnassigned, loadOf_addUnassigned, loadOf_setLoad, reduceCtorEq,
    if_false]
  rfl

theorem eachSpout_oauApplied (r : WindowReport) (rest : List WindowReport) (s : State) :
    eachSpout (oauApplied r rest) s = s.withOau { s.oau with
      pending := .of fun i => pendingAfterCredit rest i (r.credits.get i) (s.oau.pending.get i) } := by
  simp only [eachSpout, oauApplied_eq]
  rfl

/-- The state after the oldest report `r` has been applied and the reports in `rest` are left. -/
theorem applyReport_cons {s : State} {r : WindowReport} {rest : List WindowReport} (hr : s.oau.reports = r :: rest)
    (hu : s.oau.unassigned ≤ maxUnassigned) :
    let returned := fun i => returnedGrams r.gravimetric (r.credits.get i) (loadOf s i)
    applyReport s = { s with
      oau := { s.oau with
        reports := rest
        unassigned := satAdd maxUnassigned s.oau.unassigned (returned .A + returned .B + returned .C)
        pending := .of fun i => pendingAfterCredit rest i (r.credits.get i) (s.oau.pending.get i) }
      lm := { s.lm with slot := .of fun i => loadAfterCredit r i (loadOf s i) } } := by
  simp only [applyReport, hr]
  rw [eachSpout_applyCredit r (by exact hu), eachSpout_oauApplied]
  rfl

theorem loadOf_applyReport {s : State} {r : WindowReport} {rest : List WindowReport}
    (hr : s.oau.reports = r :: rest) (hu : s.oau.unassigned ≤ maxUnassigned) (i : Spout) :
    loadOf (applyReport s) i = loadAfterCredit r i (loadOf s i) := by
  rw [applyReport_cons hr hu]
  exact PerSpout.get_of _ i

theorem pending_applyReport {s : State} {r : WindowReport} {rest : List WindowReport}
    (hr : s.oau.reports = r :: rest) (hu : s.oau.unassigned ≤ maxUnassigned) (i : Spout) :
    (applyReport s).oau.pending.get i =
      pendingAfterCredit rest i (r.credits.get i) (s.oau.pending.get i) := by
  rw [applyReport_cons hr hu]
  exact PerSpout.get_of _ i

theorem exec_applyWindowReport {s : State} (h : s.power = .running) :
    exec .applyWindowReport s = .next (applyReport s) := if_pos h

/-- A load whose credit and pending part the newest report names: its provisional mass moves by the one less the other,
since the application takes the pending part and leaves the open part (R67, R68). -/
theorem provisional_applyReport {s : State} {r : WindowReport} {i : Spout} {l x : Load} {c : Credit} {p : Pending}
    (hr : s.oau.reports = [r]) (hu : s.oau.unassigned ≤ maxUnassigned) (hl : loadOf s i = some l)
    (hc : r.credits.get i = some c) (hn : c.load = l.number) (hp : s.oau.pending.get i = some p)
    (hpl : p.load = l.number) (hd : l.d + c.grams ≤ maxU32) (hx : loadOf (applyReport s) i = some x) :
    provisional (applyReport s) i x = provisional s i l + (c.grams : Int) - p.mass := by
  have credited : x = l.credited r.gravimetric c.grams := by
    rw [loadOf_applyReport hr hu, hl] at hx
    simpa [loadAfterCredit, hc, matchedGrams, hn, Load.creditedBy] using hx.symm
  have d_after : x.d = l.d + c.grams := by rw [credited]; exact Nat.min_eq_right hd
  have taken : (applyReport s).oau.pending.get i = none := by
    rw [pending_applyReport hr hu, hc, hp]
    simp [pendingAfterCredit, hn, hpl, namedLater]
  have open_stands : (applyReport s).oau.openPart = s.oau.openPart := by rw [applyReport_cons hr hu]
  simp only [provisional, pendingFor, taken, hp, hpl, open_stands, d_after, if_true]
  omega

/-- Settles O26: the next state is the record of `applyReport_cons`, and each clause reads one piece of it. -/
theorem windowReportIsApplied : Obligations.WindowReportIsApplied := by
  intro s hs
  rw [exec_applyWindowReport hs]
  refine ⟨fun hr => by simp [applyReport, hr], ?_⟩
  intro r rest hr hu named returned
  have hnamed : ∀ i, named i = matchedGrams (r.credits.get i) (loadOf s i) := fun i => rfl
  have hreturned : ∀ i, returned i = returnedGrams r.gravimetric (r.credits.get i) (loadOf s i) := by
    intro i
    simp only [returned, hnamed]
    cases r.credits.get i <;> rfl
  refine ⟨applyReport s, rfl, ?frame, ?loads, ?account, ?pending, ?newest, ?provisional⟩
  case frame => rw [applyReport_cons hr hu]
  case loads =>
    intro i
    rw [loadOf_applyReport hr hu, hnamed]
    rfl
  case account =>
    rw [applyReport_cons hr hu, hreturned, hreturned, hreturned]
    rfl
  case pending =>
    intro i
    rw [pending_applyReport hr hu]
    exact pendingAfterCredit_cases rest i _ _
  case newest =>
    rintro rfl i c hc p hp
    rw [pending_applyReport hr hu, hc] at hp
    exact load_ne_of_pendingAfterCredit_nil hp
  case provisional =>
    rintro rfl i l x c p hl hc hn hp hpl hd hx
    exact provisional_applyReport hr hu hl hc hn hp hpl hd hx

end Sys2Proof.Machine
end

section
/-! The slots of the sense link as the statements spell them (R3, R12, R16, R180), and the three commands of chapter 1 that
stop at the SLI: a sync (O15), a malformed or candidate frame (O16) and a duplicate (O17). -/

namespace Sys2Proof.Machine

/-! ### Slots and samples -/

theorem slot_eq_append (x : Slot) : x = x.extractLsb' 8 24 ++ x.extractLsb' 0 8 := by
  apply BitVec.eq_of_toNat_eq
  rw [BitVec.toNat_append, ← Nat.shiftLeft_add_eq_or_of_lt (BitVec.isLt _)]
  simp only [BitVec.extractLsb'_toNat, Nat.shiftRight_eq_div_pow, Nat.shiftLeft_eq]
  have := x.isLt
  omega

theorem slotOf_toNat (n : Nat) : (slotOf n).toNat = n % 2 ^ 24 * 256 := by
  rw [slotOf, BitVec.toNat_append, ← Nat.shiftLeft_add_eq_or_of_lt (BitVec.isLt _)]
  simp [Nat.shiftLeft_eq]

@[simp] theorem slotOf_sampleBits (n : Nat) : (slotOf n).extractLsb' 8 24 = BitVec.ofNat 24 n := by
  apply BitVec.eq_of_toNat_eq
  simp only [BitVec.extractLsb'_toNat, slotOf_toNat, BitVec.toNat_ofNat, Nat.shiftRight_eq_div_pow]
  omega

@[simp] theorem slotOf_conditionBits (n : Nat) : (slotOf n).extractLsb' 0 8 = 0 := by
  apply BitVec.eq_of_toNat_eq
  simp [BitVec.extractLsb'_toNat, slotOf_toNat]

theorem outboundSlot_eq_slotOf (n : Nat) : outboundSlot n = slotOf n := by
  apply BitVec.eq_of_toNat_eq
  simp only [outboundSlot, slotOf_toNat, BitVec.toNat_ofNat]
  omega

theorem toInt_ofNat_24 {n : Nat} (h : n ≤ 255) : (BitVec.ofNat 24 n).toInt = n := by
  rw [BitVec.toInt_eq_toNat_of_lt] <;> simp only [BitVec.toNat_ofNat] <;> omega

/-- The check of slot 7 (R3) accepts exactly the well-formed frames. -/
theorem frameSequence_eq_some_iff (f : InFrame) (n : Nat) : frameSequence f = some n ↔ wellFormed f n := by
  constructor
  · intro h
    simp only [frameSequence, within, Option.ite_none_right_eq_some, Option.some.injEq, Bool.and_eq_true,
      decide_eq_true_iff] at h
    obtain ⟨⟨hc, hlo, hhi⟩, rfl⟩ := h
    rw [slotSample] at *
    have cond : f.sequence.extractLsb' 0 8 = 0 := BitVec.eq_of_toNat_eq hc
    have sample : BitVec.ofNat 24 (f.sequence.extractLsb' 8 24).toInt.toNat = f.sequence.extractLsb' 8 24 := by
      apply BitVec.eq_of_toInt_eq
      rw [toInt_ofNat_24 (by omega)]
      omega
    exact ⟨by omega, by rw [slotOf, sample, ← cond]; exact slot_eq_append f.sequence⟩
  · rintro ⟨hn, hs⟩
    simp [frameSequence, slotCondition, slotSample, within, hs, toInt_ofNat_24 hn, hn]

theorem frameSequence_eq_none {f : InFrame} (h : ∀ n ≤ 255, f.sequence ≠ slotOf n) : frameSequence f = none := by
  cases hf : frameSequence f with
  | none => rfl
  | some n =>
    obtain ⟨hn, hs⟩ := (frameSequence_eq_some_iff f n).mp hf
    exact absurd hs (h n hn)

theorem goodSample_eq (x : Slot) : goodSample x = sampleOf x := by
  simp only [goodSample, sampleOf, slotCondition, slotSample, ← BitVec.toNat_inj]
  rfl

theorem goodFeedback_eq (x : Slot) : goodFeedback x = feedbackSample x := by
  unfold goodFeedback feedbackSample
  rw [← goodSample_eq]
  by_cases h : slotCondition x = 0
  · simp [goodSample, h, within]
  · simp [goodSample, h]

theorem Channel.take_eq (c : Channel) (good : Option Int) : c.take good = channelAfter good c := by
  cases good <;> rfl

/-! ### What the commands of the link come to -/

theorem exec_frameSync {s : State} (h : s.power = .running) :
    exec .frameSync s =
      .next (if (working s).syncRole = .follower ∧ s.sli.frameInProgress then earlySync s else beginFrame s) := if_pos h

theorem exec_earlySync {s : State} (h : s.power = .running) :
    exec .earlySync s = .next (if (working s).syncRole = .follower then earlySync s else s) := if_pos h

theorem exec_frameArrival {s : State} (h : s.power = .running) (f : InFrame) (o : Sched) :
    exec (.frameArrival f o) s = .next (frameArrives f o s) := if_pos h

/-- A malformed frame is counted and goes no further (R3). -/
theorem frameArrives_malformed {f : InFrame} (h : frameSequence f = none) (o : Sched) (s : State) :
    frameArrives f o s = countFrameError (s.withSli { s.sli with frameInProgress := false }) := by
  simp [frameArrives, h]

/-- A well-formed frame in SEEKING is judged against the candidate (R6). -/
theorem frameArrives_seeking {f : InFrame} {n : Nat} (hf : wellFormed f n) {s : State} (h : s.sli.lock = .seeking)
    (o : Sched) :
    frameArrives f o s = seekingFrame f n o (s.withSli { s.sli with frameInProgress := false }) := by
  simp [frameArrives, (frameSequence_eq_some_iff f n).mpr hf, h]

/-- A well-formed frame in LOCKED is judged against the last number (R8 to R11). -/
theorem frameArrives_locked {f : InFrame} {n m : Nat} (hf : wellFormed f n) {s : State} (h : s.sli.lock = .locked)
    (hm : s.sli.lastSeq = some m) (o : Sched) :
    frameArrives f o s = lockedFrame f n m o (s.withSli { s.sli with frameInProgress := false }) := by
  simp [frameArrives, (frameSequence_eq_some_iff f n).mpr hf, h, hm]

theorem outboundSlots_eq (x : Sli) : outboundSlots x =
    [slotOf x.gateCommand.a, slotOf x.gateCommand.b, slotOf x.gateCommand.c,
      slotOf (if x.refillCommand then 1 else 0), slotOf 0, slotOf 0, slotOf 0, slotOf 0] := by
  simp only [outboundSlots, outboundSlot_eq_slotOf]
  rfl

/-- An early sync: the partial frame is counted, a candidate dropped, and a frame begun (R4). -/
theorem earlySync_eq (s : State) : earlySync s = { s with sli := { s.sli with
    frameErrors := min 65535 (s.sli.frameErrors + 1)
    lastSeq := if s.sli.lock = .seeking then none else s.sli.lastSeq
    lockTimer := if s.sli.lock = .seeking then none else s.sli.lockTimer
    frameInProgress := true, outbound := outboundSlots s.sli } } := by
  cases h : s.sli.lock <;>
    simp [earlySync, countFrameError, beginFrame, State.withSli, h, satAdd, outboundSlots]

/-- Settles O15: a sync is `beginFrame`, an early one `earlySync`, and both take the outbound slots as they stand. -/
theorem syncBeginsAFrame : Obligations.SyncBeginsAFrame := by
  intro s hs
  simp only [exec_frameSync hs, exec_earlySync hs, earlySync_eq, ← outboundSlots_eq]
  refine ⟨fun h => ?begins, fun h => ⟨?early, fun hp => ?unfinished⟩, fun h => ?master⟩
  case begins =>
    rw [if_neg]
    · rfl
    · rintro ⟨hf, hp⟩
      rcases h with h | h
      · exact absurd (h.symm.trans hf) nofun
      · exact absurd (h.symm.trans hp) nofun
  case early => exact congrArg _ (if_pos h)
  case unfinished => exact congrArg _ (if_pos ⟨h, hp⟩)
  case master => rw [if_neg (by rw [working, h]; exact nofun)]

/-- Settles O16: a malformed frame stops at slot 7's check, and a candidate at the comparison of numbers. -/
theorem malformedAndCandidateFramesGoNoFurther : Obligations.MalformedAndCandidateFramesGoNoFurther := by
  refine ⟨?malformed, ?silent, ?candidate⟩
  case malformed =>
    intro f o s hs hf
    rw [exec_frameArrival hs, frameArrives_malformed (frameSequence_eq_none hf)]
    rfl
  case silent =>
    intro n hn h
    have condition : (BitVec.allOnes 32).extractLsb' 0 8 = 0 := h ▸ slotOf_conditionBits n
    exact absurd condition (by decide)
  case candidate =>
    intro f o s n hs hl hf hc
    rw [exec_frameArrival hs, frameArrives_seeking hf hl]
    cases hq : s.sli.lastSeq with
    | none => simp [seekingFrame, takeSequence, State.withSli, hq]
    | some c => simp [seekingFrame, takeSequence, State.withSli, hq, hc c hq]

/-- Settles O17: the held number again makes a gap of 255, which only counts one missed frame (R9). -/
theorem duplicateFrameIsDiscarded : Obligations.DuplicateFrameIsDiscarded := by
  intro f o s n hs hl _ hm hf
  have gap : gapOf n n = 255 := by unfold gapOf; omega
  rw [exec_frameArrival hs, frameArrives_locked hf hl hm, lockedFrame, gap]
  rfl

end Sys2Proof.Machine
end

section
/-! The values after a restart: the state after reset meets each invariant (O14), and a cold start gives every block its
cold values (O38). -/

namespace Sys2Proof.Machine

/-! ### Reset -/

@[simp] theorem loadOf_reset (i : Spout) : loadOf State.reset i = none := PerSpout.get_all none i

@[simp] theorem gateOf_reset (i : Spout) : gateOf State.reset i = .reset := PerSpout.get_all Gate.reset i

@[simp] theorem sensorOf_reset (i : Spout) : sensorOf State.reset i = .reset := PerSpout.get_all Sensor.reset i

@[simp] theorem latchOf_reset (i : Spout) : latchOf State.reset i = .clear := PerSpout.get_all FaultLatch.clear i

@[simp] theorem portOf_reset (p : Port) : portOf State.reset p = .reset 19200 := by
  cases p with
  | bay i => exact PerSpout.get_all (PortState.reset 19200) i
  | dispatch => rfl

theorem gateInv_reset : GateInv State.reset where
  outbound i := by rw [gateOf_reset]; exact PerSpout.get_all 0 i
  shut i _ := by rw [gateOf_reset]; rfl
  pendingCloses i _ := by rw [gateOf_reset]; rfl
  opened i h := by rw [gateOf_reset] at h; simp [Gate.reset, GateMode.discharging] at h
  tailing i h := by rw [gateOf_reset] at h; cases h

theorem queueInv_reset : QueueInv State.reset := ⟨List.nodup_nil, nofun, nofun⟩

theorem budgetInv_reset : BudgetInv State.reset := ⟨rfl, Nat.le_refl 0⟩

theorem claimInv_reset : ClaimInv State.reset where
  granted i := by
    have empty : State.reset.dba.allocation.get i = none := PerSpout.get_all none i
    simp [empty, Gate.reset, GateMode.discharging]
  faulted i _ := loadOf_reset i
  asked i l h := by simp at h

theorem refillInv_reset : RefillInv State.reset := by constructor <;> decide

theorem placesInv_reset : PlacesInv State.reset := by constructor <;> decide

theorem ordersInv_reset : OrdersInv State.reset :=
  ⟨Nat.zero_le 24, List.nodup_nil, nofun, fun i l h => by simp at h⟩

theorem loadInv_reset : LoadInv State.reset := ⟨fun i l h => by simp at h, fun i l h => by simp at h⟩

theorem historyInv_reset : HistoryInv State.reset where
  short := Nat.zero_le 32
  run := Nat.zero_le 255
  reach := Nat.le_refl 0
  clean := nofun
  span := nofun

theorem paramInv_reset : ParamInv State.reset := by constructor <;> decide

theorem counterInv_reset : CounterInv State.reset where
  frames := by decide
  unassigned := by decide
  loads := by decide
  tickets := by decide
  faults i := by rw [latchOf_reset]; decide
  ports p := by rw [portOf_reset]; decide
  sensors i := by rw [sensorOf_reset]; decide
  trips i l h := by simp at h
  zero := by decide
  tails i x h := by rw [gateOf_reset] at h; cases h

/-- Settles O14, from one lemma per invariant. -/
theorem resetMeetsEveryInvariant : Obligations.ResetMeetsEveryInvariant :=
  ⟨⟨gateInv_reset, queueInv_reset, budgetInv_reset, claimInv_reset⟩, refillInv_reset, placesInv_reset, ordersInv_reset,
    loadInv_reset, historyInv_reset, paramInv_reset, counterInv_reset⟩

/-! ### Cold start -/

theorem cutOffSave_of_not_writing {m : Pm} (h : m.status ≠ .writing) : cutOffSave m = m := by
  cases hm : m.status <;> simp_all [cutOffSave]

theorem soundValues_sound {w : Params} (h : paramsSound w = true) : soundValues (.written w (imageCrc w)) = some w := by
  simp [soundValues, h]

theorem soundValues_unsound {x : StoredImage} (h : ∀ w, x = .written w (imageCrc w) → paramsSound w = false) :
    soundValues x = none := by
  cases x with
  | neverWritten => rfl
  | cutOff => rfl
  | written w crc =>
    refine if_neg ?_
    rintro ⟨rfl, hw⟩
    exact absurd hw (by simp [h w rfl])

theorem exec_coldStart (service : Bool) (lines : Lines) (s : State) :
    exec (.coldStart service lines) s = .next (coldStart service lines s) := rfl

/-- A part as delivered, SERVICE and the lines low, cold starts into `State.reset` (R183, log 13). -/
theorem coldStart_asDelivered {s : State} (himage : s.pm.image = .neverWritten) (hlock : s.pm.custodyLock = false)
    (hstatus : s.pm.status ≠ .writing) (hpending : s.pending = []) :
    coldStart false { interlock := .all false, aerationOk := false } s = State.reset := by
  have pm : pmCold false s.pm = State.reset.pm := by
    simp [pmCold, cutOffSave_of_not_writing hstatus, himage, hlock, soundValues, State.reset]
  unfold coldStart
  rw [pm, hpending]
  rfl

/-- Settles O38: the PM's values follow the image, and every other block's cold values are those of `State.reset`. -/
theorem coldStartSetsColdValues : Obligations.ColdStartSetsColdValues := by
  refine ⟨fun s himage hlock hstatus hpending => ?_, fun s service lines hstatus => ?_⟩
  · rw [exec_coldStart, coldStart_asDelivered himage hlock hstatus hpending]
  have image_kept : (cutOffSave s.pm).image = s.pm.image := by rw [cutOffSave_of_not_writing hstatus]
  have working_eq : (coldStart service lines s).pm.working = (soundValues s.pm.image).getD paramDefaults := by
    rw [← image_kept]; rfl
  have defaulted_eq : (coldStart service lines s).pm.defaulted = (soundValues s.pm.image).isNone := by
    rw [← image_kept]; rfl
  refine ⟨_, exec_coldStart service lines s, ?sound, ?unsound, ?pm, rfl, rfl, rfl, rfl, rfl, rfl, rfl, ?dba, rfl, rfl,
    ?ports, rfl⟩
  case sound =>
    intro w hw hsound
    rw [working_eq, defaulted_eq, hw, soundValues_sound hsound]
    exact ⟨rfl, rfl⟩
  case unsound =>
    intro h
    rw [working_eq, defaulted_eq, soundValues_unsound h]
    exact ⟨rfl, rfl⟩
  case pm =>
    simp only [coldStart, pmCold, cutOffSave_of_not_writing hstatus]
    cases service <;> simp
  case dba =>
    simp only [coldStart, dbaRestart, effectiveBudget]
    cases lines.aerationOk <;> rfl
  case ports =>
    rintro (i | _)
    · exact PerSpout.get_all (PortState.reset _) i
    · rfl

end Sys2Proof.Machine
end

section
/-! What the part does with no command waiting (logs 1, 9, 11, 12, 19): the events it owes itself, the millisecond that
passes when it owes none, and which expiries that millisecond queues (O2). -/

namespace Sys2Proof.Machine

theorem step_of_empty {s : State} (h : s.pending = []) : step s = .next (idle s) := by simp only [step, h]

theorem idle_of_not_running {s : State} (h : s.power ≠ .running) : idle s = s := if_neg h

theorem idle_of_owing {s : State} (h : s.power = .running) (ho : ownEvents s ≠ []) :
    idle s = s.withPending (ownEvents s) := by
  cases he : ownEvents s with
  | nil => exact absurd he ho
  | cons c rest => simp [idle, h, he]

theorem idle_of_owing_none {s : State} (h : s.power = .running) (ho : ownEvents s = []) : idle s = tick s := by
  simp [idle, h, ho]

/-! ### One millisecond on each block -/

theorem gateOf_tick (s : State) (i : Spout) : gateOf (tick s) i = (gateOf s i).tick (s.sli.feedback.get i) :=
  PerSpout.get_of _ i

theorem loadOf_tick (s : State) (i : Spout) : loadOf (tick s) i = (loadOf s i).map Load.tick := PerSpout.get_of _ i

theorem portOf_tick (s : State) (p : Port) : portOf (tick s) p = (portOf s p).tick := by
  cases p with
  | bay i => exact PerSpout.get_of _ i
  | dispatch => rfl

@[simp] theorem working_tick (s : State) : working (tick s) = s.pm.working := rfl

/-- The sync clock counts in the MASTER role alone and starts again at each sync (R2, log 19). -/
theorem sliTick_syncClockUs (w : Params) (x : Sli) : (sliTick w x).syncClockUs =
    if w.syncRole = .follower then x.syncClockUs
    else if w.framePeriodUs ≤ x.syncClockUs + 1000 then x.syncClockUs + 1000 - w.framePeriodUs
    else x.syncClockUs + 1000 := by
  unfold sliTick
  cases w.syncRole <;> rfl

theorem sli_tick (s : State) : (tick s).sli = { s.sli with
    lockTimer := s.sli.lockTimer.map (· + 1)
    bin := s.sli.bin.tick
    impact := .of fun i => (s.sli.impact.get i).tick
    feedback := .of fun i => (s.sli.feedback.get i).tick
    syncClockUs := if s.pm.working.syncRole = .follower then s.sli.syncClockUs
      else if s.pm.working.framePeriodUs ≤ s.sli.syncClockUs + 1000
        then s.sli.syncClockUs + 1000 - s.pm.working.framePeriodUs
      else s.sli.syncClockUs + 1000 } := by
  have clock := sliTick_syncClockUs s.pm.working s.sli
  rw [← clock]
  rfl

/-! ### The expiries of a millisecond -/

theorem mem_raise {due : Bool} {c d : Instr} : d ∈ raise due c ↔ due = true ∧ d = c := by
  cases due <;> simp [raise]

theorem mem_allSpouts (i : Spout) : i ∈ Spout.all := by cases i <;> decide

theorem mem_allPorts (p : Port) : p ∈ allPorts := by
  rcases p with i | _
  · cases i <;> decide
  · decide

theorem mem_allChannels (c : Chan) : c ∈ allChannels := by
  rcases c with _ | i | i
  · decide
  · cases i <;> decide
  · cases i <;> decide

/-- What stands in the queue after a millisecond: exactly the expiries at their limits and the MASTER role's sync. -/
theorem mem_pending_tick (s : State) (c : Instr) : c ∈ (tick s).pending ↔
    (reached (lockLimitMs (working s)) (tick s).sli.lockTimer = true ∧ c = .lockTimerExpiry) ∨
    (∃ ch, reached (staleLimitMs (working s)) (channelOf (tick s) ch).timer = true ∧ c = .stalenessTimerExpiry ch) ∨
    (∃ i, closeDue (tick s) i = true ∧ c = .closeTimerExpiry i) ∨
    (∃ i, tailDue (tick s) i = true ∧ c = .tailTimerExpiry i) ∨
    (∃ i, linkDue (tick s) i = true ∧ c = .linkTimerExpiry i) ∨
    (∃ i, holdDue (tick s) i = true ∧ c = .holdExpired i) ∨
    (deferralDue (tick s) = true ∧ c = .deferralTimerExpiry) ∨
    (refillDue (tick s) = true ∧ c = .refillTimerExpiry) ∨
    (∃ p, gapDue (tick s) p = true ∧ c = .gapTimerExpiry p) ∨
    (saveDue (tick s) = true ∧ c = .saveTimerExpiry s.pm.image) ∨
    (syncDue (working s) s.sli = true ∧ c = .frameSync) := by
  show c ∈ dueExpiries (tick s) ++ raise (syncDue (working s) s.sli) .frameSync ↔ _
  simp only [dueExpiries, dueOfSpouts, List.mem_append, List.mem_flatMap, mem_raise, mem_allSpouts, mem_allPorts,
    mem_allChannels, true_and, or_assoc]
  rfl

/-- The events the part owes itself, port by port in their order (logs 29, 30, 34). -/
theorem ownEvents_eq (s : State) : ownEvents s =
    untaken (portOf s (.bay .A)) ++ untaken (portOf s (.bay .B)) ++ untaken (portOf s (.bay .C)) ++
      untaken (portOf s .dispatch) ++ (if s.oau.reports = [] then [] else [.applyWindowReport]) ++
      (if s.pm.warmPending then [.warmRestart (sampledLines s)] else []) ++
      baudDue s (.bay .A) ++ baudDue s (.bay .B) ++ baudDue s (.bay .C) ++ baudDue s .dispatch := by
  simp [ownEvents, allPorts, List.append_assoc]

/-- Settles O2, from one lemma per block of the tick and `mem_pending_tick` for the queue. -/
theorem idleStepTakesOwnEventsOrAMillisecond : Obligations.IdleStepTakesOwnEventsOrAMillisecond := by
  intro s hp
  rw [step_of_empty hp]
  refine ⟨fun h => by rw [idle_of_not_running h], ownEvents_eq s, fun h ho => by rw [idle_of_owing h ho]; rfl,
    fun h ho => ?_⟩
  rw [idle_of_owing_none h ho]
  refine ⟨tick s, rfl, sli_tick s, gateOf_tick s, rfl, rfl, portOf_tick s, rfl, rfl, rfl, rfl, rfl, rfl, rfl,
    ?lock, ?stale, ?close, ?tail, ?link, ?hold, ?deferral, ?refill, ?gap, ?save, ?sync⟩
  case lock => simp [mem_pending_tick, reached_iff, lockLimitMs, msRoundedUp, working]
  case stale => intro c; simp [mem_pending_tick, reached_iff, staleLimitMs, msRoundedUp, working]
  case close => intro i; simp [mem_pending_tick, closeDue_iff]
  case tail => intro i; simp [mem_pending_tick, tailDue_iff]
  case link => intro i; simp [mem_pending_tick, linkDue_iff]
  case hold =>
    intro i
    simp only [mem_pending_tick, holdDue_iff, working_tick, reduceCtorEq, and_false, exists_false, false_or, or_false,
      Instr.holdExpired.injEq, exists_eq_right']
    constructor
    · rintro ⟨l, hl, hs, hlimit, hover⟩
      exact ⟨hlimit, l, hl, hs, hover⟩
    · rintro ⟨hlimit, l, hl, hs, hover⟩
      exact ⟨l, hl, hs, hlimit, hover⟩
  case deferral => simp [mem_pending_tick, deferralDue, reached_iff]
  case refill => simp [mem_pending_tick, refillDue, reached_iff]
  case gap => intro p; simp [mem_pending_tick, gapDue, reached_iff]
  case save => intro x; simp [mem_pending_tick, saveDue, reached_iff, and_comm]
  case sync =>
    show _ ↔ (working s).syncRole = .master ∧ (working s).framePeriodUs ≤ s.sli.syncClockUs + 1000
    simp [mem_pending_tick, syncDue]

end Sys2Proof.Machine
end

section
/-! Where the shared operations of one event act: an operation of one spout leaves every other spout's load, gate, claim
and demand as they were (`Confined`), and the reports of an event can be followed at one spout (`examine_preserves`,
`settle_establishes`). `RunsOn` (Laws/Settle.lean) says what these reports do to the whole state. -/

namespace Sys2Proof.Machine

/-! ### The views -/

/-- Spout `i` has the same load, gate, command, allocation, queue places and dribble mark in both states. -/
structure SameAt (i : Spout) (s t : State) : Prop where
  load : loadOf t i = loadOf s i
  gate : gateOf t i = gateOf s i
  command : t.sli.gateCommand.get i = s.sli.gateCommand.get i
  allocation : t.dba.allocation.get i = s.dba.allocation.get i
  place : ∀ q : QueuePlace, q.spout = i → (q ∈ t.dba.queue ↔ q ∈ s.dba.queue)
  dribble : t.bsc.dribbleSet.get i = s.bsc.dribbleSet.get i

/-- What holds, releases, requests and grants leave alone whatever the spout: the recorded demands, what the demands are
judged from but for the loads, and BLIND; and they do not bring about GRAVIMETRIC. -/
structure DemandsStand (s t : State) : Prop where
  ssu : t.ssu = s.ssu
  demand : t.lm.demand = s.lm.demand
  impact : t.sli.impact = s.sli.impact
  pm : t.pm = s.pm
  blind : t.bmu.mode = .blind ↔ s.bmu.mode = .blind
  gravimetric : t.bmu.mode = .gravimetric → s.bmu.mode = .gravimetric

/-- State `t` comes from `s` by an operation of spout `j`. -/
structure Confined (j : Spout) (s t : State) : Prop where
  others : ∀ i ≠ j, SameAt i s t
  shared : DemandsStand s t

theorem SameAt.refl (i : Spout) (s : State) : SameAt i s s := ⟨rfl, rfl, rfl, rfl, fun _ _ => Iff.rfl, rfl⟩

theorem SameAt.trans {i : Spout} {s t u : State} (h : SameAt i s t) (k : SameAt i t u) : SameAt i s u where
  load := k.load.trans h.load
  gate := k.gate.trans h.gate
  command := k.command.trans h.command
  allocation := k.allocation.trans h.allocation
  place q hq := (k.place q hq).trans (h.place q hq)
  dribble := k.dribble.trans h.dribble

theorem DemandsStand.refl (s : State) : DemandsStand s s := ⟨rfl, rfl, rfl, rfl, Iff.rfl, id⟩

theorem DemandsStand.trans {s t u : State} (h : DemandsStand s t) (k : DemandsStand t u) : DemandsStand s u where
  ssu := k.ssu.trans h.ssu
  demand := k.demand.trans h.demand
  impact := k.impact.trans h.impact
  pm := k.pm.trans h.pm
  blind := k.blind.trans h.blind
  gravimetric := h.gravimetric ∘ k.gravimetric

theorem Confined.refl (j : Spout) (s : State) : Confined j s s := ⟨fun _ _ => .refl _ _, .refl _⟩

theorem Confined.trans {j : Spout} {s t u : State} (h : Confined j s t) (k : Confined j t u) : Confined j s u :=
  ⟨fun i hi => (h.others i hi).trans (k.others i hi), h.shared.trans k.shared⟩

/-! ### The single changes -/

theorem setLoad_confined (s : State) (j : Spout) (l : Option Load) : Confined j s (setLoad s j l) where
  others i hi := { SameAt.refl i s with load := loadOf_setLoad_other s l hi }
  shared := ⟨rfl, rfl, rfl, rfl, Iff.rfl, id⟩

theorem setGate_confined (s : State) (j : Spout) (g : Gate) : Confined j s (setGate s j g) where
  others i hi := { SameAt.refl i s with gate := gateOf_setGate_other s g hi }
  shared := ⟨rfl, rfl, rfl, rfl, Iff.rfl, id⟩

theorem setCommand_confined (j : Spout) (c : Nat) (s : State) : Confined j s (setCommand j c s) where
  others i hi :=
    { SameAt.refl i s with
      gate := by rw [gateOf_setCommand, if_neg hi]
      command := PerSpout.get_set_other _ _ hi }
  shared := ⟨rfl, rfl, rfl, rfl, Iff.rfl, id⟩

theorem dbaRelease_confined (j : Spout) (s : State) : Confined j s (dbaRelease j s) where
  others i hi := { SameAt.refl i s with allocation := PerSpout.get_set_other _ _ hi }
  shared := ⟨rfl, rfl, rfl, rfl, Iff.rfl, id⟩

theorem dbaRemoval_confined (j : Spout) (s : State) : Confined j s (dbaRemoval j s) where
  others i hi :=
    { SameAt.refl i s with
      allocation := PerSpout.get_set_other _ _ hi
      place := fun q hq => by simp [dbaRemoval, hq, hi] }
  shared := ⟨rfl, rfl, rfl, rfl, Iff.rfl, id⟩

/-- A place that spout `j` takes at the tail of the queue. -/
theorem enqueue_confined {j : Spout} {q : QueuePlace} (hq : q.spout = j) (s : State) :
    Confined j s (s.withDba { s.dba with queue := s.dba.queue ++ [q] }) where
  others i hi :=
    { SameAt.refl i s with
      place := fun p hp => by
        have other : p ≠ q := by rintro rfl; exact hi (hp.symm.trans hq)
        simp [other] }
  shared := ⟨rfl, rfl, rfl, rfl, Iff.rfl, id⟩

theorem dribbleEntered_confined (j : Spout) (s : State) : Confined j s (dribbleEntered j s) where
  others i hi := { SameAt.refl i s with dribble := PerSpout.get_set_other _ _ hi }
  shared := ⟨rfl, rfl, rfl, rfl, Iff.rfl, id⟩

/-- The mode that an opening of the valve leaves (R31). -/
theorem openValve_mode (s : State) :
    (openValve s).bmu.mode = if s.bmu.mode = .blind then .blind else .refilling := by
  cases hm : s.bmu.mode <;> simp [openValve, bmuRefillOpened, setRefillCommand, bmuSetMode, oauModeReport, hm]

/-- An opening of the valve acts on no spout and leaves the demands alone. -/
theorem openValve_confined (j : Spout) (s : State) : Confined j s (openValve s) where
  others i _ := by
    cases hm : s.bmu.mode <;> constructor <;>
      simp [openValve, bmuRefillOpened, setRefillCommand, bmuSetMode, oauModeReport, hm, loadOf, gateOf]
  shared := by
    have mode := openValve_mode s
    constructor
    case blind => rw [mode]; split <;> simp_all
    case gravimetric => rw [mode]; split <;> simp
    all_goals
      cases hm : s.bmu.mode <;> simp [openValve, bmuRefillOpened, setRefillCommand, bmuSetMode, oauModeReport, hm]

theorem dribbleLeft_confined (j : Spout) (s : State) : Confined j s (dribbleLeft j s) := by
  have left : Confined j s (s.withBsc { s.bsc with dribbleSet := s.bsc.dribbleSet.set j false }) :=
    ⟨fun i hi => { SameAt.refl i s with dribble := PerSpout.get_set_other _ _ hi },
      ⟨rfl, rfl, rfl, rfl, Iff.rfl, id⟩⟩
  unfold dribbleLeft
  dsimp only
  split
  · exact left.trans (openValve_confined j _)
  · exact left

theorem leftDribble_confined (j : Spout) (m : GateMode) (s : State) : Confined j s (leftDribble j m s) := by
  unfold leftDribble
  split
  · exact dribbleLeft_confined j s
  · exact .refl j s

/-! ### Closing, opening, holding, lifting and granting -/

theorem gateToClosing_confined (j : Spout) (s : State) : Confined j s (gateToClosing j s) :=
  (((setGate_confined s j _).trans (setCommand_confined j 0 _)).trans (dbaRelease_confined j _)).trans
    (leftDribble_confined j _ _)

theorem dropPending_confined (j : Spout) (s : State) : Confined j s (dropPending j s) := by
  unfold dropPending
  split
  · exact (setGate_confined s j _).trans (dbaRelease_confined j _)
  · exact .refl j s

theorem plainClose_confined (j : Spout) (s : State) : Confined j s (plainClose j s) := by
  unfold plainClose
  split
  · exact gateToClosing_confined j s
  · split
    · exact dropPending_confined j s
    · exact .refl j s

theorem lmHold_confined (cs : List Cause) (j : Spout) (s : State) : Confined j s (lmHold cs j s) := by
  unfold lmHold
  split
  · exact .refl j s
  · split
    · exact .refl j s
    · dsimp only
      split
      · exact (setLoad_confined s j _).trans (dbaRemoval_confined j _)
      · exact (setLoad_confined s j _).trans (plainClose_confined j _)
      · exact setLoad_confined s j _
      · exact .refl j s

theorem dbaRequest_confined (j : Spout) (l : Load) (s : State) : Confined j s (dbaRequest j l s) := by
  unfold dbaRequest
  split
  · exact .refl j s
  · split
    · exact lmHold_confined _ j s
    · exact enqueue_confined (q := { spout := j, load := l.number, rate := l.rate }) rfl s

theorem enterWaiting_confined (j : Spout) (s : State) : Confined j s (enterWaiting j s) := by
  unfold enterWaiting
  split
  · exact .refl j s
  · exact (setLoad_confined s j _).trans (dbaRequest_confined j _ _)

theorem lmLift_confined (c : Cause) (j : Spout) (s : State) : Confined j s (lmLift c j s) := by
  unfold lmLift
  split
  · exact .refl j s
  · split
    · dsimp only
      split
      · exact (setLoad_confined s j _).trans (enterWaiting_confined j _)
      · exact setLoad_confined s j _
    · exact .refl j s

theorem demandChanged_confined (before after : PerSpout Bool) (j : Spout) (s : State) :
    Confined j s (demandChanged before after j s) := by
  unfold demandChanged
  split
  · exact lmHold_confined _ j s
  · split
    · exact lmLift_confined _ j s
    · exact .refl j s

theorem gateOpen_confined (j : Spout) (s : State) : Confined j s (gateOpen j s) := by
  unfold gateOpen
  split
  · exact .refl j s
  · dsimp only
    have cleared := setGate_confined s j { gateOf s j with flowSum := 0, flowCount := 0 }
    split
    · exact (cleared.trans (setGate_confined _ j _)).trans (setCommand_confined j _ _)
    · exact ((cleared.trans (setGate_confined _ j _)).trans (setCommand_confined j _ _)).trans
        (dribbleEntered_confined j _)

theorem gateTakeGrant_confined (j : Spout) (a : Allocation) (s : State) : Confined j s (gateTakeGrant j a s) := by
  unfold gateTakeGrant
  split
  · exact gateOpen_confined j s
  · exact setGate_confined s j _
  · exact .refl j s

theorem grantTaken_confined (q : QueuePlace) (a : Allocation) (s : State) :
    Confined q.spout s (grantTaken q a s) := by
  unfold grantTaken
  split
  · exact .refl _ s
  · split
    · exact (setLoad_confined s _ _).trans (gateTakeGrant_confined _ a _)
    · exact .refl _ s

/-- A grant to the head of the queue acts on the head's spout alone. -/
theorem grant_confined {q : QueuePlace} {rest : List QueuePlace} {s : State} (h : s.dba.queue = q :: rest) :
    Confined q.spout s (grant q rest s) := by
  have granted : Confined q.spout s (s.withDba { s.dba with
      allocation := s.dba.allocation.set q.spout (some { load := q.load, rate := headRate (working s) q })
      queue := rest }) := by
    refine ⟨fun i hi => ?_, ⟨rfl, rfl, rfl, rfl, Iff.rfl, id⟩⟩
    exact
      { SameAt.refl i s with
        allocation := PerSpout.get_set_other _ _ hi
        place := fun p hp => by
          have other : p ≠ q := by rintro rfl; exact hi hp.symm
          simp [h, other] }
  exact granted.trans (grantTaken_confined q _ _)

theorem gateOpen_dba (j : Spout) (s : State) : (gateOpen j s).dba = s.dba := by
  unfold gateOpen
  split
  · rfl
  · dsimp only
    split <;> rfl

theorem grantTaken_dba (q : QueuePlace) (a : Allocation) (s : State) : (grantTaken q a s).dba = s.dba := by
  unfold grantTaken
  split
  · rfl
  · split
    · unfold gateTakeGrant
      split
      · exact gateOpen_dba _ _
      · rfl
      · rfl
    · rfl

theorem grant_dba (q : QueuePlace) (rest : List QueuePlace) (s : State) : (grant q rest s).dba =
    { s.dba with
      allocation := s.dba.allocation.set q.spout (some { load := q.load, rate := headRate (working s) q })
      queue := rest } := grantTaken_dba _ _ _

/-! ### An event taken for each spout -/

/-- Of an event taken for every spout, spout `i` sees its own part alone. -/
theorem eachSpout_at {f : Spout → State → State} (hf : ∀ j s, Confined j s (f j s)) (i : Spout) (s : State) :
    ∃ u, SameAt i s u ∧ DemandsStand s u ∧ SameAt i (f i u) (eachSpout f s) ∧ DemandsStand (f i u) (eachSpout f s) := by
  have a := hf .A s
  have b := hf .B (f .A s)
  have c := hf .C (f .B (f .A s))
  cases i with
  | A =>
    exact ⟨s, .refl _ _, .refl _, (b.others .A nofun).trans (c.others .A nofun), b.shared.trans c.shared⟩
  | B => exact ⟨_, a.others .B nofun, a.shared, c.others .B nofun, c.shared⟩
  | C =>
    exact ⟨_, (a.others .C nofun).trans (b.others .C nofun), a.shared.trans b.shared, .refl _ _, .refl _⟩

theorem eachSpout_shared {f : Spout → State → State} (hf : ∀ j s, Confined j s (f j s)) (s : State) :
    DemandsStand s (eachSpout f s) :=
  ((hf .A s).shared.trans (hf .B _).shared).trans (hf .C _).shared

theorem eachSpout_preserves {P : State → Prop} {f : Spout → State → State} (hf : ∀ i s, P s → P (f i s)) {s : State}
    (h : P s) : P (eachSpout f s) := hf .C _ (hf .B _ (hf .A _ h))

/-! ### The reports of an event, run to their end -/

/-- What every grant to a head that fits keeps, an examination of the queue keeps. -/
theorem examine_preserves {P : State → Prop}
    (hg : ∀ q rest s, P s → s.dba.queue = q :: rest → headFits s q = true → P (grant q rest s)) {s : State}
    (h : P s) : P (examine s) := by
  have main : ∀ qs s, P s → s.dba.queue = qs → P (examineFrom qs s) := by
    intro qs
    induction qs with
    | nil => exact fun s hs _ => hs
    | cons q rest ih =>
      intro s hs hq
      unfold examineFrom
      split
      · next fits => exact ih _ (hg q rest s hs hq fits) (by rw [grant_dba])
      · exact hs
  exact main _ s h rfl

/-- The reports come to `Q` when the first fresh judgement finds it or brings it about, and nothing after undoes it. -/
theorem settle_establishes {Q : State → Prop} {s : State}
    (agreed : PerSpout.of (demandOf (examine s)) = demands (examine s) → Q (examine s))
    (judged : Q (rejudge (examine s))) (examineQ : ∀ t, Q t → Q (examine t)) (rejudgeQ : ∀ t, Q t → Q (rejudge t)) :
    Q (settle s) := by
  have later : ∀ n t, Q t → Q (settleFor n t) := by
    intro n
    induction n with
    | zero => exact fun t ht => ht
    | succ n ih =>
      intro t ht
      unfold settleFor
      dsimp only
      split
      · exact examineQ t ht
      · exact ih _ (rejudgeQ _ (examineQ t ht))
  unfold settle settleFor
  dsimp only
  split
  · next same => exact agreed same
  · exact later 15 _ judged

/-- What an examination and a fresh judgement keep, the reports of an event keep. -/
theorem settle_preserves {Q : State → Prop} (examineQ : ∀ t, Q t → Q (examine t)) (rejudgeQ : ∀ t, Q t → Q (rejudge t))
    {s : State} (h : Q s) : Q (settle s) :=
  settle_establishes (fun _ => examineQ s h) (rejudgeQ _ (examineQ s h)) examineQ rejudgeQ

theorem recordDemands_demand (d : PerSpout Bool) (s : State) (i : Spout) :
    (sensorOf (recordDemands d s) i).demand = d.get i := by
  simp [sensorOf, recordDemands]

theorem recordDemands_sameAt (d : PerSpout Bool) (s : State) (i : Spout) : SameAt i s (recordDemands d s) :=
  ⟨rfl, rfl, rfl, rfl, fun _ _ => Iff.rfl, rfl⟩

/-- A fresh judgement records each demand as its inputs stand (R46). -/
theorem rejudge_demand (s : State) (i : Spout) : (sensorOf (rejudge s) i).demand = demandOf s i := by
  have shared := eachSpout_shared (demandChanged_confined (demands s) (.of (demandOf s)))
    (recordDemands (.of (demandOf s)) s)
  unfold rejudge
  rw [sensorOf, shared.ssu]
  exact (recordDemands_demand _ s i).trans (PerSpout.get_of _ i)

theorem rejudge_lmDemand (s : State) (i : Spout) : (rejudge s).lm.demand.get i = demandOf s i := by
  have shared := eachSpout_shared (demandChanged_confined (demands s) (.of (demandOf s)))
    (recordDemands (.of (demandOf s)) s)
  unfold rejudge
  rw [shared.demand]
  exact PerSpout.get_of _ i

/-- What a fresh judgement does at spout `i`: the change of that spout's own demand, taken by its load. -/
theorem rejudge_at (s : State) (i : Spout) :
    ∃ u, SameAt i s u ∧ SameAt i (demandChanged (demands s) (.of (demandOf s)) i u) (rejudge s) := by
  obtain ⟨u, before, -, after, -⟩ := eachSpout_at (demandChanged_confined (demands s) (.of (demandOf s))) i
    (recordDemands (.of (demandOf s)) s)
  exact ⟨u, (recordDemands_sameAt _ s i).trans before, after⟩

/-- A demand that stands as recorded leaves its spout alone. -/
theorem rejudge_sameAt {s : State} {i : Spout} (h : (sensorOf s i).demand = demandOf s i) :
    SameAt i s (rejudge s) := by
  obtain ⟨u, before, after⟩ := rejudge_at s i
  have unchanged : demandChanged (demands s) (.of (demandOf s)) i u = u := by
    simp [demandChanged, demands, h]
  rw [unchanged] at after
  exact before.trans after

/-- What a fresh judgement leaves alone besides the demands. -/
theorem rejudge_inputs (s : State) :
    (rejudge s).sli.impact = s.sli.impact ∧ (rejudge s).pm = s.pm ∧
      ((rejudge s).bmu.mode = .blind ↔ s.bmu.mode = .blind) ∧
      ((rejudge s).bmu.mode = .gravimetric → s.bmu.mode = .gravimetric) := by
  have shared := eachSpout_shared (demandChanged_confined (demands s) (.of (demandOf s)))
    (recordDemands (.of (demandOf s)) s)
  exact ⟨shared.impact, shared.pm, shared.blind, shared.gravimetric⟩

theorem examine_shared (s : State) : DemandsStand s (examine s) :=
  examine_preserves (P := DemandsStand s) (fun _ _ _ h hq _ => h.trans (grant_confined hq).shared) (.refl s)

/-- The reports of an event neither enter nor leave BLIND. -/
theorem settle_blind (s : State) : (settle s).bmu.mode = .blind ↔ s.bmu.mode = .blind :=
  settle_preserves (Q := fun t => t.bmu.mode = .blind ↔ s.bmu.mode = .blind)
    (fun t h => (examine_shared t).blind.trans h) (fun t h => (rejudge_inputs t).2.2.1.trans h) Iff.rfl

/-- A grant does not reach a load that is not WAITING. -/
theorem grantTaken_of_not_waiting {q : QueuePlace} {a : Allocation} {s : State}
    (h : ∀ l, loadOf s q.spout = some l → l.state ≠ .waiting) : grantTaken q a s = s := by
  unfold grantTaken
  split
  · rfl
  · next l hl => exact if_neg fun n => h l hl n.2

theorem examine_of_not_waiting {s : State} {i : Spout} (h : ∀ l, loadOf s i = some l → l.state ≠ .waiting) :
    loadOf (examine s) i = loadOf s i ∧ gateOf (examine s) i = gateOf s i ∧
      (examine s).sli.gateCommand.get i = s.sli.gateCommand.get i ∧
      (examine s).bsc.dribbleSet.get i = s.bsc.dribbleSet.get i := by
  refine examine_preserves (P := fun t => loadOf t i = loadOf s i ∧ gateOf t i = gateOf s i ∧
    t.sli.gateCommand.get i = s.sli.gateCommand.get i ∧ t.bsc.dribbleSet.get i = s.bsc.dribbleSet.get i) ?_
    ⟨rfl, rfl, rfl, rfl⟩
  rintro q rest t ⟨hl, hg, hc, hd⟩ hq -
  by_cases hi : i = q.spout
  · subst hi
    have same : grant q rest t = t.withDba { t.dba with
        allocation := t.dba.allocation.set q.spout (some { load := q.load, rate := headRate (working t) q })
        queue := rest } := grantTaken_of_not_waiting (fun l n => h l (hl ▸ n))
    rw [same]
    exact ⟨hl, hg, hc, hd⟩
  · have at_i := (grant_confined hq).others i hi
    exact ⟨at_i.load.trans hl, at_i.gate.trans hg, at_i.command.trans hc, at_i.dribble.trans hd⟩

/-- A spout without a queue place is left alone by an examination. -/
theorem examine_sameAt {s : State} {i : Spout} (h : ∀ q ∈ s.dba.queue, q.spout ≠ i) : SameAt i s (examine s) := by
  refine examine_preserves (P := SameAt i s) (fun q rest t ht hq _ => ?_) (.refl i s)
  refine ht.trans ((grant_confined hq).others i ?_)
  rintro rfl
  have mem : q ∈ t.dba.queue := by simp [hq]
  exact h q ((ht.place q rfl).mp mem) rfl

end Sys2Proof.Machine
end

section
/-! What a hold, a grant and the reports of an event do at one spout: the loads and gates of `lmHold` and `grant` written out,
and the two demands that the reports cannot change (`Demanded`, `Undemanded`). -/

namespace Sys2Proof.Machine

/-! ### The valve and the dribble set -/

/-- An opening of the valve touches the BSC, the refill command, the BMU's mode and mark, and the OAU's record of the mode
(R31, R158). -/
theorem openValve_eq (s : State) : openValve s = { s with
    sli := { s.sli with refillCommand := true }
    bmu := { s.bmu with refillMark := true, mode := if s.bmu.mode = .blind then .blind else .refilling }
    oau := { s.oau with modeRecord := (openValve s).oau.modeRecord, carry := (openValve s).oau.carry }
    bsc := { s.bsc with state := .opened, deferralTimer := none, refillTimer := some 0 } } := by
  cases hm : s.bmu.mode <;> simp [openValve, bmuRefillOpened, setRefillCommand, bmuSetMode, oauModeReport, hm] <;> rfl

/-- A gate's departure from DRIBBLE touches no more than an opening of the valve and the dribble set. -/
theorem leftDribble_eq (i : Spout) (m : GateMode) (s : State) : leftDribble i m s = { s with
    sli := { s.sli with refillCommand := (leftDribble i m s).sli.refillCommand }
    bmu := { s.bmu with
      refillMark := (leftDribble i m s).bmu.refillMark, mode := (leftDribble i m s).bmu.mode }
    oau := { s.oau with
      modeRecord := (leftDribble i m s).oau.modeRecord, carry := (leftDribble i m s).oau.carry }
    bsc := (leftDribble i m s).bsc } := by
  unfold leftDribble
  split
  · unfold dribbleLeft
    dsimp only
    split
    · rw [openValve_eq]
      rfl
    · rfl
  · rfl

theorem gateOf_leftDribble (i j : Spout) (m : GateMode) (s : State) : gateOf (leftDribble i m s) j = gateOf s j := by
  rw [leftDribble_eq]; rfl

theorem loadOf_leftDribble (i j : Spout) (m : GateMode) (s : State) : loadOf (leftDribble i m s) j = loadOf s j := by
  rw [leftDribble_eq]; rfl

theorem gateCommand_leftDribble (i : Spout) (m : GateMode) (s : State) :
    (leftDribble i m s).sli.gateCommand = s.sli.gateCommand := by
  rw [leftDribble_eq]

/-! ### A plain close -/

/-- A plain close leaves its gate as the statements write it (R102). -/
theorem gateOf_plainClose (i : Spout) (s : State) : gateOf (plainClose i s) i = closedGate (gateOf s i) := by
  by_cases hd : (gateOf s i).mode.discharging = true
  · simp [plainClose, closedGate, hd, gateToClosing, gateOf_leftDribble]
  · by_cases hc : (gateOf s i).mode = .closing
    · cases hp : (gateOf s i).pendingGrant <;>
        simp [plainClose, closedGate, hc, GateMode.discharging, dropPending, hp]
      rw [← hc, ← hp]
    · simp [plainClose, closedGate, hd, hc]

theorem gateCommand_plainClose {i : Spout} {s : State} (h : (gateOf s i).mode.discharging = true) :
    (plainClose i s).sli.gateCommand.get i = 0 := by
  simp only [plainClose, h, if_true, gateToClosing, gateCommand_leftDribble]
  exact PerSpout.get_set_same _ _ _

/-! ### A hold at its spout -/

theorem recordsHolds_iff (x : LoadState) : recordsHolds x ↔ x.records = true := by
  cases x <;> simp [recordsHolds, LoadState.records]

/-- A load with causes added: recorded in WAITING, DISCHARGING and HELD alone (R122). -/
def Load.heldBy (cs : List Cause) (l : Load) : Load :=
  if l.state.records then { l with state := .held, causes := l.causes.add cs } else l

theorem loadOf_lmHold {cs : List Cause} (hcs : cs ≠ []) (i : Spout) (s : State) :
    loadOf (lmHold cs i s) i = (loadOf s i).map (Load.heldBy cs) := by
  cases hl : loadOf s i with
  | none => simp [lmHold, hl]
  | some l =>
    cases hs : l.state <;>
      simp [lmHold, hcs, hl, hs, Load.heldBy, LoadState.records, loadOf_plainClose]

/-- A DISCHARGING load's gate has a plain close, any other gate is left alone (R122). -/
theorem gateOf_lmHold {cs : List Cause} (hcs : cs ≠ []) (i : Spout) (s : State) :
    (∀ l, loadOf s i = some l → l.state = .discharging →
      gateOf (lmHold cs i s) i = closedGate (gateOf s i) ∧
        ((gateOf s i).mode.discharging = true → (lmHold cs i s).sli.gateCommand.get i = 0)) ∧
    ((∀ l, loadOf s i = some l → l.state ≠ .discharging) →
      gateOf (lmHold cs i s) i = gateOf s i ∧
        (lmHold cs i s).sli.gateCommand.get i = s.sli.gateCommand.get i) := by
  constructor
  · intro l hl hs
    have closes : lmHold cs i s =
        plainClose i (setLoad s i (some { l with state := .held, causes := l.causes.add cs })) := by
      simp [lmHold, hcs, hl, hs]
    rw [closes, gateOf_plainClose]
    exact ⟨rfl, fun hd => gateCommand_plainClose hd⟩
  · intro h
    cases hl : loadOf s i with
    | none => simp [lmHold, hl]
    | some l => cases hs : l.state <;> simp_all [lmHold, dbaRemoval, setLoad, gateOf]

/-! ### A grant at its spout -/

theorem loadOf_gateTakeGrant (i j : Spout) (a : Allocation) (s : State) :
    loadOf (gateTakeGrant i a s) j = loadOf s j := by
  unfold gateTakeGrant gateOpen
  split
  · split
    · rfl
    · dsimp only
      split <;> rfl
  · rfl
  · rfl

theorem loadOf_grantTaken (q : QueuePlace) (a : Allocation) (s : State) :
    loadOf (grantTaken q a s) q.spout = (loadOf s q.spout).map fun l =>
      if l.number = q.load ∧ l.state = .waiting then { l with state := .discharging } else l := by
  unfold grantTaken
  cases hl : loadOf s q.spout with
  | none => exact hl
  | some l =>
    dsimp only [Option.map_some]
    split
    · rw [loadOf_gateTakeGrant, loadOf_setLoad_same]
    · exact hl

/-- The load that a grant reaches goes from WAITING to DISCHARGING and is otherwise as it was (R78). -/
theorem loadOf_grant (q : QueuePlace) (rest : List QueuePlace) (s : State) :
    loadOf (grant q rest s) q.spout = (loadOf s q.spout).map fun l =>
      if l.number = q.load ∧ l.state = .waiting then { l with state := .discharging } else l :=
  loadOf_grantTaken q _ _

/-! ### A release of a hold at its spout -/

/-- A cause added by a hold stands only if it stood or was added. -/
theorem heldBy_causes_has (cs : List Cause) (l : Load) (c : Cause) (hc : c ∉ cs) :
    (l.heldBy cs).causes.has c = l.causes.has c := by
  unfold Load.heldBy
  split
  · simp [Causes.add_has, hc]
  · rfl

theorem Causes.has_put_same (x : Causes) (c : Cause) (v : Bool) : (x.put c v).has c = v := by
  cases c <;> rfl

theorem Causes.has_put_other (x : Causes) {c d : Cause} (v : Bool) (h : d ≠ c) : (x.put c v).has d = x.has d := by
  cases c <;> cases d <;> simp_all [Causes.put, Causes.has]

/-- A request changes a load's causes by supply conditions alone (R76). -/
theorem loadOf_dbaRequest_has {i : Spout} {l x : Load} {s : State} {c : Cause} (hc : c ≠ .aeration ∧ c ≠ .starve)
    (h : loadOf (dbaRequest i l s) i = some x) :
    ∃ y, loadOf s i = some y ∧ x.causes.has c = y.causes.has c := by
  have fresh : c ∉ supplyCauses s.dba := by
    intro m
    unfold supplyCauses at m
    rcases List.mem_append.mp m with m | m <;> split at m <;> simp_all
  unfold dbaRequest at h
  split at h
  · exact ⟨x, h, rfl⟩
  · split at h
    · by_cases hn : supplyCauses s.dba = []
      · rw [hn] at h
        exact ⟨x, h, rfl⟩
      · rw [loadOf_lmHold hn] at h
        obtain ⟨y, hy, rfl⟩ := Option.map_eq_some_iff.mp h
        exact ⟨y, hy, heldBy_causes_has _ y c fresh⟩
    · exact ⟨x, h, rfl⟩

/-- A lift takes its cause from a HELD load (R125); `c` is not a supply condition, which a new request may find. -/
theorem loadOf_lmLift_has {i : Spout} {x : Load} {s : State} {c d : Cause} (hc : d ≠ .aeration ∧ d ≠ .starve)
    (h : loadOf (lmLift c i s) i = some x) :
    ∃ l, loadOf s i = some l ∧
      x.causes.has d = if d = c ∧ l.state = .held then false else l.causes.has d := by
  unfold lmLift at h
  cases hl : loadOf s i with
  | none => simp [hl] at h
  | some l =>
    refine ⟨l, rfl, ?_⟩
    simp only [hl] at h
    split at h
    · next held =>
      have lifted : (l.causes.put c false).has d = if d = c ∧ l.state = .held then false else l.causes.has d := by
        by_cases hd : d = c
        · rw [hd, Causes.has_put_same, if_pos ⟨rfl, held.1⟩]
        · rw [Causes.has_put_other _ _ hd, if_neg fun n => hd n.1]
      rw [← lifted]
      split at h
      · simp only [enterWaiting, loadOf_setLoad_same] at h
        obtain ⟨y, hy, hx⟩ := loadOf_dbaRequest_has hc h
        rw [loadOf_setLoad_same] at hy
        cases hy
        exact hx
      · rw [loadOf_setLoad_same] at h
        cases h
        rfl
    · next stays =>
      rw [hl] at h
      cases h
      split
      · next hd =>
        obtain ⟨rfl, held⟩ := hd
        exact Bool.not_eq_true _ ▸ fun n => stays ⟨held, n⟩
      · rfl

/-! ### A demand that stands -/

/-- Spout `i` has its demand recorded, and nothing the reports of an event do can end it: its channel is not FRESH, and
substitution is out of reach (R41, R45). -/
structure Demanded (i : Spout) (s : State) : Prop where
  condition : (s.sli.impact.get i).state ≠ .fresh
  unsubstituted : s.pm.working.sensorPolicy = .hold ∨ s.bmu.mode ≠ .gravimetric ∨
    ∀ l, loadOf s i = some l → l.state = .armed ∨ l.state = .held
  rests : ∀ l, loadOf s i = some l → l.state ≠ .waiting
  recorded : (sensorOf s i).demand = true

theorem sensorCondition_iff (s : State) (i : Spout) :
    sensorCondition s i = true ↔ (s.sli.impact.get i).state ≠ .fresh := by simp [sensorCondition]

theorem drawing_iff (s : State) (i : Spout) : drawing s i = true ↔ draws s i := by
  unfold drawing draws
  cases loadOf s i <;> simp

theorem drawingAlone_iff (s : State) (i : Spout) :
    drawingAlone s i = true ↔ draws s i ∧ ∀ j, j ≠ i → ¬ draws s j := by
  simp only [drawingAlone, Bool.and_eq_true, drawing_iff, List.all_eq_true, Bool.or_eq_true, decide_eq_true_eq,
    Bool.not_eq_true', ← Bool.not_eq_true, mem_allSpouts, true_imp_iff]
  exact and_congr_right fun _ => forall_congr' fun j => by tauto

/-- The five conditions of BIN-SOLO substitution (R41). -/
theorem substitutionHolds_iff (s : State) (i : Spout) : substitutionHolds s i = true ↔
    s.pm.working.sensorPolicy = .binSolo ∧ (s.sli.impact.get i).state ≠ .fresh ∧ s.bmu.mode = .gravimetric ∧
      draws s i ∧ ∀ j, j ≠ i → ¬ draws s j := by
  simp only [substitutionHolds, Bool.and_eq_true, decide_eq_true_eq, sensorCondition_iff, drawingAlone_iff, and_assoc]
  rfl

/-- A demand is the sensor condition without the substitution (R45). -/
theorem demandOf_eq_true_iff (s : State) (i : Spout) : demandOf s i = true ↔
    (s.sli.impact.get i).state ≠ .fresh ∧ ¬ substitutionHolds s i = true := by
  simp [demandOf, sensorCondition_iff]

theorem demandOf_of_fresh {s : State} {i : Spout} (h : (s.sli.impact.get i).state = .fresh) : demandOf s i = false := by
  simp [demandOf, sensorCondition, h]

theorem Demanded.demandOf {i : Spout} {s : State} (h : Demanded i s) : demandOf s i = true := by
  rw [demandOf_eq_true_iff, substitutionHolds_iff]
  refine ⟨h.condition, ?_⟩
  rintro ⟨policy, -, mode, ⟨l, hl, hs⟩, -⟩
  rcases h.unsubstituted with hp | hm | hr
  · rw [hp] at policy; cases policy
  · exact hm mode
  · rcases hr l hl with hr | hr <;> rcases hs with hs | hs <;> exact absurd (hr.symm.trans hs) nofun

/-- What carries a demand that stands from one state to another. -/
theorem Demanded.of_view {i : Spout} {s t : State} (h : Demanded i s) (hi : t.sli.impact = s.sli.impact)
    (hp : t.pm = s.pm) (hm : t.bmu.mode = .gravimetric → s.bmu.mode = .gravimetric) (hl : loadOf t i = loadOf s i)
    (hr : (sensorOf t i).demand = true) : Demanded i t where
  condition := hi ▸ h.condition
  unsubstituted := by
    rw [hp, hl]
    exact h.unsubstituted.imp_right (Or.imp_left fun n => mt hm n)
  rests := hl ▸ h.rests
  recorded := hr

theorem Demanded.examine {i : Spout} {s : State} (h : Demanded i s) : Demanded i (examine s) := by
  have shared := examine_shared s
  exact h.of_view shared.impact shared.pm shared.gravimetric (examine_of_not_waiting h.rests).1
    (by rw [sensorOf, shared.ssu]; exact h.recorded)

theorem Demanded.rejudge_sameAt {i : Spout} {s : State} (h : Demanded i s) : SameAt i s (rejudge s) :=
  Machine.rejudge_sameAt (h.recorded.trans h.demandOf.symm)

theorem Demanded.rejudge {i : Spout} {s : State} (h : Demanded i s) : Demanded i (rejudge s) := by
  obtain ⟨impact, pm, -, mode⟩ := rejudge_inputs s
  exact h.of_view impact pm mode h.rejudge_sameAt.load (by rw [rejudge_demand, h.demandOf])

/-- Spout `i` under a demand that stands, as state `w` left it. -/
structure DemandedAs (i : Spout) (w s : State) : Prop extends Demanded i s where
  load : loadOf s i = loadOf w i
  gate : gateOf s i = gateOf w i
  command : s.sli.gateCommand.get i = w.sli.gateCommand.get i

theorem Demanded.as {i : Spout} {s : State} (h : Demanded i s) : DemandedAs i s s :=
  { h with load := rfl, gate := rfl, command := rfl }

theorem DemandedAs.examine {i : Spout} {w s : State} (h : DemandedAs i w s) : DemandedAs i w (examine s) := by
  obtain ⟨load, gate, command, -⟩ := examine_of_not_waiting h.rests
  exact
    { h.toDemanded.examine with
      load := load.trans h.load, gate := gate.trans h.gate, command := command.trans h.command }

theorem DemandedAs.rejudge {i : Spout} {w s : State} (h : DemandedAs i w s) : DemandedAs i w (rejudge s) := by
  have same := h.toDemanded.rejudge_sameAt
  exact
    { h.toDemanded.rejudge with
      load := same.load.trans h.load, gate := same.gate.trans h.gate, command := same.command.trans h.command }

/-- A spout whose demand is recorded and stands is left alone by the reports of an event. -/
theorem Demanded.settle {i : Spout} {s : State} (h : Demanded i s) : DemandedAs i s (settle s) :=
  settle_preserves (Q := DemandedAs i s) (fun _ => DemandedAs.examine) (fun _ => DemandedAs.rejudge) h.as

/-! ### A demand that begins -/

/-- A fresh judgement that finds the demand of spout `i` to begin holds its load (R46, R124). -/
theorem rejudge_begins {s : State} {i : Spout} (before : (sensorOf s i).demand = false) (after : demandOf s i = true) :
    loadOf (rejudge s) i = (loadOf s i).map (Load.heldBy [.sensor]) ∧
    (∀ l, loadOf s i = some l → l.state = .discharging → gateOf (rejudge s) i = closedGate (gateOf s i) ∧
      ((gateOf s i).mode.discharging = true → (rejudge s).sli.gateCommand.get i = 0)) := by
  obtain ⟨u, hu, hr⟩ := rejudge_at s i
  have begins : demandChanged (demands s) (.of (demandOf s)) i u = lmHold [.sensor] i u := by
    simp [demandChanged, demands, before, after]
  rw [begins] at hr
  obtain ⟨closed, -⟩ := gateOf_lmHold (List.cons_ne_nil Cause.sensor []) i u
  rw [hr.load, hr.gate, hr.command, ← hu.load, ← hu.gate, loadOf_lmHold (List.cons_ne_nil _ _)]
  exact ⟨rfl, closed⟩

theorem heldBy_not_waiting {cs : List Cause} {l : Option Load} {x : Load} (h : l.map (Load.heldBy cs) = some x) :
    x.state ≠ .waiting := by
  obtain ⟨y, -, rfl⟩ := Option.map_eq_some_iff.mp h
  cases hs : y.state <;> simp [Load.heldBy, LoadState.records, hs]

/-- A load that records holds is HELD with SENSOR once it is held by it. -/
theorem heldBy_sensor {l : Load} (h : recordsHolds l.state) :
    (l.heldBy [.sensor]).state = .held ∧ (l.heldBy [.sensor]).causes.sensor = true := by
  have records := (recordsHolds_iff _).mp h
  simp [Load.heldBy, records, Causes.add, Causes.put]

/-- The demand of spout `i` begins with the first fresh judgement, and then stands: the reports leave the spout as that
judgement does, and the LM has the demand. -/
theorem settle_begins {s : State} {i : Spout} (before : (sensorOf (examine s) i).demand = false)
    (after : demandOf (examine s) i = true) (stands : Demanded i (rejudge (examine s))) :
    DemandedAs i (rejudge (examine s)) (settle s) ∧ (settle s).lm.demand.get i = true := by
  refine settle_establishes
    (Q := fun t => DemandedAs i (rejudge (examine s)) t ∧ t.lm.demand.get i = true) ?_ ?_ ?_ ?_
  · intro same
    have at_i := congrArg (fun d => d.get i) same
    simp [demands, before, after] at at_i
  · exact ⟨stands.as, by rw [rejudge_lmDemand, after]⟩
  · exact fun t ⟨ht, hr⟩ => ⟨ht.examine, by rw [(examine_shared t).demand, hr]⟩
  · exact fun t ⟨ht, _⟩ => ⟨ht.rejudge, by rw [rejudge_lmDemand, ht.toDemanded.demandOf]⟩

/-! ### An empty slot -/

theorem demandChanged_of_empty {s : State} {i : Spout} (h : loadOf s i = none) (b a : PerSpout Bool) :
    demandChanged b a i s = s := by
  unfold demandChanged
  split
  · simp [lmHold, h]
  · split
    · simp [lmLift, h]
    · rfl

theorem rejudge_of_empty {s : State} {i : Spout} (h : loadOf s i = none) : SameAt i s (rejudge s) := by
  obtain ⟨u, before, after⟩ := rejudge_at s i
  rw [demandChanged_of_empty (before.load.trans h)] at after
  exact before.trans after

/-- The reports of an event leave an empty slot empty and put its gate into no dribble set. -/
theorem settle_of_empty {s : State} {i : Spout} (h : loadOf s i = none) :
    loadOf (settle s) i = none ∧ (settle s).bsc.dribbleSet.get i = s.bsc.dribbleSet.get i := by
  refine settle_preserves
    (Q := fun t => loadOf t i = none ∧ t.bsc.dribbleSet.get i = s.bsc.dribbleSet.get i) ?_ ?_ ⟨h, rfl⟩
  · rintro t ⟨hl, hd⟩
    obtain ⟨load, -, -, dribble⟩ := examine_of_not_waiting (s := t) (i := i) (by simp [hl])
    exact ⟨load.trans hl, dribble.trans hd⟩
  · rintro t ⟨hl, hd⟩
    have same := rejudge_of_empty hl
    exact ⟨same.load.trans hl, same.dribble.trans hd⟩

/-- An empty slot without a claim gets none from the reports of an event. -/
theorem settle_noClaim {s : State} {i : Spout} (h : loadOf s i = none) (hc : noClaim i s) : noClaim i (settle s) := by
  have same : SameAt i s (settle s) := by
    refine settle_preserves (Q := SameAt i s) (fun t ht => ht.trans (examine_sameAt ?_))
      (fun t ht => ht.trans (rejudge_of_empty (ht.load.trans h))) (.refl i s)
    rintro q hq rfl
    exact hc.2 q ((ht.place q rfl).mp hq) rfl
  refine ⟨same.allocation.trans hc.1, ?_⟩
  rintro q hq rfl
  exact hc.2 q ((same.place q rfl).mp hq) rfl

end Sys2Proof.Machine
end

section
/-! The BMU's entry to BLIND written as one record (R28, R37, R56, R162), the loss of lock and the stale channels that bring
it about (O22, O23). -/

namespace Sys2Proof.Machine

/-! ### Entry to BLIND -/

/-- A running zero is aborted, and SUSPENDED ends where the zero alone kept it (R37, R162). -/
theorem abortZero_eq (s : State) : abortZero s = { s with
    bmu := { s.bmu with
      zero := if s.bmu.zero.state = .running then { ZeroOp.idle with state := .aborted } else s.bmu.zero }
    bsc := { s.bsc with
      zeroRecord := if s.bmu.zero.state = .running then false else s.bsc.zeroRecord
      state := if s.bmu.zero.state = .running ∧ s.bsc.state = .suspended ∧ s.bsc.blindRecord = false then .idle
        else s.bsc.state } } := by
  unfold abortZero
  split
  · next running =>
    simp only [bscZeroEnded, leaveSuspended, running, true_and]
    by_cases ended : s.bsc.state = .suspended ∧ s.bsc.blindRecord = false
    · rw [if_pos ended, if_pos ⟨ended.1, ended.2, rfl⟩]
      rfl
    · rw [if_neg ended, if_neg fun n => ended ⟨n.1, n.2.1⟩]
      rfl
  · next idle => simp [idle]

/-- What the BSC does when the BMU has entered BLIND (R162). -/
theorem bscBlindEntered_eq {s : State} (h : s.bmu.mode = .blind) : bscBlindEntered s = { s with
    sli := { s.sli with refillCommand := if s.bsc.state = .opened then false else s.sli.refillCommand }
    bsc := { s.bsc with
      blindRecord := true
      state := if s.bsc.state = .supplyFault then .supplyFault else .suspended
      deferralTimer := if s.bsc.state = .deferred then none else s.bsc.deferralTimer
      refillTimer := if s.bsc.state = .opened then none else s.bsc.refillTimer } } := by
  cases hs : s.bsc.state <;>
    simp [bscBlindEntered, closeValve, bmuRefillClosed, setRefillCommand, State.withBsc, State.withSli, hs, h]

/-- The history emptied in BLIND: no mode is left to change (R27). -/
theorem bmuEmptyHistory_of_blind {s : State} (h : s.bmu.mode = .blind) :
    bmuEmptyHistory s = s.withBmu { clearWindow s.bmu with ring := [], cleanRun := 0, previous := none } := by
  simp [bmuEmptyHistory, clearWindow, h]

theorem enterBlind_of_blind {s : State} (h : s.bmu.mode = .blind) : enterBlind s = s := if_pos h

/-- The entry to BLIND from any other mode: the history emptied, a running zero aborted, the refill closed (R28). -/
theorem enterBlind_eq {s : State} (h : s.bmu.mode ≠ .blind) : enterBlind s = { s with
    sli := { s.sli with refillCommand := if s.bsc.state = .opened then false else s.sli.refillCommand }
    bmu := { clearWindow s.bmu with
      ring := [], cleanRun := 0, previous := none, mode := .blind, blindEntered := true
      zero := if s.bmu.zero.state = .running then { ZeroOp.idle with state := .aborted }
        else { s.bmu.zero with skipWindow := false } }
    oau := { s.oau with
      modeRecord := .blind, carry := if s.oau.modeRecord = .gravimetric then 0 else s.oau.carry }
    bsc := { s.bsc with
      blindRecord := true
      zeroRecord := if s.bmu.zero.state = .running then false else s.bsc.zeroRecord
      state := if s.bsc.state = .supplyFault then .supplyFault else .suspended
      deferralTimer := if s.bsc.state = .deferred then none else s.bsc.deferralTimer
      refillTimer := if s.bsc.state = .opened then none else s.bsc.refillTimer } } := by
  rw [enterBlind, if_neg h]
  dsimp only
  rw [bmuEmptyHistory_of_blind rfl, abortZero_eq, bscBlindEntered_eq rfl]
  by_cases ended : s.bmu.zero.state = .running ∧ s.bsc.state = .suspended ∧ s.bsc.blindRecord = false
  · simp [bmuSetMode, oauModeReport, clearWindow, State.withBmu, State.withOau, ended]
  · simp [bmuSetMode, oauModeReport, clearWindow, State.withBmu, State.withOau, ended]

/-- What an entry to BLIND leaves alone, from any mode. -/
structure BlindFrame (s t : State) : Prop where
  power : t.power = s.power
  ots : t.ots = s.ots
  pc : t.pc = s.pc
  pm : t.pm = s.pm
  pending : t.pending = s.pending
  ssu : t.ssu = s.ssu
  dba : t.dba = s.dba
  lm : t.lm = s.lm
  gate : t.gate = s.gate
  sli : t.sli = { s.sli with refillCommand := t.sli.refillCommand }
  mode : t.bmu.mode = .blind
  f : t.bmu.f = s.bmu.f
  entered : t.bmu.blindEntered = (s.bmu.blindEntered || decide (s.bmu.mode ≠ .blind))

theorem enterBlind_frame (s : State) : BlindFrame s (enterBlind s) := by
  by_cases h : s.bmu.mode = .blind
  · rw [enterBlind_of_blind h]
    exact ⟨rfl, rfl, rfl, rfl, rfl, rfl, rfl, rfl, rfl, rfl, h, rfl, by simp [h]⟩
  · rw [enterBlind_eq h]
    exact ⟨rfl, rfl, rfl, rfl, rfl, rfl, rfl, rfl, rfl, rfl, rfl, rfl, by simp [h]⟩

/-- The part of an entry to BLIND that reports cannot undo: with no refill deferred the valve moves no more. -/
structure BlindEntered (s t : State) : Prop where
  ring : t.bmu.ring = []
  cleanRun : t.bmu.cleanRun = 0
  previous : t.bmu.previous = none
  position : t.bmu.position = 0
  record : t.bsc.blindRecord = true
  carry : s.oau.modeRecord = .gravimetric → t.oau.carry = 0
  zero : s.bmu.zero.state = .running → t.bmu.zero.state = .aborted ∧ t.bsc.zeroRecord = false
  suspended : s.bsc.state ≠ .supplyFault → t.bsc.state = .suspended
  closed : s.bsc.state = .opened → t.sli.refillCommand = false
  settled : t.bsc.state ≠ .deferred

theorem enterBlind_entered {s : State} (h : s.bmu.mode ≠ .blind) : BlindEntered s (enterBlind s) := by
  rw [enterBlind_eq h]
  constructor
  case zero => intro running; simp [running]
  case settled => dsimp only; split <;> exact nofun
  all_goals simp +contextual [clearWindow]

/-- The refill stands still under the reports of an event unless it was deferred (R159). -/
theorem RunsOn.valve_stands {acts : List Spout} {s t : State} (h : RunsOn acts s t) (hd : s.bsc.state ≠ .deferred) :
    t.sli.refillCommand = s.sli.refillCommand ∧ t.bmu.mode = s.bmu.mode ∧ t.oau.carry = s.oau.carry ∧
      t.bsc.state = s.bsc.state := by
  rcases h.valve with ⟨hr, hm, -, -, hc, hs, -⟩ | ⟨hs, -⟩
  · exact ⟨hr, hm, hc, hs⟩
  · exact absurd hs hd

theorem BlindEntered.runsOn {acts : List Spout} {s t u : State} (h : BlindEntered s t) (k : RunsOn acts t u) :
    BlindEntered s u := by
  obtain ⟨refill, -, carry, state⟩ := k.valve_stands h.settled
  constructor
  case carry => exact fun n => carry.trans (h.carry n)
  case suspended => exact fun n => state.trans (h.suspended n)
  case closed => exact fun n => refill.trans (h.closed n)
  case settled => exact state ▸ h.settled
  case zero => intro n; rw [k.bmu, k.bsc]; exact h.zero n
  case record => rw [k.bsc]; exact h.record
  all_goals rw [k.bmu]
  case ring => exact h.ring
  case cleanRun => exact h.cleanRun
  case previous => exact h.previous
  case position => exact h.position

theorem BlindEntered.of_parts {s t u : State} (h : BlindEntered s t) (bmu : u.bmu = t.bmu) (bsc : u.bsc = t.bsc)
    (oau : u.oau = t.oau) (sli : u.sli = t.sli) : BlindEntered s u := by
  obtain ⟨ring, cleanRun, previous, position, record, carry, zero, suspended, closed, settled⟩ := h
  constructor <;> simp only [bmu, bsc, oau, sli] <;> assumption

/-! ### The loss of lock -/

theorem setGate_gateOf (s : State) (i : Spout) : setGate s i (gateOf s i) = s := by
  simp only [setGate, gateOf, PerSpout.set_get]
  rfl

/-- The tails that the Gate Controllers judge, each with its spoiled mark (R7, R107). -/
theorem eachSpout_spoilTail (s : State) : eachSpout spoilTail s =
    s.withGate (.of fun i => { gateOf s i with tail := (gateOf s i).tail.map fun x => { x with spoiled := true } }) := by
  have one : ∀ i s, spoilTail i s =
      setGate s i { gateOf s i with tail := (gateOf s i).tail.map fun x => { x with spoiled := true } } := by
    intro i s
    unfold spoilTail
    cases h : (gateOf s i).tail with
    | none =>
      show s = setGate s i { gateOf s i with tail := none }
      rw [← h]
      exact (setGate_gateOf s i).symm
    | some x => rfl
  simp only [eachSpout, one]
  rfl

/-- The link's own part of entering SEEKING, the BMU's BLIND and the spoiled tails: the state that the reports of R7 find. -/
def seekingBase (s : State) : State := eachSpout spoilTail (enterBlind (sliSeek s))

theorem loadOf_seekingBase (s : State) (i : Spout) : loadOf (seekingBase s) i = loadOf s i := by
  rw [seekingBase, eachSpout_spoilTail]
  show (enterBlind (sliSeek s)).lm.slot.get i = _
  rw [(enterBlind_frame _).lm]
  rfl

theorem gateOf_seekingBase (s : State) (i : Spout) : gateOf (seekingBase s) i =
    { gateOf s i with tail := (gateOf s i).tail.map fun x => { x with spoiled := true } } := by
  have gates : ∀ j, gateOf (enterBlind (sliSeek s)) j = gateOf s j := by
    intro j; rw [gateOf, (enterBlind_frame _).gate]; rfl
  rw [seekingBase, eachSpout_spoilTail, ← gates i]
  exact PerSpout.get_of _ i

theorem enterSeeking_eq (s : State) : enterSeeking s = settle (lmSense true (settle (seekingBase s))) := rfl

/-- The LM's record of a report that the link has entered SEEKING or LOCKED. -/
def recordSeeking (seeking : Bool) (s : State) : State := s.withLm { s.lm with seeking := seeking }

@[simp] theorem recordSeeking_power (b : Bool) (s : State) : (recordSeeking b s).power = s.power := rfl
@[simp] theorem recordSeeking_sli (b : Bool) (s : State) : (recordSeeking b s).sli = s.sli := rfl
@[simp] theorem recordSeeking_bmu (b : Bool) (s : State) : (recordSeeking b s).bmu = s.bmu := rfl
@[simp] theorem recordSeeking_ssu (b : Bool) (s : State) : (recordSeeking b s).ssu = s.ssu := rfl
@[simp] theorem recordSeeking_oau (b : Bool) (s : State) : (recordSeeking b s).oau = s.oau := rfl
@[simp] theorem recordSeeking_lm (b : Bool) (s : State) :
    (recordSeeking b s).lm = { s.lm with seeking := b } := rfl
@[simp] theorem recordSeeking_ots (b : Bool) (s : State) : (recordSeeking b s).ots = s.ots := rfl
@[simp] theorem recordSeeking_bsc (b : Bool) (s : State) : (recordSeeking b s).bsc = s.bsc := rfl
@[simp] theorem recordSeeking_pc (b : Bool) (s : State) : (recordSeeking b s).pc = s.pc := rfl
@[simp] theorem recordSeeking_pm (b : Bool) (s : State) : (recordSeeking b s).pm = s.pm := rfl
@[simp] theorem recordSeeking_pending (b : Bool) (s : State) : (recordSeeking b s).pending = s.pending := rfl
@[simp] theorem loadOf_recordSeeking (b : Bool) (s : State) (i : Spout) :
    loadOf (recordSeeking b s) i = loadOf s i := rfl
@[simp] theorem gateOf_recordSeeking (b : Bool) (s : State) (i : Spout) :
    gateOf (recordSeeking b s) i = gateOf s i := rfl
@[simp] theorem sensorOf_recordSeeking (b : Bool) (s : State) (i : Spout) :
    sensorOf (recordSeeking b s) i = sensorOf s i := rfl

theorem lmSense_true (s : State) : lmSense true s = eachSpout (lmHold [.sense]) (recordSeeking true s) := rfl

/-- The LM's taking of SENSE, or of its end, acts on every spout's load. -/
theorem lmSense_runsOn (seeking : Bool) (s : State) :
    RunsOn Spout.all (recordSeeking seeking s) (lmSense seeking s) := by
  unfold lmSense
  dsimp only
  split
  · exact eachSpout_runsOn fun i t => lmHold_runsOn _ i t (.inl (mem_allSpouts i))
  · exact eachSpout_runsOn fun i t => lmLift_runsOn _ i t (.inl (mem_allSpouts i))

/-- What SENSE does at one spout (R102, R122): the load held, and a DISCHARGING load's gate closed. -/
theorem lmSense_true_at (s : State) (i : Spout) :
    loadOf (lmSense true s) i = (loadOf s i).map (Load.heldBy [.sense]) ∧
    (∀ l, loadOf s i = some l → l.state = .discharging →
      gateOf (lmSense true s) i = closedGate (gateOf s i) ∧
        ((gateOf s i).mode.discharging = true → (lmSense true s).sli.gateCommand.get i = 0)) ∧
    ((∀ l, loadOf s i = some l → l.state ≠ .discharging) →
      gateOf (lmSense true s) i = gateOf s i ∧
        (lmSense true s).sli.gateCommand.get i = s.sli.gateCommand.get i) := by
  obtain ⟨u, before, -, after, -⟩ := eachSpout_at (lmHold_confined [.sense]) i (recordSeeking true s)
  have load : loadOf u i = loadOf s i := before.load
  have gate : gateOf u i = gateOf s i := before.gate
  have command : u.sli.gateCommand.get i = s.sli.gateCommand.get i := before.command
  rw [lmSense_true, after.load, after.gate, after.command, ← load, ← gate, ← command,
    loadOf_lmHold (List.cons_ne_nil _ _)]
  exact ⟨rfl, gateOf_lmHold (List.cons_ne_nil _ _) i u⟩

/-- A load that records holds is HELD with SENSE once it is held by it. -/
theorem heldBy_sense {l : Load} (h : recordsHolds l.state) :
    (l.heldBy [.sense]).state = .held ∧ (l.heldBy [.sense]).causes.sense = true := by
  have records := (recordsHolds_iff _).mp h
  simp [Load.heldBy, records, Causes.add, Causes.put]

/-- Where no sample is FRESH in BLIND the reports leave a DISCHARGING load as it is or hold it, its gate then closed. -/
theorem settle_in_blind {s : State} {i : Spout} {l : Load} (hb : s.bmu.mode = .blind)
    (hc : (s.sli.impact.get i).state ≠ .fresh) (hl : loadOf s i = some l) (hs : l.state = .discharging) :
    (loadOf (settle s) i = some l ∧ gateOf (settle s) i = gateOf s i) ∨
    (∃ x, loadOf (settle s) i = some x ∧ x.state = .held) ∧ gateOf (settle s) i = closedGate (gateOf s i) ∧
      ((gateOf s i).mode.discharging = true → (settle s).sli.gateCommand.get i = 0) := by
  have rests : ∀ x, loadOf s i = some x → x.state ≠ .waiting := by
    intro x hx
    rw [hl] at hx
    cases hx
    rw [hs]
    exact nofun
  cases hd : (sensorOf s i).demand with
  | true =>
    have stands : Demanded i s := ⟨hc, .inr (.inl (by rw [hb]; exact nofun)), rests, hd⟩
    exact .inl ⟨stands.settle.load.trans hl, stands.settle.gate⟩
  | false =>
    obtain ⟨load, gate, -, -⟩ := examine_of_not_waiting rests
    have shared := examine_shared s
    have before : (sensorOf (examine s) i).demand = false := by rw [sensorOf, shared.ssu]; exact hd
    have condition : ((examine s).sli.impact.get i).state ≠ .fresh := shared.impact ▸ hc
    have blind : (examine s).bmu.mode = .blind := shared.blind.mpr hb
    have after : demandOf (examine s) i = true := by
      rw [demandOf_eq_true_iff, substitutionHolds_iff]
      refine ⟨condition, ?_⟩
      rintro ⟨-, -, mode, -⟩
      exact absurd (blind.symm.trans mode) nofun
    obtain ⟨held, closed⟩ := rejudge_begins before after
    obtain ⟨impact, -, stays, -⟩ := rejudge_inputs (examine s)
    have stands : Demanded i (rejudge (examine s)) :=
      { condition := impact ▸ condition
        unsubstituted := .inr (.inl (by rw [stays.mpr blind]; exact nofun))
        rests := fun x hx => heldBy_not_waiting (held ▸ hx)
        recorded := by rw [rejudge_demand, after] }
    obtain ⟨settled, -⟩ := settle_begins before after stands
    obtain ⟨gate_closed, command⟩ := closed l (load.trans hl) hs
    refine .inr ⟨⟨l.heldBy [.sensor], ?_, (heldBy_sensor (.inr (.inl hs))).1⟩, ?_, ?_⟩
    · rw [settled.load, held, load, hl]; rfl
    · rw [settled.gate, gate_closed, gate]
    · intro n
      rw [settled.command]
      exact command (gate ▸ n)

end Sys2Proof.Machine
end

section
/-! LOCK_TIMER_EXPIRY (O22) and STALENESS_TIMER_EXPIRY of an impact channel and of the bin channel (O23). -/

namespace Sys2Proof.Machine

/-! ### What an entry to SEEKING comes to -/

theorem seekingBase_parts (s : State) :
    (seekingBase s).power = s.power ∧ (seekingBase s).ots = s.ots ∧ (seekingBase s).pc = s.pc ∧
      (seekingBase s).pm = s.pm ∧ (seekingBase s).pending = s.pending ∧ (seekingBase s).lm = s.lm ∧
      (seekingBase s).bmu = (enterBlind (sliSeek s)).bmu ∧ (seekingBase s).bsc = (enterBlind (sliSeek s)).bsc ∧
      (seekingBase s).oau = (enterBlind (sliSeek s)).oau ∧ (seekingBase s).sli = (enterBlind (sliSeek s)).sli := by
  have frame := enterBlind_frame (sliSeek s)
  rw [seekingBase, eachSpout_spoilTail]
  exact ⟨frame.power, frame.ots, frame.pc, frame.pm, frame.pending, frame.lm, rfl, rfl, rfl, rfl⟩

theorem seekingBase_sli (s : State) : (seekingBase s).sli = { s.sli with
    lock := .seeking, lastSeq := none, lockTimer := none
    bin := .awaiting, impact := .all .awaiting, feedback := .all .awaiting
    refillCommand := (seekingBase s).sli.refillCommand } := by
  obtain ⟨-, -, -, -, -, -, -, -, -, sli⟩ := seekingBase_parts s
  rw [sli, (enterBlind_frame (sliSeek s)).sli]
  rfl

theorem seekingBase_mode (s : State) : (seekingBase s).bmu.mode = .blind := by
  obtain ⟨-, -, -, -, -, -, bmu, -⟩ := seekingBase_parts s
  rw [bmu]
  exact (enterBlind_frame _).mode

theorem seekingBase_entered {s : State} (h : s.bmu.mode ≠ .blind) : BlindEntered s (seekingBase s) := by
  obtain ⟨-, -, -, -, -, -, bmu, bsc, oau, sli⟩ := seekingBase_parts s
  have entered : BlindEntered (sliSeek s) (enterBlind (sliSeek s)) := enterBlind_entered h
  exact BlindEntered.of_parts (t := enterBlind (sliSeek s)) ⟨entered.ring, entered.cleanRun, entered.previous,
    entered.position, entered.record, entered.carry, entered.zero, entered.suspended, entered.closed, entered.settled⟩
    bmu bsc oau sli

/-- What the whole part is after an entry to SEEKING, whatever the loads do (R7). -/
structure SeekingEntered (s t : State) : Prop where
  sli : t.sli = { s.sli with
    lock := .seeking, lastSeq := none, lockTimer := none
    bin := .awaiting, impact := .all .awaiting, feedback := .all .awaiting
    gateCommand := t.sli.gateCommand, refillCommand := t.sli.refillCommand }
  mode : t.bmu.mode = .blind
  f : t.bmu.f = s.bmu.f
  blindEntered : t.bmu.blindEntered = (s.bmu.blindEntered || decide (s.bmu.mode ≠ .blind))
  entered : s.bmu.mode ≠ .blind → BlindEntered s t
  lm : t.lm = { s.lm with slot := t.lm.slot, demand := t.lm.demand, seeking := true }
  ots : t.ots = s.ots
  pm : t.pm = s.pm
  pc : t.pc = s.pc
  power : t.power = s.power
  pending : t.pending = s.pending

/-- The reports after the LM has recorded the loss of lock. -/
theorem enterSeeking_runsOn (s : State) :
    RunsOn Spout.all (recordSeeking true (settle (seekingBase s))) (enterSeeking s) := by
  rw [enterSeeking_eq]
  exact (lmSense_runsOn true _).trans (settle_runsOn _ _)

theorem enterSeeking_mode (s : State) : (enterSeeking s).bmu.mode = .blind := by
  have sense := (eachSpout_shared (lmHold_confined [.sense]) (recordSeeking true (settle (seekingBase s)))).blind
  rw [← lmSense_true, recordSeeking_bmu, settle_blind] at sense
  rw [enterSeeking_eq, settle_blind]
  exact sense.mpr (seekingBase_mode s)

theorem enterSeeking_blindEntered {s : State} (h : s.bmu.mode ≠ .blind) : BlindEntered s (enterSeeking s) := by
  have first := (seekingBase_entered h).runsOn (settle_runsOn Spout.all (seekingBase s))
  exact (first.of_parts (recordSeeking_bmu _ _) (recordSeeking_bsc _ _) (recordSeeking_oau _ _)
    (recordSeeking_sli _ _)).runsOn (enterSeeking_runsOn s)

theorem enterSeeking_entered (s : State) : SeekingEntered s (enterSeeking s) := by
  have first := settle_runsOn Spout.all (seekingBase s)
  have second := enterSeeking_runsOn s
  obtain ⟨power, ots, pc, pm, pending, lm, bmu, -, -, -⟩ := seekingBase_parts s
  have frame := enterBlind_frame (sliSeek s)
  constructor
  case sli => rw [second.sli, recordSeeking_sli, first.sli, seekingBase_sli]
  case mode => exact enterSeeking_mode s
  case f => rw [second.bmu, recordSeeking_bmu, first.bmu, bmu]; exact frame.f
  case blindEntered => rw [second.bmu, recordSeeking_bmu, first.bmu, bmu]; exact frame.entered
  case entered => exact enterSeeking_blindEntered
  case lm => rw [second.lm, recordSeeking_lm, first.lm, lm]
  case ots => rw [second.ots, recordSeeking_ots, first.ots, ots]
  case pm => rw [second.pm, recordSeeking_pm, first.pm, pm]
  case pc => rw [second.pc, recordSeeking_pc, first.pc, pc]
  case power => rw [second.power, recordSeeking_power, first.power, power]
  case pending => rw [second.pending, recordSeeking_pending, first.pending, pending]

/-- A tail in progress is spoiled, and nothing else of it moves (R7, R107). -/
theorem tail_enterSeeking (s : State) (i : Spout) :
    (gateOf (enterSeeking s) i).tail = (gateOf s i).tail.map fun x => { x with spoiled := true } := by
  have first := (settle_runsOn Spout.all (seekingBase s)).gate i
  have second := (enterSeeking_runsOn s).gate i
  rw [second.2.1, gateOf_recordSeeking, first.2.1, gateOf_seekingBase]

/-- A load that does not record holds is left alone by a loss of lock. -/
theorem loadOf_enterSeeking_of_not_records {s : State} {i : Spout} {l : Load} (hl : loadOf s i = some l)
    (h : ¬ recordsHolds l.state) : loadOf (enterSeeking s) i = some l := by
  have still : l.state = .armed ∨ l.state = .tailing := by cases hs : l.state <;> simp_all [recordsHolds]
  have keeps : ∀ {t u : State}, RunsOn Spout.all t u → loadOf t i = some l → loadOf u i = some l := by
    intro t u k ht
    have load := k.load i
    rw [ht] at load
    obtain ⟨x, hx, -, same, -⟩ := load
    exact same still ▸ hx
  have first : loadOf (settle (seekingBase s)) i = some l :=
    keeps (settle_runsOn _ (seekingBase s)) ((loadOf_seekingBase s i).trans hl)
  exact keeps (enterSeeking_runsOn s) (by rw [loadOf_recordSeeking, first])

/-- The load of spout `i` when the LM takes SENSE, HELD by it and so to the end of the event. -/
theorem loadOf_enterSeeking_of_records {s : State} {i : Spout} {l : Load} (hl : loadOf s i = some l)
    (h : recordsHolds l.state) :
    (∃ x, loadOf (enterSeeking s) i = some x ∧ x.state = .held ∧ x.causes.sense = true ∧ x.number = l.number ∧
      x.d = l.d) ∧
    gateOf (enterSeeking s) i = gateOf (lmSense true (settle (seekingBase s))) i ∧
    (enterSeeking s).sli.gateCommand.get i = (lmSense true (settle (seekingBase s))).sli.gateCommand.get i := by
  have first := (settle_runsOn [] (seekingBase s)).load i
  rw [loadOf_seekingBase, hl] at first
  obtain ⟨y, hy, same, -, records, -⟩ := first
  have sensed := (lmSense_true_at (settle (seekingBase s)) i).1
  rw [hy, Option.map_some] at sensed
  obtain ⟨held, sense⟩ := heldBy_sense (records h)
  have latched : latchedIn (y.heldBy [.sense]).causes := .inr (.inr (.inr sense))
  have last := settle_runsOn [] (lmSense true (settle (seekingBase s)))
  have idle : gateIdle (i ∈ []) (loadOf (lmSense true (settle (seekingBase s))) i)
      (gateOf (lmSense true (settle (seekingBase s))) i) := by
    refine .inr fun x hx => .inr (.inr ⟨List.not_mem_nil, ?_⟩)
    rw [sensed] at hx
    cases hx
    exact ⟨held, latched⟩
  have load := last.load i
  rw [sensed] at load
  obtain ⟨x, hx, kept, -, -, stands⟩ := load
  obtain ⟨-, -, -, sense_kept, stays⟩ := stands List.not_mem_nil
  have number : x.number = l.number ∧ x.d = l.d := by
    have heldBy_same : (y.heldBy [.sense]).number = y.number ∧ (y.heldBy [.sense]).d = y.d := by
      unfold Load.heldBy; split <;> exact ⟨rfl, rfl⟩
    rw [kept, same] at *
    exact heldBy_same
  exact ⟨⟨x, hx, stays held latched, sense_kept.trans sense, number⟩, (last.gate i).2.2 idle, last.command i idle⟩

/-- A DISCHARGING load's gate is closed once, by SENSOR or by SENSE (R102). -/
theorem gateOf_enterSeeking {s : State} {i : Spout} {l : Load} (hl : loadOf s i = some l)
    (hs : l.state = .discharging) :
    gateOf (enterSeeking s) i = { closedGate (gateOf s i) with tail := (gateOf (enterSeeking s) i).tail } ∧
      ((gateOf s i).mode.discharging = true → (enterSeeking s).sli.gateCommand.get i = 0) := by
  obtain ⟨-, gate, command⟩ := loadOf_enterSeeking_of_records hl (.inr (.inl hs))
  have base_gate := gateOf_seekingBase s i
  have awaiting : ((seekingBase s).sli.impact.get i).state ≠ .fresh := by
    rw [seekingBase_sli]
    show ((PerSpout.all Channel.awaiting).get i).state ≠ .fresh
    rw [PerSpout.get_all]
    exact nofun
  have closed : gateOf (enterSeeking s) i = closedGate (gateOf (seekingBase s) i) ∧
      ((gateOf s i).mode.discharging = true → (enterSeeking s).sli.gateCommand.get i = 0) := by
    rw [gate, command]
    obtain ⟨-, discharging, other⟩ := lmSense_true_at (settle (seekingBase s)) i
    rcases settle_in_blind (seekingBase_mode s) awaiting ((loadOf_seekingBase s i).trans hl) hs with
      ⟨load, same⟩ | ⟨⟨x, hx, held⟩, first, zero⟩
    · obtain ⟨h, c⟩ := discharging l load hs
      rw [h, same]
      exact ⟨rfl, fun n => c (by rw [same, base_gate]; exact n)⟩
    · obtain ⟨h, c⟩ := other fun y hy => by
        rw [hx] at hy
        cases hy
        rw [held]
        exact nofun
      rw [h, c]
      exact ⟨first, fun n => zero (by rw [base_gate]; exact n)⟩
  refine ⟨?_, closed.2⟩
  rw [tail_enterSeeking, closed.1, base_gate]
  unfold closedGate
  dsimp only
  split
  · rfl
  · split <;> rfl

theorem exec_lockTimerExpiry {s : State} (h : s.power = .running) : exec .lockTimerExpiry s = .next (lockExpires s) :=
  if_pos h

/-- Settles O22: below the limit nothing, in SEEKING the candidate, and in LOCKED `enterSeeking`, read off spout by spout. -/
theorem lockTimerExpiryEndsTheLock : Obligations.LockTimerExpiryEndsTheLock := by
  intro s hs due
  have due_iff : reached (lockLimitMs (working s)) s.sli.lockTimer = true ↔ due := reached_iff _ _
  rw [exec_lockTimerExpiry hs]
  refine ⟨?below, ?seeking, ?locked⟩
  case below =>
    intro h
    rw [lockExpires, if_neg (mt due_iff.mp h)]
  case seeking =>
    intro h hl
    rw [lockExpires, if_pos (due_iff.mpr h), hl]
    rfl
  case locked =>
    intro h hl
    have entered := enterSeeking_entered s
    have latch : (enterSeeking s).lm.latch = s.lm.latch := by rw [entered.lm]
    have seeking : (enterSeeking s).lm.seeking = true := by rw [entered.lm]
    refine ⟨enterSeeking s, by rw [lockExpires, if_pos (due_iff.mpr h), hl], entered.sli, entered.mode, entered.f,
      entered.blindEntered, ?blind, ?tails, ?loads, ?gates, ?others, seeking, latch, entered.ots, entered.pm, entered.pc,
      entered.power, entered.pending⟩
    case blind =>
      intro hm
      obtain ⟨ring, cleanRun, previous, position, record, carry, zero, suspended, closed, -⟩ := entered.entered hm
      exact ⟨ring, cleanRun, previous, position, record, carry, zero, suspended, closed⟩
    case tails => intro i x hx; rw [tail_enterSeeking, hx]; rfl
    case loads => exact fun i l hl hr => (loadOf_enterSeeking_of_records hl hr).1
    case gates => exact fun i l hl hd => gateOf_enterSeeking hl hd
    case others => exact fun i l hl hr => loadOf_enterSeeking_of_not_records hl hr

end Sys2Proof.Machine
end

section
/-! STALENESS_TIMER_EXPIRY of an impact channel and of the bin channel (O23). -/

namespace Sys2Proof.Machine

theorem exec_stalenessTimerExpiry {s : State} (h : s.power = .running) (c : Chan) :
    exec (.stalenessTimerExpiry c) s = .next (staleExpires c s) := if_pos h

/-- When a channel's staleness expiry acts (R13, log 2). -/
theorem stale_due_iff (s : State) (c : Chan) :
    ((channelOf s c).state = .fresh ∧ reached (staleLimitMs (working s)) (channelOf s c).timer = true) ↔
      (channelOf s c).state = .fresh ∧ ∃ n, (channelOf s c).timer = some n ∧
        (s.pm.working.staleFrames * s.pm.working.framePeriodUs + 999) / 1000 ≤ n :=
  and_congr_right fun _ => reached_iff _ _

/-! ### Events that bring no change of the demands -/

/-- A queue's head is granted when its rate is above 0 and fits the room (R75, R78). -/
theorem headFits_iff (s : State) (q : QueuePlace) : headFits s q = true ↔
    0 < min q.rate s.pm.working.budget ∧ rateOf s.dba .A + rateOf s.dba .B + rateOf s.dba .C +
      min q.rate s.pm.working.budget ≤ s.dba.effectiveBudget := by
  simp only [headFits, Bool.and_eq_true, decide_eq_true_eq]
  rfl

/-- An examination changes nothing while nothing in the queue can be granted. -/
theorem examine_of_queueWaits {s : State} (h : queueWaits s) : examine s = s := by
  unfold examine
  cases hq : s.dba.queue with
  | nil => rfl
  | cons q rest => exact if_neg fun fits => h q rest hq ((headFits_iff s q).mp fits)

/-- Reports that find nothing to grant and every demand as recorded change nothing. -/
theorem settle_of_agreed {s : State} (hq : queueWaits s) (hd : ∀ i, (sensorOf s i).demand = demandOf s i) :
    settle s = s := by
  have same : PerSpout.of (demandOf s) = demands s :=
    PerSpout.ext_get fun i => by rw [demands, PerSpout.get_of, PerSpout.get_of, hd]
  unfold settle settleFor
  simp only [examine_of_queueWaits hq, same, if_true]

/-! ### An impact channel -/

/-- The state in which the SSU judges its demands when the impact channel of spout `i` has gone STALE. -/
def impactStale (i : Spout) (s : State) : State :=
  { s with sli := { s.sli with
    impact := s.sli.impact.set i { state := .stale, lastGood := (s.sli.impact.get i).lastGood, timer := none } } }

theorem impactStale_condition (i : Spout) (s : State) : ((impactStale i s).sli.impact.get i).state ≠ .fresh := by
  simp [impactStale]

theorem impactStale_other {i j : Spout} (h : j ≠ i) (s : State) :
    (impactStale i s).sli.impact.get j = s.sli.impact.get j := PerSpout.get_set_other _ _ h

theorem staleExpires_impact {s : State} {i : Spout} (h : (channelOf s (.impact i)).state = .fresh ∧
      reached (staleLimitMs (working s)) (channelOf s (.impact i)).timer = true) :
    staleExpires (.impact i) s = settle (impactStale i s) := if_pos h

/-- Once the demand of spout `i` has begun and stands, the SSU and the LM have it and the load is HELD with SENSOR. -/
theorem settle_sensorHold {s : State} {i : Spout} (before : (sensorOf s i).demand = false)
    (after : demandOf (examine s) i = true) (stands : Demanded i (rejudge (examine s))) :
    (sensorOf (settle s) i).demand = true ∧ (settle s).lm.demand.get i = true ∧
      ∀ l, loadOf s i = some l → recordsHolds l.state →
        ∃ x, loadOf (settle s) i = some x ∧ x.state = .held ∧ x.causes.sensor = true := by
  have before' : (sensorOf (examine s) i).demand = false := by rw [sensorOf, (examine_shared s).ssu]; exact before
  obtain ⟨settled, reported⟩ := settle_begins before' after stands
  refine ⟨settled.recorded, reported, fun l hl hr => ?_⟩
  have load := (examine_runsOn [] s).load i
  rw [hl] at load
  obtain ⟨x, hx, -, -, records, -⟩ := load
  refine ⟨x.heldBy [.sensor], ?_, heldBy_sensor (records hr)⟩
  rw [settled.load, (rejudge_begins before' after).1, hx]
  rfl

/-- Under SENSOR_POLICY HOLD a channel that is not FRESH makes the demand, whatever the load does (R45). -/
theorem demandOf_of_hold {s : State} {i : Spout} (hc : (s.sli.impact.get i).state ≠ .fresh)
    (hp : s.pm.working.sensorPolicy = .hold) : demandOf s i = true := by
  rw [demandOf_eq_true_iff, substitutionHolds_iff, hp]
  exact ⟨hc, nofun⟩

theorem settle_hold {s : State} {i : Spout} (hc : (s.sli.impact.get i).state ≠ .fresh)
    (hp : s.pm.working.sensorPolicy = .hold) (before : (sensorOf s i).demand = false) :
    (sensorOf (settle s) i).demand = true ∧ (settle s).lm.demand.get i = true ∧
      ∀ l, loadOf s i = some l → recordsHolds l.state →
        ∃ x, loadOf (settle s) i = some x ∧ x.state = .held ∧ x.causes.sensor = true := by
  have shared := examine_shared s
  have before' : (sensorOf (examine s) i).demand = false := by rw [sensorOf, shared.ssu]; exact before
  have condition : ((examine s).sli.impact.get i).state ≠ .fresh := shared.impact ▸ hc
  have policy : (examine s).pm.working.sensorPolicy = .hold := by rw [shared.pm, hp]
  have after := demandOf_of_hold condition policy
  obtain ⟨impact, pm, -, -⟩ := rejudge_inputs (examine s)
  refine settle_sensorHold before after
    { condition := impact ▸ condition
      unsubstituted := .inl (by rw [pm, policy])
      rests := fun x hx => heldBy_not_waiting ((rejudge_begins before' after).1 ▸ hx)
      recorded := by rw [rejudge_demand, after] }

/-- Under BIN-SOLO a spout that does not draw alone in GRAVIMETRIC has its demand, and a load held by it rests (R41). -/
theorem settle_binSolo {s : State} {i : Spout} (hq : queueWaits s) (hc : (s.sli.impact.get i).state ≠ .fresh)
    (alone : ¬ (s.bmu.mode = .gravimetric ∧ draws s i ∧ ∀ j, j ≠ i → ¬ draws s j))
    (still : ∀ l, loadOf s i = some l → l.state ≠ .tailing) (before : (sensorOf s i).demand = false) :
    (sensorOf (settle s) i).demand = true ∧ (settle s).lm.demand.get i = true ∧
      ∀ l, loadOf s i = some l → recordsHolds l.state →
        ∃ x, loadOf (settle s) i = some x ∧ x.state = .held ∧ x.causes.sensor = true := by
  have after : demandOf s i = true := by
    rw [demandOf_eq_true_iff, substitutionHolds_iff]
    exact ⟨hc, fun n => alone n.2.2⟩
  have same := examine_of_queueWaits hq
  have held := (rejudge_begins before after).1
  have resting : ∀ x, loadOf (rejudge s) i = some x → x.state = .armed ∨ x.state = .held := by
    intro x hx
    rw [held] at hx
    obtain ⟨l, hl, rfl⟩ := Option.map_eq_some_iff.mp hx
    have := still l hl
    cases hs : l.state <;> simp_all [Load.heldBy, LoadState.records]
  refine settle_sensorHold before (by rw [same, after]) ?_
  rw [same]
  exact
    { condition := (rejudge_inputs s).1 ▸ hc
      unsubstituted := .inr (.inr resting)
      rests := fun x hx => heldBy_not_waiting (held ▸ hx)
      recorded := by rw [rejudge_demand, after] }

/-- Under BIN-SOLO a spout that draws alone in GRAVIMETRIC is substituted for, and no demand begins (R41, R45). -/
theorem demandOf_of_substituted {s : State} {i : Spout} (hp : s.pm.working.sensorPolicy = .binSolo)
    (hc : (s.sli.impact.get i).state ≠ .fresh)
    (alone : s.bmu.mode = .gravimetric ∧ draws s i ∧ ∀ j, j ≠ i → ¬ draws s j) :
    demandOf s i = false ∧ ∀ j, j ≠ i → demandOf s j = decide ((s.sli.impact.get j).state ≠ .fresh) := by
  constructor
  · rw [← Bool.not_eq_true, demandOf_eq_true_iff, substitutionHolds_iff]
    exact fun n => n.2 ⟨hp, hc, alone⟩
  · intro j hj
    rw [Bool.eq_iff_iff, demandOf_eq_true_iff, substitutionHolds_iff, decide_eq_true_eq]
    exact ⟨And.left, fun n => ⟨n, fun m => alone.2.2 j hj m.2.2.2.1⟩⟩

/-! ### The bin channel -/

/-- The state in which the BMU hears that the bin channel has gone STALE. -/
def binStale (s : State) : State :=
  { s with sli := { s.sli with bin := { state := .stale, lastGood := s.sli.bin.lastGood, timer := none } } }

theorem staleExpires_bin {s : State}
    (h : (channelOf s .bin).state = .fresh ∧ reached (staleLimitMs (working s)) (channelOf s .bin).timer = true) :
    staleExpires .bin s = settle (enterBlind (binStale s)) := if_pos h

/-- Settles O23: an impact channel by what the demand of its spout can do, the bin channel by the entry to BLIND. -/
theorem staleChannelIsReported : Obligations.StaleChannelIsReported := by
  intro s hs due
  have due_iff : ∀ c, ((channelOf s c).state = .fresh ∧
      reached (staleLimitMs (working s)) (channelOf s c).timer = true) ↔ due c := stale_due_iff s
  refine ⟨?below, ?impact, ?bin⟩
  case below =>
    intro c h
    rw [exec_stalenessTimerExpiry hs, staleExpires, if_neg (mt (due_iff c).mp h)]
  case impact =>
    intro i h stale
    rw [exec_stalenessTimerExpiry hs, staleExpires_impact ((due_iff _).mpr h)]
    refine ⟨_, rfl, settle_runsOn [] _, fun policy before => ?_, fun policy before waits => ⟨?_, ?_⟩⟩
    · exact settle_hold (s := impactStale i s) (impactStale_condition i s) policy before
    · intro alone others
      obtain ⟨own, rest⟩ := demandOf_of_substituted (s := impactStale i s) policy (impactStale_condition i s) alone
      refine settle_of_agreed (s := impactStale i s) waits fun j => ?_
      by_cases hj : j = i
      · rw [hj, own]; exact before
      · rw [rest j hj, impactStale_other hj]; exact others j hj
    · intro alone still
      exact settle_binSolo (s := impactStale i s) waits (impactStale_condition i s) alone still before
  case bin =>
    intro h
    have frame := enterBlind_frame (binStale s)
    have reports := settle_runsOn [] (enterBlind (binStale s))
    rw [exec_stalenessTimerExpiry hs, staleExpires_bin ((due_iff _).mpr h)]
    refine ⟨_, rfl, ?sli, (settle_blind _).mpr frame.mode, ?f, ?blindEntered, ?entered, reports.ots.trans frame.ots,
      reports.pm.trans frame.pm, reports.pc.trans frame.pc, ?latch, reports.power.trans frame.power,
      reports.pending.trans frame.pending⟩
    case sli => rw [reports.sli, frame.sli]; rfl
    case f => rw [reports.bmu]; exact frame.f
    case blindEntered => rw [reports.bmu]; exact frame.entered
    case latch => rw [reports.lm, frame.lm]; rfl
    case entered =>
      intro hm
      obtain ⟨ring, cleanRun, -, position, record, -, -, suspended, closed, -⟩ :=
        (enterBlind_entered (s := binStale s) hm).runsOn reports
      exact ⟨ring, cleanRun, position, record, suspended, closed⟩

end Sys2Proof.Machine
end

section
/-! The end of a load written as one record (R133), a gate's entry to FAULT (R106), and the two gate faults that bring both
about (O33). -/

namespace Sys2Proof

theorem PerSpout.set_set {α : Type} (x : PerSpout α) (i : Spout) (v w : α) : (x.set i v).set i w = x.set i w := by
  cases i <;> rfl

namespace Machine

theorem setGate_setGate (s : State) (i : Spout) (g h : Gate) : setGate (setGate s i g) i h = setGate s i h := by
  simp only [setGate, State.withGate, PerSpout.set_set]

/-! ### The end of a load -/

/-- A completion touches the OTS alone, and reads nothing else. -/
theorem complete_eq (i : Spout) (l : Load) (cause : EndCause) (s : State) :
    complete i l cause s = s.withOts (complete i l cause s).ots := by
  unfold complete updateOrder appendTicket
  dsimp only
  split <;> rfl

theorem complete_ots_congr (i : Spout) (l : Load) (cause : EndCause) {s t : State} (h : s.ots = t.ots) :
    (complete i l cause s).ots = (complete i l cause t).ots := by
  have through : ∀ u : State, (complete i l cause u).ots = (complete i l cause (State.reset.withOts u.ots)).ots := by
    intro u
    unfold complete updateOrder appendTicket findOrder
    dsimp only [State.withOts_ots]
    split <;> rfl
  rw [through s, through t, h]

/-- What a load's end does to its gate, and to the DBA if a grant was pending (R110). -/
theorem gateLoadEnded_eq (i : Spout) (s : State) : gateLoadEnded i s = { s with
    gate := s.gate.set i { gateOf s i with tail := none, cutoff := none, pendingGrant := none }
    dba := (gateLoadEnded i s).dba } := by
  unfold gateLoadEnded dropPending
  split
  · simp only [clearTail, gateOf_setGate_same, setGate_setGate]
    rfl
  · next h =>
    have none_pending : (gateOf s i).pendingGrant = none := by simpa [clearTail] using h
    simp only [clearTail, ← none_pending]
    rfl

/-- A pending part that names the ended load is gone (R67). -/
def pendingAfterEnd (i : Spout) (n : Nat) (pending : PerSpout (Option Pending)) : PerSpout (Option Pending) :=
  match pending.get i with
  | some p => if p.load = n then pending.set i none else pending
  | none => pending

theorem oauLoadEnded_eq (i : Spout) (n : Nat) (s : State) :
    oauLoadEnded i n s = s.withOau { s.oau with pending := pendingAfterEnd i n s.oau.pending } := by
  cases hp : s.oau.pending.get i with
  | none =>
    simp only [oauLoadEnded, pendingAfterEnd, hp]
    rfl
  | some p =>
    by_cases hn : p.load = n
    · simp only [oauLoadEnded, pendingAfterEnd, hp, if_pos hn]
    · simp only [oauLoadEnded, pendingAfterEnd, hp, if_neg hn]
      rfl

/-- The DBA's part of a load's end: a removal where the load waits or holds an allocation (R133). -/
def removedClaim (i : Spout) (l : Load) (s : State) : State :=
  if l.state = .waiting ∨ (s.dba.allocation.get i).isSome then dbaRemoval i s else s

theorem removedClaim_eq (i : Spout) (l : Load) (s : State) :
    removedClaim i l s = s.withDba { s.dba with
      allocation := (removedClaim i l s).dba.allocation, queue := (removedClaim i l s).dba.queue } := by
  unfold removedClaim
  split <;> rfl

/-- The end of a load is the record of R133, but for the DBA's part. -/
theorem endLoad_eq {i : Spout} {l : Load} (cause : EndCause) {s : State} (hl : loadOf s i = some l) :
    endLoad i cause false s = (endedBase i l cause s).withDba (gateLoadEnded i (removedClaim i l s)).dba := by
  have unfolded : endLoad i cause false s =
      emptySlot i (complete i l cause (oauLoadEnded i l.number (gateLoadEnded i (removedClaim i l s)))) := by
    simp only [endLoad, hl, removedClaim, Bool.false_eq_true, if_false]
  rw [unfolded, complete_eq, oauLoadEnded_eq, complete_ots_congr i l cause (t := s), gateLoadEnded_eq, removedClaim_eq]
  · rfl
  · rw [gateLoadEnded_eq, removedClaim_eq]; rfl

/-- A load's end changes no more of the DBA than allocations and places. -/
theorem gateLoadEnded_dba (i : Spout) (s : State) : (gateLoadEnded i s).dba = { s.dba with
    allocation := (gateLoadEnded i s).dba.allocation, queue := s.dba.queue } := by
  unfold gateLoadEnded dropPending
  split <;> rfl

/-- With a queue place only where the load waits, the spout of an ended load has no claim left. -/
theorem endLoad_noClaim {i : Spout} {l : Load} (cause : EndCause) {s : State} (hl : loadOf s i = some l)
    (hq : ∀ q ∈ s.dba.queue, q.spout = i → l.state = .waiting) : noClaim i (endLoad i cause false s) := by
  have removed : noClaim i (removedClaim i l s) := by
    unfold removedClaim
    split
    · refine ⟨PerSpout.get_set_same _ _ _, fun q hm => ?_⟩
      simp [dbaRemoval] at hm
      exact hm.2
    · next h =>
      simp only [not_or, Option.not_isSome_iff_eq_none] at h
      exact ⟨h.2, fun q hm hs => h.1 (hq q hm hs)⟩
  have released : noClaim i (gateLoadEnded i (removedClaim i l s)) := by
    unfold gateLoadEnded dropPending
    split
    · exact ⟨PerSpout.get_set_same _ _ _, removed.2⟩
    · exact removed
  rw [endLoad_eq cause hl]
  exact released

/-! ### A gate's entry to FAULT -/

/-- A fault latch takes one more report (R136). -/
theorem latchFault_eq (i : Spout) (kind : FaultKind) (s : State) : latchFault i kind s = s.withLm { s.lm with
    latch := s.lm.latch.set i (latchAfter (s.lm.latch.get i) kind (loadOf s i)) } := by
  unfold latchFault latchAfter latchOf
  dsimp only
  split <;> next h => rw [h]; rfl

/-- The gate of spout `i` in FAULT, with its outbound command (R89, R106). -/
def gateFaulted (i : Spout) (s : State) : State :=
  { s with
    gate := s.gate.set i { gateOf s i with
      mode := .fault, command := 0, closeTimer := none, pendingGrant := none, flowSum := 0, flowCount := 0 }
    sli := { s.sli with gateCommand := s.sli.gateCommand.set i 0 } }

/-- The gate in FAULT with the allocation released that it was opening or waiting on (R106). -/
def faultReleased (i : Spout) (s : State) : State :=
  if (gateOf s i).mode.discharging || (gateOf s i).pendingGrant.isSome
  then dbaRelease i (gateFaulted i s) else gateFaulted i s

theorem gateToFault_eq (i : Spout) (s : State) :
    gateToFault i s = leftDribble i (gateOf s i).mode (faultReleased i s) := by
  have faulted : setCommand i 0 (setGate s i { gateOf s i with
      mode := .fault, closeTimer := none, pendingGrant := none, flowSum := 0, flowCount := 0 }) = gateFaulted i s := by
    simp only [setCommand, gateOf_setGate_same, setGate_setGate]
    rfl
  unfold gateToFault faultReleased
  dsimp only
  rw [faulted]

theorem faultReleased_parts (i : Spout) (s : State) :
    (faultReleased i s).lm = s.lm ∧ (faultReleased i s).gate = (gateFaulted i s).gate ∧
      (faultReleased i s).ots = s.ots ∧ (faultReleased i s).oau = s.oau ∧
      (faultReleased i s).sli = (gateFaulted i s).sli ∧ (faultReleased i s).dba.queue = s.dba.queue ∧
      (faultReleased i s).bsc = s.bsc := by
  unfold faultReleased
  split <;> exact ⟨rfl, rfl, rfl, rfl, rfl, rfl, rfl⟩

/-- Besides the gate and its command an entry to FAULT makes only the reports of R80 and R156. -/
theorem gateToFault_runsOn (i : Spout) (s : State) : RunsOn [] (gateFaulted i s) (gateToFault i s) := by
  have released : RunsOn [] (gateFaulted i s) (faultReleased i s) := by
    unfold faultReleased
    split
    · exact dbaRelease_runsOn [] _ i
    · exact .refl [] _
  rw [gateToFault_eq]
  exact released.trans (leftDribble_runsOn [] _ i _)

/-- Reports that have moved no load, gate, order or pending part: they go on beside any change of these. -/
structure Beside (s t : State) : Prop where
  reports : RunsOn [] s t
  lm : t.lm = s.lm
  gate : t.gate = s.gate
  ots : t.ots = s.ots
  pending : t.oau.pending = s.oau.pending
  command : t.sli.gateCommand = s.sli.gateCommand

theorem Beside.replaced {s t : State} (h : Beside s t) (lm : Lm) (gate : PerSpout Gate) (ots : Ots)
    (pending : PerSpout (Option Pending)) :
    RunsOn [] { s with lm := lm, gate := gate, ots := ots, oau := { s.oau with pending := pending } }
      { t with lm := lm, gate := gate, ots := ots, oau := { t.oau with pending := pending } } :=
  { h.reports with
    ots := rfl
    lm := rfl
    oau := by dsimp only; rw [h.reports.oau]
    load := fun _ => .refl _ _
    gate := fun _ => ⟨rfl, rfl, fun _ => rfl⟩
    command := fun i _ => by rw [h.command] }

theorem gateToFault_beside (i : Spout) (s : State) : Beside (gateFaulted i s) (gateToFault i s) := by
  obtain ⟨lm, gate, ots, oau, sli, -, -⟩ := faultReleased_parts i s
  refine ⟨gateToFault_runsOn i s, ?_, ?_, ?_, ?_, ?_⟩ <;> rw [gateToFault_eq, leftDribble_eq]
  · exact lm
  · exact gate
  · exact ots
  · exact (congrArg Oau.pending oau :)
  · exact (congrArg Sli.gateCommand sli :)

/-- The fault latched and the load ended with SPOUT FAULT, once the gate is in FAULT (R135, R136). -/
def faultTaken (i : Spout) (kind : FaultKind) (s : State) : State :=
  match loadOf s i with
  | none => latchFault i kind s
  | some l => endedBase i (l.noteFault kind) .spoutFault (latchFault i kind s)

theorem faultEndedBase_eq (i : Spout) (kind : FaultKind) (s : State) :
    faultEndedBase i kind s = faultTaken i kind (gateFaulted i s) := by
  have base : faultedBase i kind s = latchFault i kind (gateFaulted i s) := by rw [latchFault_eq]; rfl
  have load : loadOf (gateFaulted i s) i = loadOf s i := rfl
  unfold faultEndedBase faultTaken
  rw [base, load]
  cases loadOf s i <;> rfl

/-- What `faultTaken` changes, and what it reads. -/
theorem faultTaken_frame (i : Spout) (kind : FaultKind) (s : State) : faultTaken i kind s = { s with
    lm := (faultTaken i kind s).lm, gate := (faultTaken i kind s).gate, ots := (faultTaken i kind s).ots
    oau := { s.oau with pending := (faultTaken i kind s).oau.pending } } := by
  unfold faultTaken
  rw [latchFault_eq]
  split <;> rfl

theorem Beside.faultTaken {s t : State} (h : Beside s t) (i : Spout) (kind : FaultKind) :
    RunsOn [] (faultTaken i kind s) (faultTaken i kind t) := by
  have load : loadOf t i = loadOf s i := by rw [loadOf, h.lm]; rfl
  have gate : gateOf t i = gateOf s i := by rw [gateOf, h.gate]; rfl
  have same : (Machine.faultTaken i kind t).lm = (Machine.faultTaken i kind s).lm ∧
      (Machine.faultTaken i kind t).gate = (Machine.faultTaken i kind s).gate ∧
      (Machine.faultTaken i kind t).ots = (Machine.faultTaken i kind s).ots ∧
      (Machine.faultTaken i kind t).oau.pending = (Machine.faultTaken i kind s).oau.pending := by
    unfold Machine.faultTaken
    rw [latchFault_eq, latchFault_eq, load, h.lm]
    split
    · exact ⟨rfl, h.gate, h.ots, h.pending⟩
    · next l hl =>
      refine ⟨rfl, ?_, complete_ots_congr i _ _ h.ots, ?_⟩
      · show t.gate.set i { gateOf t i with tail := none, cutoff := none, pendingGrant := none } = _
        rw [h.gate, gate]
        rfl
      · show pendingAfterEnd i l.number t.oau.pending = pendingAfterEnd i l.number s.oau.pending
        rw [h.pending]
  obtain ⟨lm, gates, ots, pending⟩ := same
  rw [faultTaken_frame i kind s, faultTaken_frame i kind t, lm, gates, ots, pending]
  exact h.replaced _ _ _ _

/-- What a gate fault leaves before the reports of its event. -/
def gateFaultEnds (i : Spout) (kind : FaultKind) (s : State) : State :=
  endLoad i .spoutFault false (noteLoadFault i (·.noteFault kind) (latchFault i kind (gateToFault i s)))

theorem gateFault_eq (i : Spout) (kind : FaultKind) (s : State) :
    gateFault i kind s = settle (gateFaultEnds i kind s) := rfl

/-- A load's end under a fault just noted is the end of the load as it was, with the note. -/
theorem endLoad_noted {i : Spout} {l : Load} {f : Load → Load} {s : State} (cause : EndCause) (hl : loadOf s i = some l) :
    ∃ d : Dba, endLoad i cause false (noteLoadFault i f s) = (endedBase i (f l) cause s).withDba d ∧
      d = { s.dba with allocation := d.allocation, queue := d.queue } := by
  have noted : noteLoadFault i f s = setLoad s i (some (f l)) := by simp only [noteLoadFault, hl]
  have slot : (setLoad s i (some (f l))).lm.slot.set i none = s.lm.slot.set i none := PerSpout.set_set _ _ _ _
  rw [noted, endLoad_eq cause (loadOf_setLoad_same s i _)]
  refine ⟨(gateLoadEnded i (removedClaim i (f l) (setLoad s i (some (f l))))).dba, ?_, ?_⟩
  · unfold endedBase
    rw [slot, complete_ots_congr i (f l) cause (s := setLoad s i (some (f l))) (t := s) rfl]
    rfl
  · rw [gateLoadEnded_dba, removedClaim_eq]
    rfl

/-- A gate fault comes to the statements' record, but for the claim, the dribble set and a deferred valve. -/
theorem gateFaultEnds_runsOn (i : Spout) (kind : FaultKind) (s : State) :
    RunsOn [] (faultEndedBase i kind s) (gateFaultEnds i kind s) := by
  have taken := (gateToFault_beside i s).faultTaken i kind
  rw [← faultEndedBase_eq] at taken
  refine taken.trans ?_
  unfold gateFaultEnds faultTaken
  generalize gateToFault i s = y
  have load : loadOf (latchFault i kind y) i = loadOf y i := by rw [latchFault_eq]; rfl
  cases hl : loadOf y i with
  | none =>
    simp only [noteLoadFault, load, hl, endLoad]
    exact .refl _ _
  | some l =>
    obtain ⟨d, ended, hd⟩ := endLoad_noted (f := (·.noteFault kind)) .spoutFault (load.trans hl)
    rw [ended]
    exact withDba_runsOn hd

/-! ### The departure from DRIBBLE -/

/-- A departure takes the spout out of the dribble set, and opens a deferred valve if it empties the set (R156, R159). -/
theorem dribbleLeft_leaves (i : Spout) (s : State) :
    (dribbleLeft i s).bsc.dribbleSet.get i = false ∧
      (s.bsc.state = .deferred → (∀ j, j ≠ i → s.bsc.dribbleSet.get j = false) →
        (dribbleLeft i s).bsc.state = .opened ∧ (dribbleLeft i s).bsc.deferralTimer = none ∧
        (dribbleLeft i s).bsc.refillTimer = some 0 ∧ (dribbleLeft i s).sli.refillCommand = true ∧
        (dribbleLeft i s).bmu.refillMark = true) := by
  have left : (s.bsc.dribbleSet.set i false).get i = false := PerSpout.get_set_same _ _ _
  unfold dribbleLeft
  dsimp only
  constructor
  · split
    · rw [openValve_eq]; exact left
    · exact left
  · intro deferred others
    have emptied : s.bsc.dribbleSet.set i false = .all false := PerSpout.ext_get fun j => by
      rw [PerSpout.get_set, PerSpout.get_all]
      split
      · rfl
      · next hj => exact others j hj
    rw [if_pos ⟨emptied, deferred⟩, openValve_eq]
    exact ⟨rfl, rfl, rfl, rfl, rfl⟩

theorem gateFaultEnds_parts (i : Spout) (kind : FaultKind) (s : State) :
    (gateFaultEnds i kind s).bsc = (gateToFault i s).bsc ∧
      (gateFaultEnds i kind s).sli.refillCommand = (gateToFault i s).sli.refillCommand ∧
      (gateFaultEnds i kind s).bmu.refillMark = (gateToFault i s).bmu.refillMark := by
  unfold gateFaultEnds
  generalize gateToFault i s = y
  rw [latchFault_eq]
  cases hl : loadOf (y.withLm { y.lm with
      latch := y.lm.latch.set i (latchAfter (y.lm.latch.get i) kind (loadOf y i)) }) i with
  | none =>
    simp only [noteLoadFault, hl, endLoad]
    exact ⟨rfl, rfl, rfl⟩
  | some l =>
    obtain ⟨d, ended, -⟩ := endLoad_noted (f := (·.noteFault kind)) .spoutFault hl
    rw [ended]
    exact ⟨rfl, rfl, rfl⟩

/-- The valve that a departure from DRIBBLE has opened stays open under the reports (R159). -/
theorem RunsOn.valve_opened {acts : List Spout} {s t : State} (h : RunsOn acts s t) (ho : s.bsc.state = .opened) :
    t.bsc.state = s.bsc.state ∧ t.bsc.deferralTimer = s.bsc.deferralTimer ∧
      t.bsc.refillTimer = s.bsc.refillTimer ∧ t.sli.refillCommand = s.sli.refillCommand ∧
      t.bmu.refillMark = s.bmu.refillMark := by
  rcases h.valve with ⟨hr, -, hk, -, -, hs, hd, ht⟩ | ⟨hs, -⟩
  · exact ⟨hs, hd, ht, hr, hk⟩
  · exact absurd (ho.symm.trans hs) nofun

theorem gateFault_leavesDribble (i : Spout) (kind : FaultKind) (s : State)
    (empty : loadOf (gateFaultEnds i kind s) i = none) : LeavesDribble i s (gateFault i kind s) := by
  intro dribbling
  obtain ⟨bsc, refill, mark⟩ := gateFaultEnds_parts i kind s
  have departs : gateToFault i s = dribbleLeft i (faultReleased i s) := by
    rw [gateToFault_eq, leftDribble, if_pos dribbling]
  obtain ⟨left, opens⟩ := dribbleLeft_leaves i (faultReleased i s)
  obtain ⟨-, -, -, -, -, -, released⟩ := faultReleased_parts i s
  rw [gateFault_eq]
  refine ⟨?_, fun deferred others => ?_⟩
  · rw [(settle_of_empty empty).2, bsc, departs, left]
  · obtain ⟨state, deferral, timer, command, marked⟩ :=
      opens (by rw [released]; exact deferred) (by rw [released]; exact others)
    rw [← departs] at state deferral timer command marked
    obtain ⟨s1, s2, s3, s4, s5⟩ := (settle_runsOn [] (gateFaultEnds i kind s)).valve_opened (by rw [bsc, state])
    exact ⟨by rw [s1, bsc, state], by rw [s2, bsc, deferral], by rw [s3, bsc, timer], by rw [s4, refill, command],
      by rw [s5, mark, marked]⟩

/-! ### The claim of a faulted spout -/

/-- What `GrantsAgree` says of the claim of spout `i`. -/
theorem GrantsAgree.claim {s : State} (h : GrantsAgree s) (i : Spout) :
    ((s.dba.allocation.get i).isSome → (gateOf s i).mode.discharging = true ∨ (gateOf s i).pendingGrant.isSome) ∧
      ∀ q ∈ s.dba.queue, q.spout = i → ∃ l, loadOf s i = some l ∧ l.state = .waiting := by
  obtain ⟨-, queue, -, claim⟩ := h
  refine ⟨(claim.granted i).mp, fun q hq hi => ?_⟩
  obtain ⟨l, hl, hs, -⟩ := queue.waiting q hq
  exact ⟨l, hi ▸ hl, hs⟩

/-- The agreement does not read the channels. -/
theorem GrantsAgree.staleFeedback {s : State} (h : GrantsAgree s) {x : PerSpout Channel} :
    GrantsAgree { s with sli := { s.sli with feedback := x } } := by
  obtain ⟨gate, queue, budget, claim⟩ := h
  exact ⟨⟨gate.outbound, gate.shut, gate.pendingCloses, gate.opened, gate.tailing⟩,
    ⟨queue.once, queue.waiting, queue.noClaim⟩, ⟨budget.budget, budget.fits⟩,
    ⟨claim.granted, claim.faulted, claim.asked⟩⟩

theorem gateFaultEnds_noClaim {i : Spout} (kind : FaultKind) {s : State}
    (granted : (s.dba.allocation.get i).isSome →
      (gateOf s i).mode.discharging = true ∨ (gateOf s i).pendingGrant.isSome)
    (queued : ∀ q ∈ s.dba.queue, q.spout = i → ∃ l, loadOf s i = some l ∧ l.state = .waiting) :
    noClaim i (gateFaultEnds i kind s) := by
  have released : (faultReleased i s).dba.allocation.get i = none := by
    unfold faultReleased
    split
    · exact PerSpout.get_set_same _ _ _
    · next h =>
      simp only [Bool.or_eq_true, not_or] at h
      exact Option.not_isSome_iff_eq_none.mp fun n => (granted n).elim h.1 h.2
  obtain ⟨-, -, -, -, -, queue, -⟩ := faultReleased_parts i s
  have dba : (gateToFault i s).dba = (faultReleased i s).dba := by rw [gateToFault_eq, leftDribble_eq]
  have lm := (gateToFault_beside i s).lm
  have load : loadOf (latchFault i kind (gateToFault i s)) i = loadOf s i := by
    rw [latchFault_eq]; show (gateToFault i s).lm.slot.get i = _; rw [lm]; rfl
  have latched_dba : (latchFault i kind (gateToFault i s)).dba = (faultReleased i s).dba := by
    rw [latchFault_eq]; exact dba
  unfold gateFaultEnds
  generalize latchFault i kind (gateToFault i s) = z at load latched_dba
  cases hl : loadOf s i with
  | none =>
    have stays : endLoad i .spoutFault false (noteLoadFault i (·.noteFault kind) z) = z := by
      simp only [noteLoadFault, load, hl, endLoad]
    rw [stays, noClaim, latched_dba, queue]
    refine ⟨released, fun q hq hi => ?_⟩
    obtain ⟨l, hn, -⟩ := queued q hq hi
    exact absurd (hl.symm.trans hn) nofun
  | some l =>
    have noted : noteLoadFault i (·.noteFault kind) z = setLoad z i (some (l.noteFault kind)) := by
      simp only [noteLoadFault, load, hl]
    rw [noted]
    refine endLoad_noClaim _ (loadOf_setLoad_same _ _ _) fun q hq hi => ?_
    have mem : q ∈ s.dba.queue := by rw [← queue, ← latched_dba]; exact hq
    obtain ⟨x, hx, hs⟩ := queued q mem hi
    rw [hl] at hx
    cases hx
    exact hs

/-! ### Both gate faults -/

/-- What either gate fault comes to (R106, R135, R136). -/
structure FaultEnded (i : Spout) (kind : FaultKind) (s t : State) : Prop where
  reports : RunsOn [] (faultEndedBase i kind s) t
  mode : (gateOf t i).mode = .fault
  command : t.sli.gateCommand.get i = 0
  load : loadOf t i = none
  claim : GrantsAgree s → noClaim i t
  dribble : LeavesDribble i s t

theorem faultEndedBase_at (i : Spout) (kind : FaultKind) (s : State) :
    (gateOf (faultEndedBase i kind s) i).mode = .fault ∧ (faultEndedBase i kind s).sli.gateCommand.get i = 0 ∧
      loadOf (faultEndedBase i kind s) i = none := by
  unfold faultEndedBase
  split
  · next h => exact ⟨by simp [faultedBase, gateOf], PerSpout.get_set_same _ _ _, h⟩
  · exact ⟨by simp [endedBase, faultedBase, gateOf], PerSpout.get_set_same _ _ _, PerSpout.get_set_same _ _ _⟩

theorem gateFault_ended (i : Spout) (kind : FaultKind) (s : State) : FaultEnded i kind s (gateFault i kind s) := by
  have before := gateFaultEnds_runsOn i kind s
  have reports : RunsOn [] (faultEndedBase i kind s) (gateFault i kind s) := before.trans (settle_runsOn [] _)
  obtain ⟨mode, command, load⟩ := faultEndedBase_at i kind s
  have idle : gateIdle (i ∈ []) (loadOf (faultEndedBase i kind s) i) (gateOf (faultEndedBase i kind s) i) := .inl mode
  have empty : ∀ {t}, RunsOn [] (faultEndedBase i kind s) t → loadOf t i = none := by
    intro t k
    have none_runs := k.load i
    rw [load] at none_runs
    exact none_runs
  refine ⟨reports, ?_, (reports.command i idle).trans command, empty reports, fun agree => ?_,
    gateFault_leavesDribble i kind s (empty before)⟩
  · rw [(reports.gate i).2.2 idle, mode]
  · obtain ⟨granted, queued⟩ := agree.claim i
    exact settle_noClaim (empty before) (gateFaultEnds_noClaim kind granted queued)

theorem exec_closeTimerExpiry {s : State} (h : s.power = .running) (i : Spout) :
    exec (.closeTimerExpiry i) s = .next (if closeDue s i then gateFault i .gateStuck s else s) := if_pos h

/-- Settles O33: both faults are `gateFault`, one of a gate still CLOSING, one of a feedback channel gone STALE. -/
theorem gateFaultsEndTheLoad : Obligations.GateFaultsEndTheLoad := by
  intro s i hs
  refine ⟨?stuck, ?below, ?feedback⟩
  case stuck =>
    intro n mode timer limit
    have ended := gateFault_ended i .gateStuck s
    rw [exec_closeTimerExpiry hs, if_pos ((closeDue_iff s i).mpr ⟨mode, n, timer, limit⟩)]
    exact ⟨_, rfl, ended.reports, ended.mode, ended.command, ended.load, ended.claim⟩
  case below =>
    intro h
    rw [exec_closeTimerExpiry hs, if_neg]
    intro due
    obtain ⟨mode, n, timer, limit⟩ := (closeDue_iff s i).mp due
    exact absurd limit (Nat.not_le.mpr (h n mode timer))
  case feedback =>
    intro n fresh timer limit stale s'
    have due := (stale_due_iff s (.feedback i)).mpr ⟨fresh, n, timer, limit⟩
    have expires : staleExpires (.feedback i) s = if s'.sli.lock = .locked then gateFault i .gateFeedback s' else s' :=
      if_pos due
    rw [exec_stalenessTimerExpiry hs, expires]
    constructor
    · intro (seeking : s'.sli.lock = .seeking)
      rw [if_neg (by rw [seeking]; exact nofun)]
    · intro (locked : s'.sli.lock = .locked)
      have ended := gateFault_ended i .gateFeedback s'
      rw [if_pos locked]
      exact ⟨_, rfl, ended.reports, ended.mode, ended.load, fun agree => ended.claim agree.staleFeedback, ended.dribble⟩

end Machine
end Sys2Proof
end

section
/-! SET_PARAMETER at the owners of the parameters (O57): the request taken and answered around the change, the demands under
a new SENSOR_POLICY, the head of the queue under a new BUDGET, an emptied history and a restarted link. -/

namespace Sys2Proof.Machine

/-! ### The request around the change -/

/-- The dispatch port with a request in progress, its bytes and its gap timer gone (R172). -/
def dispatchTaken (c : Instr) (s : State) : State :=
  { s with pc := { s.pc with dispatch := { s.pc.dispatch with
    receive := .answering, buffer := [], gapTimer := none, request := some c, reply := none } } }

theorem takeRequest_dispatch (c : Instr) (s : State) : takeRequest .dispatch c s = dispatchTaken c s := rfl

theorem portTakes_of_takes {p : Port} {c : Instr} {s : State} (h : takes p c s) : portTakes p c s = true := by
  rcases h with h | ⟨h, k⟩
  · simp [portTakes, h]
  · simp [portTakes, h, k]

/-- A dispatch request of a right form that its port takes is served and answered (R172 to R174). -/
theorem serveDispatch_of_takes {c : Instr} {kind : Byte} {len : Nat} {act : State → Answer} {s : State}
    (h : takes .dispatch c s) : serveDispatch c .dispatch kind len len true act s =
      answer .dispatch kind (act (dispatchTaken c s)).result (act (dispatchTaken c s)).fields
        (act (dispatchTaken c s)).state := by
  simp [serveDispatch, withRequest, portTakes_of_takes h, takeRequest_dispatch, formRefusal]

theorem paramOfId_of_mem {id : Byte} {p : ParamId} (h : (id.toNat, p) ∈ paramTable) : paramOfId id = some p := by
  have ids : (paramTable.map Prod.fst).Nodup := by decide
  unfold paramOfId
  generalize paramTable = table at h ids
  induction table with
  | nil => cases h
  | cons row rest ih =>
    rw [List.map_cons, List.nodup_cons] at ids
    rcases List.mem_cons.mp h with rfl | h
    · simp
    · have other : row.1 ≠ id.toNat := by
        rintro same
        exact ids.1 (same ▸ List.mem_map_of_mem h)
      rw [List.find?_cons_of_neg (by simpa using other)]
      exact ih h ids.2

/-- The working values replaced and the request taken: the state in which the owner acts on the change (R182). -/
def paramChanged (c : Instr) (w : Params) (s : State) : State := setWorking (dispatchTaken c s) w

/-- An accepted SET PARAMETER (R182): the owner acts on the new value, and the request is answered OK. -/
theorem exec_setParameter {s : State} {id : Byte} {value : BitVec 32} {p : ParamId} (hs : s.power = .running)
    (hp : (id.toNat, p) ∈ paramTable) (ht : takes .dispatch (.setParameter .dispatch 6 id value) s)
    (accepted : paramRefusal (dispatchTaken (.setParameter .dispatch 6 id value) s) p value.toInt = none) :
    exec (.setParameter .dispatch 6 id value) s = .next (answer .dispatch 0x27 .ok [] (paramEffect p
      (paramChanged (.setParameter .dispatch 6 id value) (paramSet s.pm.working p value.toInt) s))) := by
  have runs : exec (.setParameter .dispatch 6 id value) s =
      .next (serveDispatch (.setParameter .dispatch 6 id value) .dispatch 0x27 6 6 true (changeParam id value.toInt) s) :=
    if_pos hs
  rw [runs, serveDispatch_of_takes ht]
  simp only [changeParam, paramOfId_of_mem hp, accepted]
  rfl

/-- A change that is in its range, no level, not locked and not busy is accepted (R182). -/
theorem paramRefusal_eq_none {s : State} {p : ParamId} {v : Int} (range : paramInRange p v = true)
    (level : paramIsLevel p = false) (locked : (paramLocked p && s.pm.custodyLock) = false)
    (busy : paramBusy s p = false) : paramRefusal s p v = none := by
  simp [paramRefusal, range, level, locked, busy]

theorem anyLoad_eq_false {s : State} (h : ∀ i, loadOf s i = none) : anyLoad s = false := by
  simp [anyLoad, h]

theorem zeroRunning_eq_false {s : State} (h : s.bmu.zero.state ≠ .running) : zeroRunning s = false := by
  simp [zeroRunning, h]

/-! ### Demands under a new policy (R45, R46) -/

/-- A demand whose inputs keep it at `d` through the reports is recorded at `d` at their end. -/
theorem settle_demand {R : State → Prop} {i : Spout} {d : Bool} (examineR : ∀ t, R t → R (examine t))
    (rejudgeR : ∀ t, R t → R (rejudge t)) (demand : ∀ t, R t → demandOf t i = d) {s : State} (h : R s) :
    (sensorOf (settle s) i).demand = d := by
  refine (settle_establishes (Q := fun t => R t ∧ (sensorOf t i).demand = d) (fun same => ?_) ?_ ?_ ?_).2
  · have at_i := congrArg (fun x => x.get i) same
    simp only [demands, PerSpout.get_of] at at_i
    exact ⟨examineR s h, at_i.symm.trans (demand _ (examineR s h))⟩
  · exact ⟨rejudgeR _ (examineR s h), by rw [rejudge_demand, demand _ (examineR s h)]⟩
  · exact fun t ⟨ht, hd⟩ => ⟨examineR t ht, by rw [sensorOf, (examine_shared t).ssu]; exact hd⟩
  · exact fun t ⟨ht, _⟩ => ⟨rejudgeR t ht, by rw [rejudge_demand, demand t ht]⟩

theorem settle_demand_of_fresh {s : State} {i : Spout} (h : (s.sli.impact.get i).state = .fresh) :
    (sensorOf (settle s) i).demand = false :=
  settle_demand (R := fun t => (t.sli.impact.get i).state = .fresh)
    (fun t ht => by rw [(examine_shared t).impact]; exact ht) (fun t ht => by rw [(rejudge_inputs t).1]; exact ht)
    (fun _ => demandOf_of_fresh) h

theorem settle_demand_of_hold {s : State} {i : Spout} (hc : (s.sli.impact.get i).state ≠ .fresh)
    (hp : s.pm.working.sensorPolicy = .hold) : (sensorOf (settle s) i).demand = true :=
  settle_demand (R := fun t => (t.sli.impact.get i).state ≠ .fresh ∧ t.pm.working.sensorPolicy = .hold)
    (fun t ht => by rw [(examine_shared t).impact, (examine_shared t).pm]; exact ht)
    (fun t ht => by rw [(rejudge_inputs t).1, (rejudge_inputs t).2.1]; exact ht)
    (fun _ ht => demandOf_of_hold ht.1 ht.2) ⟨hc, hp⟩

/-- A load that is ARMED or HELD draws nothing, so nothing substitutes for its sensor (R41). -/
theorem demandOf_of_resting {s : State} {i : Spout} (hc : (s.sli.impact.get i).state ≠ .fresh)
    (rests : ∀ l, loadOf s i = some l → l.state = .armed ∨ l.state = .held) : demandOf s i = true := by
  rw [demandOf_eq_true_iff, substitutionHolds_iff]
  refine ⟨hc, ?_⟩
  rintro ⟨-, -, -, ⟨l, hl, hs⟩, -⟩
  rcases rests l hl with hr | hr <;> rcases hs with hs | hs <;> exact absurd (hr.symm.trans hs) nofun

theorem settle_demand_of_resting {s : State} {i : Spout} (hc : (s.sli.impact.get i).state ≠ .fresh)
    (rests : ∀ l, loadOf s i = some l → l.state = .armed ∨ l.state = .held) :
    (sensorOf (settle s) i).demand = true := by
  refine settle_demand (R := fun t => (t.sli.impact.get i).state ≠ .fresh ∧
    ∀ l, loadOf t i = some l → l.state = .armed ∨ l.state = .held) ?_ ?_ (fun t ht => demandOf_of_resting ht.1 ht.2)
    ⟨hc, rests⟩
  · rintro t ⟨condition, still⟩
    have load := (examine_of_not_waiting (s := t) (i := i) fun l hl => by
      rcases still l hl with h | h <;> rw [h] <;> exact nofun).1
    rw [(examine_shared t).impact, load]
    exact ⟨condition, still⟩
  · rintro t ⟨condition, still⟩
    have after := demandOf_of_resting condition still
    rw [(rejudge_inputs t).1]
    refine ⟨condition, ?_⟩
    cases before : (sensorOf t i).demand with
    | true => rw [(rejudge_sameAt (before.trans after.symm)).load]; exact still
    | false =>
      intro x hx
      rw [(rejudge_begins before after).1] at hx
      obtain ⟨l, hl, rfl⟩ := Option.map_eq_some_iff.mp hx
      rcases still l hl with h | h <;> simp [Load.heldBy, LoadState.records, h]

/-- Grants leave the causes of every load as they are. -/
theorem examine_causes {s : State} {i : Spout} {l : Load} (hl : loadOf s i = some l) :
    ∃ x, loadOf (examine s) i = some x ∧ x.causes = l.causes := by
  refine examine_preserves (P := fun t => ∃ x, loadOf t i = some x ∧ x.causes = l.causes) ?_ ⟨l, hl, rfl⟩
  rintro q rest t ⟨x, hx, hc⟩ hq -
  by_cases hi : i = q.spout
  · subst hi
    rw [loadOf_grant, hx]
    refine ⟨_, rfl, ?_⟩
    dsimp only
    split <;> exact hc
  · rw [((grant_confined hq).others i hi).load]
    exact ⟨x, hx, hc⟩

/-- A demand that ends frees the load of SENSOR, and no report of the event puts it back (R46, R125). -/
theorem settle_sensorLift {s : State} {i : Spout} {l : Load} (fresh : (s.sli.impact.get i).state = .fresh)
    (before : (sensorOf s i).demand = true) (hl : loadOf s i = some l) (held : l.state = .held) :
    ∃ x, loadOf (settle s) i = some x ∧ x.causes.sensor = false := by
  have load : loadOf (examine s) i = some l := by
    rw [(examine_of_not_waiting fun x hx => ?_).1, hl]
    rw [hl] at hx
    cases hx
    rw [held]
    exact nofun
  have shared := examine_shared s
  have recorded : (sensorOf (examine s) i).demand = true := by rw [sensorOf, shared.ssu]; exact before
  have after : demandOf (examine s) i = false := demandOf_of_fresh (shared.impact ▸ fresh)
  refine (settle_establishes (Q := fun t => (t.sli.impact.get i).state = .fresh ∧ (sensorOf t i).demand = false ∧
    ∃ x, loadOf t i = some x ∧ x.causes.sensor = false) ?agreed ?judged ?examines ?rejudges).2.2
  case agreed =>
    intro same
    have at_i := congrArg (fun x => x.get i) same
    simp [demands, recorded, after] at at_i
  case judged =>
    refine ⟨by rw [(rejudge_inputs _).1, shared.impact]; exact fresh, by rw [rejudge_demand, after], ?_⟩
    obtain ⟨u, hu, hr⟩ := rejudge_at (examine s) i
    have lifts : demandChanged (demands (examine s)) (.of (demandOf (examine s))) i u = lmLift .sensor i u := by
      simp [demandChanged, demands, recorded, after]
    rw [lifts] at hr
    have runs := (rejudge_runsOn [] (examine s)).load i
    rw [load] at runs
    obtain ⟨x, hx, -⟩ := runs
    refine ⟨x, hx, ?_⟩
    obtain ⟨y, hy, has⟩ := loadOf_lmLift_has (d := .sensor) ⟨nofun, nofun⟩ (hr.load.symm.trans hx)
    rw [hu.load, load] at hy
    cases hy
    rw [if_pos ⟨rfl, held⟩] at has
    exact has
  case examines =>
    rintro t ⟨hf, hd, x, hx, hs⟩
    obtain ⟨y, hy, hc⟩ := examine_causes hx
    exact ⟨(examine_shared t).impact ▸ hf, by rw [sensorOf, (examine_shared t).ssu]; exact hd, y, hy, by rw [hc, hs]⟩
  case rejudges =>
    rintro t ⟨hf, hd, x, hx, hs⟩
    have still := demandOf_of_fresh hf
    exact ⟨(rejudge_inputs t).1 ▸ hf, by rw [rejudge_demand, still], x,
      by rw [(rejudge_sameAt (hd.trans still.symm)).load, hx], hs⟩

/-! ### The head of the queue under a new budget (R78, R86) -/

/-- A state in which the head of the queue is the place `q`, its load waits, and no other place is that spout's. -/
structure AtHead (q : QueuePlace) (b : Nat) (s : State) : Prop where
  queue : ∃ rest, s.dba.queue = q :: rest ∧ ∀ p ∈ rest, p.spout ≠ q.spout
  load : ∃ l, loadOf s q.spout = some l ∧ l.state = .waiting ∧ l.number = q.load
  fresh : (s.sli.impact.get q.spout).state = .fresh
  free : ∀ i, s.dba.allocation.get i = none
  supply : s.dba.aerationLow = false ∧ s.dba.starved = false
  budget : s.dba.effectiveBudget = b ∧ s.pm.working.budget = b

/-- A lift of a cause asks for a place at the tail of the queue at most, while no supply condition is present (R76). -/
theorem lmLift_dba (c : Cause) (j : Spout) {s : State} (h : s.dba.aerationLow = false ∧ s.dba.starved = false) :
    ∃ extra, (lmLift c j s).dba = { s.dba with queue := s.dba.queue ++ extra } ∧ ∀ p ∈ extra, p.spout = j := by
  have none_asked : ∃ extra, s.dba = { s.dba with queue := s.dba.queue ++ extra } ∧ ∀ p ∈ extra, p.spout = j :=
    ⟨[], by rw [List.append_nil], nofun⟩
  unfold lmLift
  split
  · exact none_asked
  · split
    · dsimp only
      split
      · simp only [enterWaiting, loadOf_setLoad_same, dbaRequest]
        split
        · exact none_asked
        · split
          · next n => exact absurd n (by simp [setLoad, h])
          · next l _ _ _ _ _ => exact ⟨[{ spout := j, load := l.number, rate := l.rate }], rfl, by simp⟩
      · exact none_asked
    · exact none_asked

theorem AtHead.lmLift {q : QueuePlace} {b : Nat} {s : State} (h : AtHead q b s) (c : Cause) (j : Spout) :
    AtHead q b (lmLift c j s) := by
  obtain ⟨l, hl, waits, number⟩ := h.load
  by_cases hj : j = q.spout
  · have unheld : Machine.lmLift c j s = s := by
      rw [hj]
      simp [Machine.lmLift, hl, waits]
    rw [unheld]
    exact h
  · obtain ⟨extra, dba, spouts⟩ := lmLift_dba c j h.supply
    obtain ⟨rest, queue, others⟩ := h.queue
    have confined := lmLift_confined c j s
    refine
      { queue := ⟨rest ++ extra, by rw [dba, queue]; rfl, fun p hp => ?_⟩
        load := ⟨l, (confined.others _ (Ne.symm hj)).load.trans hl, waits, number⟩
        fresh := by rw [confined.shared.impact]; exact h.fresh
        free := by rw [dba]; exact h.free
        supply := by rw [dba]; exact h.supply
        budget := by rw [dba, confined.shared.pm]; exact h.budget }
    rcases List.mem_append.mp hp with hp | hp
    · exact others p hp
    · exact (spouts p hp).symm ▸ hj

theorem AtHead.lmBudgetRise {q : QueuePlace} {b : Nat} {s : State} (h : AtHead q b s) : AtHead q b (lmBudgetRise s) := by
  have lifts : ∀ c {t}, AtHead q b t → AtHead q b (eachSpout (Machine.lmLift c) t) :=
    fun c {_} ht => eachSpout_preserves (fun i _ hu => hu.lmLift c i) ht
  unfold Machine.lmBudgetRise
  dsimp only
  split <;> split
  · exact h
  · exact lifts _ h
  · exact lifts _ h
  · exact lifts _ (lifts _ h)

/-- A grant that stands: the allocation, the DISCHARGING load and no place left (R78). -/
structure GrantedTo (i : Spout) (a : Allocation) (s : State) : Prop where
  allocation : s.dba.allocation.get i = some a
  load : ∃ l, loadOf s i = some l ∧ l.state = .discharging
  fresh : (s.sli.impact.get i).state = .fresh
  placed : ∀ p ∈ s.dba.queue, p.spout ≠ i

theorem GrantedTo.of_sameAt {i : Spout} {a : Allocation} {s t : State} (h : GrantedTo i a s) (k : SameAt i s t)
    (impact : t.sli.impact = s.sli.impact) : GrantedTo i a t where
  allocation := k.allocation.trans h.allocation
  load := by rw [k.load]; exact h.load
  fresh := by rw [impact]; exact h.fresh
  placed p hp hi := h.placed p ((k.place p hi).mp hp) hi

theorem GrantedTo.examine {i : Spout} {a : Allocation} {s : State} (h : GrantedTo i a s) : GrantedTo i a (examine s) :=
  h.of_sameAt (examine_sameAt h.placed) (examine_shared s).impact

/-- No demand of a FRESH channel reaches a load that is not HELD. -/
theorem GrantedTo.rejudge {i : Spout} {a : Allocation} {s : State} (h : GrantedTo i a s) : GrantedTo i a (rejudge s) := by
  obtain ⟨u, before, after⟩ := rejudge_at s i
  obtain ⟨l, hl, discharging⟩ := h.load
  have unchanged : demandChanged (demands s) (.of (demandOf s)) i u = u := by
    have load : loadOf u i = some l := before.load.trans hl
    simp [demandChanged, demandOf_of_fresh h.fresh, lmLift, load, discharging]
  rw [unchanged] at after
  exact h.of_sameAt (before.trans after) (rejudge_inputs s).1

/-- The head of the queue is granted by the first examination where it fits the room (R78, R86). -/
theorem AtHead.settle {q : QueuePlace} {b : Nat} {s : State} (h : AtHead q b s) (fits : 0 < min q.rate b) :
    GrantedTo q.spout { load := q.load, rate := min q.rate b } (settle s) := by
  obtain ⟨rest, queue, others⟩ := h.queue
  obtain ⟨l, hl, waits, number⟩ := h.load
  obtain ⟨effective, budget⟩ := h.budget
  have room : headFits s q = true := by
    rw [headFits_iff, budget, effective]
    exact ⟨fits, by simp [rateOf, h.free]⟩
  have first : Machine.examine s = Machine.examine (grant q rest s) := by
    unfold Machine.examine
    rw [queue, grant_dba, examineFrom, if_pos room]
  have granted : GrantedTo q.spout { load := q.load, rate := min q.rate b } (grant q rest s) :=
    { allocation := by
        rw [grant_dba, ← budget]
        exact PerSpout.get_set_same _ _ _
      load := ⟨{ l with state := .discharging }, by rw [loadOf_grant, hl, Option.map_some, if_pos ⟨number, waits⟩], rfl⟩
      fresh := by rw [(grant_confined queue).shared.impact]; exact h.fresh
      placed := by rw [grant_dba]; exact others }
  have examined : GrantedTo q.spout { load := q.load, rate := min q.rate b } (Machine.examine s) := by
    rw [first]
    exact granted.examine
  exact settle_establishes (fun _ => examined) examined.rejudge (fun _ => GrantedTo.examine) (fun _ => GrantedTo.rejudge)

/-- A new effective budget, before the LM hears of its rise (R74). -/
def budgetSet (b : Nat) (s : State) : State := s.withDba { s.dba with effectiveBudget := b }

theorem lmBudgetRise_runsOn (s : State) : RunsOn [] s (lmBudgetRise s) := by
  have lifts : ∀ c, ¬ latching c → ∀ t, RunsOn [] t (eachSpout (lmLift c) t) :=
    fun c hc t => eachSpout_runsOn fun i u => lmLift_runsOn c i u (.inr hc)
  have aeration := lifts .aeration (by simp [latching])
  have starve := lifts .starve (by simp [latching])
  unfold lmBudgetRise
  dsimp only
  split <;> split
  · exact .refl _ _
  · exact starve s
  · exact aeration s
  · exact (aeration s).trans (starve _)

theorem recomputeBudget_runsOn (s : State) :
    RunsOn [] (budgetSet (effectiveBudget (working s) s.dba.aerationLow s.dba.starved) s) (recomputeBudget s) := by
  unfold recomputeBudget
  dsimp only
  split
  · exact lmBudgetRise_runsOn _
  · exact .refl _ _

theorem AtHead.recomputeBudget {q : QueuePlace} {b : Nat} {s : State}
    (h : AtHead q b (budgetSet (effectiveBudget (working s) s.dba.aerationLow s.dba.starved) s)) :
    AtHead q b (recomputeBudget s) := by
  unfold Machine.recomputeBudget
  dsimp only
  split
  · exact h.lmBudgetRise
  · exact h

/-! ### An emptied history (R27, R38) -/

/-- The state after the BMU has emptied its history: in GRAVIMETRIC and SETTLING the mode goes to UNREADY. -/
theorem bmuEmptyHistory_eq (s : State) :
    let weighs := s.bmu.mode = .gravimetric ∨ s.bmu.mode = .settling
    bmuEmptyHistory s = { s with
      bmu := { s.bmu with
        position := 0, massSum := 0, goodCount := 0, rawSum := 0, refillMark := false, disturbedMark := false
        zero := { s.bmu.zero with skipWindow := false }
        ring := [], cleanRun := 0, previous := none, mode := if weighs then .unready else s.bmu.mode }
      oau := { s.oau with
        modeRecord := if weighs then .unready else s.oau.modeRecord
        carry := if weighs ∧ s.oau.modeRecord = .gravimetric then 0 else s.oau.carry } } := by
  cases hm : s.bmu.mode <;>
    simp [bmuEmptyHistory, clearWindow, bmuSetMode, oauModeReport, hm, State.withBmu, State.withOau]

/-- A 32-bit value in a range that starts at 0 is the same number signed and unsigned. -/
theorem toInt_toNat_of_nonneg {v : BitVec 32} (h : 0 ≤ v.toInt) : v.toInt.toNat = v.toNat := by
  rw [BitVec.toInt_eq_toNat_cond] at h ⊢
  split at h <;> omega

theorem range_budget {v : Int} (h : paramInRange .budget v = true) : 0 ≤ v := by
  simp only [paramInRange, within, Bool.and_eq_true, decide_eq_true_eq] at h
  exact h.1

/-! ### The six kinds of owner -/

/-- The reply that ends an accepted request of the dispatch port. -/
def answeredOk (s : State) : State := answer .dispatch 0x27 .ok [] s

@[simp] theorem loadOf_answeredOk (s : State) (i : Spout) : loadOf (answeredOk s) i = loadOf s i := rfl
@[simp] theorem sensorOf_answeredOk (s : State) (i : Spout) : sensorOf (answeredOk s) i = sensorOf s i := rfl
@[simp] theorem answeredOk_dba (s : State) : (answeredOk s).dba = s.dba := rfl
@[simp] theorem answeredOk_sli (s : State) : (answeredOk s).sli = s.sli := rfl
@[simp] theorem answeredOk_bmu (s : State) : (answeredOk s).bmu = s.bmu := rfl
@[simp] theorem answeredOk_lm (s : State) : (answeredOk s).lm = s.lm := rfl
@[simp] theorem answeredOk_ots (s : State) : (answeredOk s).ots = s.ots := rfl
@[simp] theorem answeredOk_pm (s : State) : (answeredOk s).pm = s.pm := rfl

theorem answeredOk_pc {s t : State} (h : t.pc = s.pc) : (answeredOk t).pc = (answeredOk s).pc := by
  simp only [answeredOk, answer, setPort, portOf, State.withPc_pc, h]

/-- A reply is formed beside whatever the reports of the event have done. -/
theorem RunsOn.answeredOk {acts : List Spout} {s t : State} (h : RunsOn acts s t) :
    RunsOn acts (answeredOk s) (answeredOk t) :=
  { h with pc := answeredOk_pc h.pc }

/-- What the SSU and the loads come to under a new SENSOR_POLICY, `s` being the state with the new value (R46). -/
theorem settle_policy (s : State) (i : Spout) :
    let fresh := (s.sli.impact.get i).state = .fresh
    (fresh → (sensorOf (settle s) i).demand = false) ∧
    (¬ fresh → s.pm.working.sensorPolicy = .hold ∨
        (∀ l, loadOf s i = some l → l.state = .armed ∨ l.state = .held) → (sensorOf (settle s) i).demand = true) ∧
    (¬ fresh → s.pm.working.sensorPolicy = .hold → (sensorOf s i).demand = false →
      ∀ l, loadOf s i = some l → recordsHolds l.state →
        ∃ x, loadOf (settle s) i = some x ∧ x.state = .held ∧ x.causes.sensor = true) ∧
    (fresh → (sensorOf s i).demand = true →
      ∀ l, loadOf s i = some l → l.state = .held → ∃ x, loadOf (settle s) i = some x ∧ x.causes.sensor = false) := by
  refine ⟨settle_demand_of_fresh, ?_, fun hc hold before => (settle_hold hc hold before).2.2,
    fun fresh before l => settle_sensorLift fresh before⟩
  rintro hc (hold | rests)
  · exact settle_demand_of_hold hc hold
  · exact settle_demand_of_resting hc rests

/-- The head of the queue under a new BUDGET, `s` being the state with the new value and no allocation granted (R86). -/
theorem settle_budget {s : State} {b : Nat} (hb : s.pm.working.budget = b) (free : ∀ i, s.dba.allocation.get i = none)
    (inv : QueueInv s) {q : QueuePlace} {rest : List QueuePlace} (queue : s.dba.queue = q :: rest)
    (supply : s.dba.aerationLow = false ∧ s.dba.starved = false) (fresh : (s.sli.impact.get q.spout).state = .fresh)
    (fits : 0 < min q.rate b) :
    GrantedTo q.spout { load := q.load, rate := min q.rate b } (settle (recomputeBudget s)) := by
  obtain ⟨l, hl, waits, number⟩ := inv.waiting q (by simp [queue])
  have once := inv.once
  rw [queue, List.map_cons, List.nodup_cons] at once
  have effective : effectiveBudget (working s) s.dba.aerationLow s.dba.starved = b := by
    simp only [effectiveBudget, supply.1, supply.2]
    exact hb
  have head : AtHead q b (budgetSet (effectiveBudget (working s) s.dba.aerationLow s.dba.starved) s) :=
    { queue := ⟨rest, queue, fun x hx same => once.1 (same ▸ List.mem_map_of_mem hx)⟩
      load := ⟨l, hl, waits, number⟩
      fresh := fresh
      free := free
      supply := supply
      budget := ⟨effective, hb⟩ }
  exact head.recomputeBudget.settle fits

/-- The new effective budget as the statements write it (R74). -/
theorem budgetSet_eq {s : State} {b : Nat} (hb : s.pm.working.budget = b) :
    budgetSet (effectiveBudget (working s) s.dba.aerationLow s.dba.starved) s = { s with dba := { s.dba with
      effectiveBudget := if s.dba.aerationLow = true ∨ s.dba.starved = true then 0 else b } } := by
  have effective : effectiveBudget (working s) s.dba.aerationLow s.dba.starved =
      if s.dba.aerationLow = true ∨ s.dba.starved = true then 0 else b := by
    simp only [effectiveBudget, Bool.or_eq_true, ← hb]
    rfl
  rw [effective]
  rfl

/-- What an accepted change of SYNC_ROLE or FRAME_PERIOD_US comes to at the link and the BMU (R2, R7). -/
theorem linkRestart_entered (s : State) :
    let t := linkRestart s
    t.pm = s.pm ∧ t.pc = s.pc ∧ t.sli.lock = .seeking ∧ t.sli.lastSeq = none ∧ t.sli.lockTimer = none ∧
      (∀ ch, channelOf t ch = .awaiting) ∧ t.sli.frameErrors = s.sli.frameErrors ∧
      t.sli.missedFrames = s.sli.missedFrames ∧ t.sli.frameInProgress = false ∧ t.sli.syncClockUs = 0 ∧
      t.bmu.mode = .blind ∧ t.lm.seeking = true ∧ t.ots = s.ots ∧
      (s.bmu.mode ≠ .blind → t.bmu.ring = [] ∧ (s.bmu.zero.state = .running → t.bmu.zero.state = .aborted)) := by
  have entered := enterSeeking_entered (s.withSli { s.sli with frameInProgress := false, syncClockUs := 0 })
  rw [← linkRestart] at entered
  generalize linkRestart s = t at entered
  have sli := entered.sli
  refine ⟨entered.pm, entered.pc, congrArg Sli.lock sli, congrArg Sli.lastSeq sli, congrArg Sli.lockTimer sli, ?channels,
    (congrArg Sli.frameErrors sli :), (congrArg Sli.missedFrames sli :), congrArg Sli.frameInProgress sli,
    congrArg Sli.syncClockUs sli, entered.mode, ?seeking, entered.ots, fun h => ?history⟩
  case channels =>
    rintro (_ | i | i) <;> simp only [channelOf] <;> rw [entered.sli]
    · exact PerSpout.get_all _ i
    · exact PerSpout.get_all _ i
  case seeking => rw [entered.lm]
  case history => exact ⟨(entered.entered h).ring, fun running => ((entered.entered h).zero running).1⟩

/-- Settles O57: the change is accepted, the owner acts on the changed state, and the request is answered; one case per
kind of owner. -/
theorem setParameterReachesItsOwner : Obligations.SetParameterReachesItsOwner := by
  intro s id value p hs hp ht c after changed noLoad noZero unlocked weighs mode emptied range
  let base := paramChanged c after s
  have accepted : ∀ {p' : ParamId} {t : State}, p = p' → paramEffect p' base = t → paramIsLevel p' = false →
      (paramLocked p' && s.pm.custodyLock) = false → paramBusy (dispatchTaken c s) p' = false →
      exec c s = .next (answeredOk t) := by
    rintro p' t rfl rfl level locked busy
    exact exec_setParameter hs hp ht (paramRefusal_eq_none range level locked busy)
  have zero_idle : noZero → zeroRunning (dispatchTaken c s) = false := zeroRunning_eq_false
  have loads_none : noLoad → anyLoad (dispatchTaken c s) = false := anyLoad_eq_false
  have emptied_eq : emptied = answeredOk (bmuEmptyHistory base) := by rw [bmuEmptyHistory_eq]; rfl
  have empties : RunsOn [] emptied (answeredOk (settle (bmuEmptyHistory base))) :=
    emptied_eq ▸ (settle_runsOn [] _).answeredOk
  refine ⟨?solo, ?policy, ?budget, ?bin, ?span, ?link⟩
  case solo =>
    rintro i (hi | hi) empty
    · exact accepted hi rfl rfl rfl (congrArg Option.isSome empty)
    · exact accepted hi rfl rfl rfl (congrArg Option.isSome empty)
  case policy =>
    intro hi
    exact ⟨_, accepted hi rfl rfl rfl rfl, (settle_runsOn [] base).answeredOk, settle_policy base⟩
  case budget =>
    intro hi free
    have value_eq : base.pm.working.budget = value.toNat := by
      subst hi
      exact toInt_toNat_of_nonneg (range_budget range)
    have reports := ((recomputeBudget_runsOn base).trans (settle_runsOn [] _)).answeredOk
    rw [budgetSet_eq value_eq] at reports
    have none_granted : anyAllocation (dispatchTaken c s) = false := by
      have : ∀ i, (dispatchTaken c s).dba.allocation.get i = none := free
      simp [anyAllocation, this]
    refine ⟨_, accepted hi rfl rfl rfl none_granted, reports, fun inv q rest queue aeration starved fresh fits => ?_⟩
    have inv' : QueueInv base := ⟨inv.once, inv.waiting, inv.noClaim⟩
    have granted := settle_budget value_eq free inv' queue ⟨aeration, starved⟩ fresh fits
    exact ⟨granted.allocation, granted.load⟩
  case bin =>
    rintro (hi | hi) still (hu : s.pm.custodyLock = false)
    · exact ⟨_, accepted hi rfl rfl (by rw [hu]; rfl) (zero_idle still), empties⟩
    · exact ⟨_, accepted hi rfl rfl (by rw [hu]; rfl) (zero_idle still), empties⟩
  case span =>
    intro hi still (hu : s.pm.custodyLock = false) empty
    have busy : paramBusy (dispatchTaken c s) .rateSpan = false := by
      simp only [paramBusy, zero_idle still, loads_none empty, Bool.or_self]
    exact ⟨_, accepted hi rfl rfl (by rw [hu]; rfl) busy, empties⟩
  case link =>
    intro hi empty (hu : s.pm.custodyLock = false)
    have runs : exec c s = .next (answeredOk (linkRestart base)) := by
      rcases hi with hi | hi
      · exact accepted hi rfl rfl (by rw [hu]; rfl) (loads_none empty)
      · exact accepted hi rfl rfl (by rw [hu]; rfl) (loads_none empty)
    obtain ⟨pm, pc, rest⟩ := linkRestart_entered base
    generalize linkRestart base = t at runs pm pc rest
    exact ⟨_, runs, pm, answeredOk_pc pc, rest⟩

end Sys2Proof.Machine
end

section
/-! What a frame position leaves alone, for the obligations of an accepted frame: the counters' ranges under single writes
(`CounterInv`), and one view per kind of part (`PositionKeeps`, `BlockKeeps`, `GateKeeps`), each with
its reflexivity and transitivity, then one lemma per operation of the Gate Controllers and the end of a load. -/

namespace Sys2Proof.Machine

/-! ### The counters' ranges under single writes -/

namespace CounterInv

variable {s : State}

theorem setLoad (h : CounterInv s) (i : Spout) {l : Option Load} (trips : ∀ x, l = some x → x.trips ≤ 255) :
    CounterInv (setLoad s i l) :=
  { h with
    trips := fun j x hx => by
      rw [loadOf_setLoad] at hx
      split at hx
      · exact trips x hx
      · exact h.trips j x hx }

theorem setGate (h : CounterInv s) (i : Spout) {g : Gate} (low : ∀ x, g.tail = some x → x.lowCount ≤ 4) :
    CounterInv (setGate s i g) :=
  { h with
    tails := fun j x hx => by
      rw [gateOf_setGate] at hx
      split at hx
      · exact low x hx
      · exact h.tails j x hx }

theorem setGate_of_tail (h : CounterInv s) {i : Spout} {g : Gate} (tail : g.tail = (gateOf s i).tail) :
    CounterInv (Machine.setGate s i g) := h.setGate i fun x hx => h.tails i x (tail ▸ hx)

theorem setCommand (h : CounterInv s) (i : Spout) (c : Nat) : CounterInv (setCommand i c s) :=
  { h.setGate_of_tail (i := i) (g := { gateOf s i with command := c }) rfl with frames := h.frames }

theorem setSensor (h : CounterInv s) (i : Spout) {x : Sensor} (ranges : x.solo ≤ 255 ∧ x.leakSet ≤ 9 ∧ x.leakClear ≤ 9) :
    CounterInv (setSensor s i x) :=
  { h with
    sensors := fun j => by
      by_cases hj : j = i
      · subst hj; rw [sensorOf_setSensor_same]; exact ranges
      · rw [sensorOf_setSensor_other s x hj]; exact h.sensors j }

theorem setLatch (h : CounterInv s) (i : Spout) {x : FaultLatch} (count : x.count ≤ 255) :
    CounterInv (setLatch s i x) :=
  { h with
    faults := fun j => by
      rw [show latchOf (Machine.setLatch s i x) j = if j = i then x else latchOf s j from PerSpout.get_set _ _ _ _]
      split
      · exact count
      · exact h.faults j }

theorem setPort (h : CounterInv s) (p : Port) {x : PortState} (errors : x.errors ≤ 65535) :
    CounterInv (setPort s p x) := by
  have ports : ∀ q, (portOf (Machine.setPort s p x) q).errors ≤ 65535 := fun q => by
    by_cases hq : q = p
    · subst hq; rw [portOf_setPort_same]; exact errors
    · rw [portOf_setPort_other s x hq]; exact h.ports q
  cases p <;> exact { h with ports := ports }

/-- The reports of an event move none of the counters (R46, R78, R121). -/
theorem runsOn {acts : List Spout} {t : State} (h : CounterInv s) (k : RunsOn acts s t) : CounterInv t where
  frames := by rw [k.sli]; exact h.frames
  unassigned := by rw [k.oau]; exact h.unassigned
  loads := by rw [k.lm]; exact h.loads
  tickets := by rw [k.ots]; exact h.tickets
  faults i := by rw [latchOf, k.lm]; exact h.faults i
  ports p := by rw [show portOf t p = portOf s p by simp only [portOf, k.pc]]; exact h.ports p
  sensors i := by rw [k.ssu i]; exact h.sensors i
  trips i x hx := by
    have runs := k.load i
    cases hl : loadOf s i with
    | none => rw [hl, hx] at runs; exact absurd runs (by simp [LoadRunsOn])
    | some l =>
      rw [hl] at runs
      obtain ⟨y, hy, same, -⟩ := runs
      obtain rfl : y = x := Option.some.inj (hy.symm.trans hx)
      rw [same]
      exact h.trips i l hl
  zero := by rw [k.bmu]; exact h.zero
  tails i x hx := h.tails i x ((k.gate i).2.1 ▸ hx)

end CounterInv

theorem nextNumber_range (n : Nat) : 1 ≤ nextNumber n ∧ nextNumber n ≤ 65535 := by
  unfold nextNumber
  split <;> omega

/-- A completion leaves the ticket counter, or takes it to the next number (R150). -/
theorem complete_counter (i : Spout) (l : Load) (cause : EndCause) (s : State) :
    (complete i l cause s).ots.counter = s.ots.counter ∨
      (complete i l cause s).ots.counter = nextNumber s.ots.counter := by
  unfold complete updateOrder appendTicket
  dsimp only
  split
  · exact .inr rfl
  · exact .inl rfl

/-! ### The views -/

/-- What every part of a frame position keeps, the counters in their ranges among it. The loads and tails of the
spouts in `ends` may end or begin. -/
structure PositionKeeps (ends : List Spout) (s t : State) : Prop where
  sli : t.sli = { s.sli with gateCommand := t.sli.gateCommand, refillCommand := t.sli.refillCommand }
  pm : t.pm = { s.pm with working := { s.pm.working with
    binZero := t.pm.working.binZero, spoutGain := t.pm.working.spoutGain, tailMs := t.pm.working.tailMs } }
  lm : t.lm = { s.lm with slot := t.lm.slot, latch := t.lm.latch, linkTimer := t.lm.linkTimer, starved := t.lm.starved
                          demand := t.lm.demand }
  aerationLow : t.dba.aerationLow = s.dba.aerationLow
  supplyFault : t.bsc.supplyFault = s.bsc.supplyFault
  aerationHigh : t.bsc.aerationHigh = s.bsc.aerationHigh
  pc : t.pc = s.pc
  power : t.power = s.power
  pending : t.pending = s.pending
  blind : t.bmu.mode = .blind ↔ s.bmu.mode = .blind
  sense : ∀ i x, loadOf t i = some x → x.causes.sense = true → ∃ l, loadOf s i = some l ∧ l.causes.sense = true
  stays : ∀ i ∉ ends, (gateOf t i).tail = (gateOf s i).tail ∧
    (loadOf t i).map Load.number = (loadOf s i).map Load.number
  counters : CounterInv s → CounterInv t

/-- What every part but the SSU's own keeps: each spout's q too. -/
structure BlockKeeps (ends : List Spout) (s t : State) : Prop extends PositionKeeps ends s t where
  lastQ : ∀ i, (sensorOf t i).lastQ = (sensorOf s i).lastQ

/-- What the Gate Controllers' parts keep: the window, the sensors and the open parts too; and the refill moves only if it
was deferred (R159). -/
structure GateKeeps (ends : List Spout) (s t : State) : Prop extends PositionKeeps ends s t where
  bmu : t.bmu = { s.bmu with mode := t.bmu.mode, refillMark := t.bmu.refillMark }
  sensors : ∀ i, sensorOf t i = { sensorOf s i with demand := (sensorOf t i).demand }
  openPart : t.oau.openPart = s.oau.openPart
  gain : t.pm.working.spoutGain = s.pm.working.spoutGain
  blindRecord : t.bsc.blindRecord = s.bsc.blindRecord
  zeroRecord : t.bsc.zeroRecord = s.bsc.zeroRecord
  valve : s.bsc.state ≠ .deferred → t.bmu.mode = s.bmu.mode ∧ t.bsc.state = s.bsc.state

theorem PositionKeeps.refl (ends : List Spout) (s : State) : PositionKeeps ends s s :=
  ⟨rfl, rfl, rfl, rfl, rfl, rfl, rfl, rfl, rfl, .rfl, fun _ x h c => ⟨x, h, c⟩, fun _ _ => ⟨rfl, rfl⟩, id⟩

theorem PositionKeeps.trans {ends : List Spout} {s t u : State} (h : PositionKeeps ends s t)
    (k : PositionKeeps ends t u) : PositionKeeps ends s u where
  sli := by rw [k.sli, h.sli]
  pm := by rw [k.pm, h.pm]
  lm := by rw [k.lm, h.lm]
  aerationLow := k.aerationLow.trans h.aerationLow
  supplyFault := k.supplyFault.trans h.supplyFault
  aerationHigh := k.aerationHigh.trans h.aerationHigh
  pc := k.pc.trans h.pc
  power := k.power.trans h.power
  pending := k.pending.trans h.pending
  blind := k.blind.trans h.blind
  sense i x hx set := by
    obtain ⟨y, hy, set'⟩ := k.sense i x hx set
    exact h.sense i y hy set'
  stays i hi := ⟨(k.stays i hi).1.trans (h.stays i hi).1, (k.stays i hi).2.trans (h.stays i hi).2⟩
  counters := k.counters ∘ h.counters

theorem PositionKeeps.mono {a b : List Spout} (hab : ∀ i ∈ a, i ∈ b) {s t : State} (h : PositionKeeps a s t) :
    PositionKeeps b s t := { h with stays := fun i hi => h.stays i fun m => hi (hab i m) }

theorem BlockKeeps.refl (ends : List Spout) (s : State) : BlockKeeps ends s s :=
  { PositionKeeps.refl ends s with lastQ := fun _ => rfl }

theorem BlockKeeps.trans {ends : List Spout} {s t u : State} (h : BlockKeeps ends s t) (k : BlockKeeps ends t u) :
    BlockKeeps ends s u :=
  { h.toPositionKeeps.trans k.toPositionKeeps with lastQ := fun i => (k.lastQ i).trans (h.lastQ i) }

theorem BlockKeeps.mono {a b : List Spout} (hab : ∀ i ∈ a, i ∈ b) {s t : State} (h : BlockKeeps a s t) :
    BlockKeeps b s t := { h.toPositionKeeps.mono hab with lastQ := h.lastQ }

theorem GateKeeps.toBlockKeeps {ends : List Spout} {s t : State} (h : GateKeeps ends s t) : BlockKeeps ends s t :=
  { h.toPositionKeeps with lastQ := fun i => (congrArg Sensor.lastQ (h.sensors i) :) }

theorem GateKeeps.refl (ends : List Spout) (s : State) : GateKeeps ends s s :=
  { PositionKeeps.refl ends s with
    bmu := rfl, sensors := fun _ => rfl, openPart := rfl, gain := rfl, blindRecord := rfl, zeroRecord := rfl
    valve := fun _ => ⟨rfl, rfl⟩ }

theorem GateKeeps.trans {ends : List Spout} {s t u : State} (h : GateKeeps ends s t) (k : GateKeeps ends t u) :
    GateKeeps ends s u :=
  { h.toPositionKeeps.trans k.toPositionKeeps with
    bmu := by rw [k.bmu, h.bmu]
    sensors := fun i => by rw [k.sensors i, h.sensors i]
    openPart := k.openPart.trans h.openPart
    gain := k.gain.trans h.gain
    blindRecord := k.blindRecord.trans h.blindRecord
    zeroRecord := k.zeroRecord.trans h.zeroRecord
    valve := fun shut => by
      obtain ⟨mode, state⟩ := h.valve shut
      obtain ⟨mode', state'⟩ := k.valve (state ▸ shut)
      exact ⟨mode'.trans mode, state'.trans state⟩ }

theorem GateKeeps.mono {a b : List Spout} (hab : ∀ i ∈ a, i ∈ b) {s t : State} (h : GateKeeps a s t) :
    GateKeeps b s t := { h with toPositionKeeps := h.toPositionKeeps.mono hab }

/-- Reports that add no SENSE are such a part. -/
theorem RunsOn.gateKeeps_of_sense {acts : List Spout} {s t : State} (h : RunsOn acts s t)
    (blind : t.bmu.mode = .blind ↔ s.bmu.mode = .blind)
    (sense : ∀ i x, loadOf t i = some x → x.causes.sense = true → ∃ l, loadOf s i = some l ∧ l.causes.sense = true) :
    GateKeeps [] s t where
  sli := h.sli
  pm := by rw [h.pm]
  lm := by rw [h.lm]
  aerationLow := by rw [h.dba]
  supplyFault := by rw [h.bsc]
  aerationHigh := by rw [h.bsc]
  pc := h.pc
  power := h.power
  pending := h.pending
  blind := blind
  sense := sense
  stays i _ := by
    refine ⟨(h.gate i).2.1, ?_⟩
    have runs := h.load i
    cases hl : loadOf s i with
    | none => rw [hl] at runs; rw [runs]
    | some l =>
      rw [hl] at runs
      obtain ⟨y, hy, same, -⟩ := runs
      rw [hy, same]; rfl
  counters inv := inv.runsOn h
  bmu := h.bmu
  sensors := h.ssu
  openPart := by rw [h.oau]
  gain := by rw [h.pm]
  blindRecord := by rw [h.bsc]
  zeroRecord := by rw [h.bsc]
  valve shut := by
    rcases h.valve with ⟨-, mode, -, -, -, state, -⟩ | ⟨deferred, -⟩
    · exact ⟨mode, state⟩
    · exact absurd deferred shut

theorem RunsOn.gateKeeps {s t : State} (h : RunsOn [] s t) (blind : t.bmu.mode = .blind ↔ s.bmu.mode = .blind) :
    GateKeeps [] s t := by
  refine h.gateKeeps_of_sense blind fun i x hx set => ?_
  have runs := h.load i
  cases hl : loadOf s i with
  | none => rw [hl, hx] at runs; exact absurd runs (by simp [LoadRunsOn])
  | some l =>
    rw [hl] at runs
    obtain ⟨y, hy, -, -, -, keeps⟩ := runs
    obtain rfl : y = x := Option.some.inj (hy.symm.trans hx)
    obtain ⟨-, -, -, sense, -⟩ := keeps List.not_mem_nil
    exact ⟨l, rfl, sense ▸ set⟩

theorem settle_gateKeeps (s : State) : GateKeeps [] s (settle s) := (settle_runsOn [] s).gateKeeps (settle_blind s)

/-! ### Single changes -/

theorem setGate_gateKeeps (s : State) (i : Spout) (g : Gate) (tail : g.tail = (gateOf s i).tail) :
    GateKeeps [] s (setGate s i g) :=
  { GateKeeps.refl [] s with
    counters := fun inv => inv.setGate_of_tail tail
    stays := fun j _ => by
      rw [gateOf_setGate]
      split
      · next h => subst h; exact ⟨tail, rfl⟩
      · exact ⟨rfl, rfl⟩ }

theorem setGate_gateKeeps_self (s : State) (i : Spout) (g : Gate) (low : ∀ x, g.tail = some x → x.lowCount ≤ 4) :
    GateKeeps [i] s (setGate s i g) :=
  { GateKeeps.refl [i] s with
    counters := fun inv => inv.setGate i low
    stays := fun j hj => by rw [gateOf_setGate_other s g (by simpa using hj)]; exact ⟨rfl, rfl⟩ }

theorem setCommand_gateKeeps (i : Spout) (c : Nat) (s : State) : GateKeeps [] s (setCommand i c s) :=
  { GateKeeps.refl [] s with
    counters := fun inv => inv.setCommand i c
    sli := rfl
    stays := fun j _ => by
      rw [gateOf_setCommand]
      split
      · next h => subst h; exact ⟨rfl, rfl⟩
      · exact ⟨rfl, rfl⟩ }

theorem setLoad_gateKeeps {s : State} {i : Spout} {l x : Load} (hl : loadOf s i = some l) (number : x.number = l.number)
    (sense : x.causes.sense = l.causes.sense) (trips : x.trips = l.trips) : GateKeeps [] s (setLoad s i (some x)) :=
  { GateKeeps.refl [] s with
    counters := fun inv => inv.setLoad i fun y hy => by cases hy; exact trips ▸ inv.trips i l hl
    lm := rfl
    sense := fun j y hy set => by
      rw [loadOf_setLoad] at hy
      split at hy
      · next h => subst h; cases hy; exact ⟨l, hl, sense ▸ set⟩
      · exact ⟨y, hy, set⟩
    stays := fun j _ => by
      rw [loadOf_setLoad]
      split
      · next h => subst h; rw [hl]; exact ⟨rfl, congrArg some number⟩
      · exact ⟨rfl, rfl⟩ }

theorem dbaRelease_gateKeeps (i : Spout) (s : State) : GateKeeps [] s (dbaRelease i s) :=
  { GateKeeps.refl [] s with counters := fun inv => { inv with } }

theorem dbaRemoval_gateKeeps (i : Spout) (s : State) : GateKeeps [] s (dbaRemoval i s) :=
  { GateKeeps.refl [] s with counters := fun inv => { inv with } }

theorem dribbleEntered_gateKeeps (i : Spout) (s : State) : GateKeeps [] s (dribbleEntered i s) :=
  { GateKeeps.refl [] s with counters := fun inv => { inv with } }

theorem leftDribble_gateKeeps (i : Spout) (m : GateMode) (s : State) : GateKeeps [] s (leftDribble i m s) :=
  (leftDribble_runsOn [] s i m).gateKeeps (leftDribble_confined i m s).shared.blind

theorem complete_gateKeeps (i : Spout) (l : Load) (cause : EndCause) (s : State) :
    GateKeeps [] s (complete i l cause s) := by
  have counter := complete_counter i l cause s
  rw [complete_eq]
  refine { GateKeeps.refl [] s with counters := fun inv => { inv with tickets := ?_ } }
  rcases counter with same | next
  · exact (same ▸ inv.tickets :)
  · exact (next ▸ nextNumber_range _ :)

theorem setTailMs_gateKeeps (s : State) (x : PerSpout Nat) :
    GateKeeps [] s (setWorking s { working s with tailMs := x }) := 
  { GateKeeps.refl [] s with pm := rfl, gain := rfl, counters := fun inv => { inv with } }

/-! ### The Gate Controllers -/

theorem gateToClosing_gateKeeps (i : Spout) (s : State) : GateKeeps [] s (gateToClosing i s) :=
  (((setGate_gateKeeps s i { gateOf s i with mode := .closing, closeTimer := some 0 } rfl).trans
    (setCommand_gateKeeps i 0 _)).trans (dbaRelease_gateKeeps i _)).trans (leftDribble_gateKeeps i _ _)

theorem dropPending_gateKeeps (i : Spout) (s : State) : GateKeeps [] s (dropPending i s) := by
  unfold dropPending
  split
  · exact (setGate_gateKeeps _ i _ (by rfl)).trans (dbaRelease_gateKeeps i _)
  · exact .refl [] s

theorem gateOpen_gateKeeps (i : Spout) (s : State) : GateKeeps [] s (gateOpen i s) := by
  unfold gateOpen
  split
  · exact .refl [] s
  · have cleared := setGate_gateKeeps s i { gateOf s i with flowSum := 0, flowCount := 0 } rfl
    dsimp only
    split
    · exact cleared.trans ((setGate_gateKeeps _ i _ (by rfl)).trans (setCommand_gateKeeps i _ _))
    · exact cleared.trans (((setGate_gateKeeps _ i _ (by rfl)).trans (setCommand_gateKeeps i _ _)).trans
        (dribbleEntered_gateKeeps i _))

theorem gateFeedback_gateKeeps (i : Spout) (m : Mark) (s : State) : GateKeeps [] s (gateFeedback i m s) := by
  unfold gateFeedback
  split
  · split
    · have shut := setGate_gateKeeps s i { gateOf s i with mode := .closed, closeTimer := none, pendingGrant := none } rfl
      dsimp only
      split
      · exact shut.trans (gateOpen_gateKeeps i _)
      · exact shut
    · exact .refl [] s
  · exact .refl [] s

theorem steppedGate_tail (w : Params) (a : Nat) (g : Gate) : (steppedGate w a g).tail = g.tail := by
  unfold steppedGate
  dsimp only
  split
  · unfold openingStep; split <;> rfl
  · unfold regulatingStep; split <;> rfl
  · unfold dribbleStep; split <;> rfl
  · rfl

theorem windowStep_gateKeeps (i : Spout) (s : State) : GateKeeps [] s (windowStep i s) :=
  (setGate_gateKeeps s i _ (steppedGate_tail _ _ _)).trans (setCommand_gateKeeps i _ _)

theorem blindStep_gateKeeps (i : Spout) (s : State) : GateKeeps [] s (blindStep i s) := by
  unfold blindStep
  split
  · exact windowStep_gateKeeps i s
  · exact .refl [] s

theorem dribbleTest_gateKeeps (i : Spout) (l : Load) (s : State) : GateKeeps [] s (dribbleTest i l s) := by
  unfold dribbleTest
  split
  · exact (setGate_gateKeeps _ i _ (by rfl)).trans (dribbleEntered_gateKeeps i _)
  · exact .refl [] s

theorem oauLoadEnded_gateKeeps (i : Spout) (n : Nat) (s : State) : GateKeeps [] s (oauLoadEnded i n s) := by
  rw [oauLoadEnded_eq]
  exact { GateKeeps.refl [] s with openPart := rfl, counters := fun inv => { inv with } }

theorem emptySlot_gateKeeps (i : Spout) (s : State) : GateKeeps [i] s (emptySlot i s) :=
  { GateKeeps.refl [i] s with
    counters := fun inv => { inv with
      trips := fun j x hx => by
        by_cases h : j = i
        · subst h; rw [show loadOf (emptySlot j s) j = none from PerSpout.get_set_same _ _ _] at hx; cases hx
        · exact inv.trips j x ((PerSpout.get_set_other _ _ h).symm.trans hx) }
    lm := rfl
    sense := fun j x hx set => by
      by_cases h : j = i
      · subst h; rw [show loadOf (emptySlot j s) j = none from PerSpout.get_set_same _ _ _] at hx; cases hx
      · exact ⟨x, (PerSpout.get_set_other _ _ h).symm.trans hx, set⟩
    stays := fun j hj => ⟨rfl, congrArg (Option.map Load.number) (PerSpout.get_set_other _ _ (by simpa using hj))⟩ }

theorem clearTail_gateKeeps (i : Spout) (s : State) : GateKeeps [i] s (clearTail i s) :=
  setGate_gateKeeps_self s i _ nofun

/-- An end of a load touches its own spout alone (R133). -/
theorem endLoad_gateKeeps (i : Spout) (cause : EndCause) (tailEnd : Bool) (s : State) :
    GateKeeps [i] s (endLoad i cause tailEnd s) := by
  have wide : ∀ {t u : State}, GateKeeps [] t u → GateKeeps [i] t u := GateKeeps.mono (by simp)
  unfold endLoad
  split
  · exact .refl [i] s
  · next l _ =>
    dsimp only
    have removed : GateKeeps [i] s (removedClaim i l s) := by
      unfold removedClaim
      split
      · exact wide (dbaRemoval_gateKeeps i s)
      · exact .refl [i] s
    have told : GateKeeps [i] (removedClaim i l s)
        (if tailEnd = true then removedClaim i l s else gateLoadEnded i (removedClaim i l s)) := by
      split
      · exact .refl [i] _
      · exact (clearTail_gateKeeps i _).trans (wide (dropPending_gateKeeps i _))
    have ended := (removed.trans told).trans (wide (oauLoadEnded_gateKeeps i l.number _))
    exact (ended.trans (wide (complete_gateKeeps i l cause _))).trans (emptySlot_gateKeeps i _)

/-- Tail learning writes one tail time (R112). -/
theorem learnTail_eq (i : Spout) (l : Load) (s : State) :
    ∃ x, learnTail i l s = setWorking s { working s with tailMs := x } := by
  unfold learnTail
  split
  · split
    · exact ⟨_, rfl⟩
    · exact ⟨s.pm.working.tailMs, rfl⟩
  · exact ⟨s.pm.working.tailMs, rfl⟩

theorem clearTail_setGate (i : Spout) (g : Gate) (s : State) :
    clearTail i (setGate s i g) = setGate s i { g with tail := none, cutoff := none } := by
  rw [clearTail, gateOf_setGate_same, setGate_setGate]

/-- A tail's end, whatever the tail came to at its last position. -/
theorem tailEnds_setGate_gateKeeps (i : Spout) (g : Gate) (s : State) :
    GateKeeps [i] s (tailEnds i (setGate s i g)) := by
  have wide : ∀ {t u : State}, GateKeeps [] t u → GateKeeps [i] t u := GateKeeps.mono (by simp)
  have cleared : ∀ t, GateKeeps [i] t (clearTail i (setGate t i g)) := fun t => by
    rw [clearTail_setGate]
    exact setGate_gateKeeps_self t i _ nofun
  unfold tailEnds
  split
  · exact cleared s
  · next l _ =>
    obtain ⟨x, learned⟩ := learnTail_eq i l (setGate s i g)
    have learns : GateKeeps [i] s (clearTail i (learnTail i l (setGate s i g))) := by
      rw [learned]
      exact (wide (setTailMs_gateKeeps s x)).trans (cleared _)
    exact (learns.trans (endLoad_gateKeeps i _ true _)).trans (wide (settle_gateKeeps _))

theorem tailEnds_gateKeeps (i : Spout) (s : State) : GateKeeps [i] s (tailEnds i s) := by
  have ends := tailEnds_setGate_gateKeeps i (gateOf s i) s
  rwa [setGate_gateOf] at ends

theorem tailPosition_gateKeeps (i : Spout) (t : Tail) (fl : Flow) (s : State) :
    GateKeeps [i] s (tailPosition i t fl s) := by
  have judged : ∀ x : Tail, GateKeeps [i] s (if 5 ≤ x.lowCount then
      tailEnds i (setGate s i { gateOf s i with tail := some x }) else setGate s i { gateOf s i with tail := some x }) := by
    intro x
    split
    · exact tailEnds_setGate_gateKeeps i _ s
    · exact setGate_gateKeeps_self s i _ fun y hy => by cases hy; omega
  exact judged _

theorem loadOf_gateToClosing (i j : Spout) (s : State) : loadOf (gateToClosing i s) j = loadOf s j := by
  unfold gateToClosing
  exact loadOf_leftDribble i j _ _

/-- A cutoff begins a tail and keeps the load (R99). -/
theorem cutOff_gateKeeps {i : Spout} {l : Load} {s : State} (fl : Flow) (hl : loadOf s i = some l) :
    GateKeeps [i] s (cutOff i l fl s) ∧
      (loadOf (cutOff i l fl s) i).map Load.number = (loadOf s i).map Load.number := by
  let c : CutoffRecord :=
    { dCut := provisional s i l, qCut := fl.effective, load := l.number, substituted := fl.substituted }
  let u := setGate (gateToClosing i s) i { gateOf (gateToClosing i s) i with cutoff := some c }
  let v := beginTail i .cutoff fl.substituted u
  have hv : loadOf v i = some l := (loadOf_gateToClosing i i s).trans hl
  have wide : ∀ {t u : State}, GateKeeps [] t u → GateKeeps [i] t u := GateKeeps.mono (by simp)
  have tail : GateKeeps [] v (cutOff i l fl s) :=
    (setLoad_gateKeeps hv (x := { l with state := .tailing, cutoff := some c }) rfl rfl rfl).trans (settle_gateKeeps _)
  refine ⟨?_, ?_⟩
  · exact ((wide (gateToClosing_gateKeeps i s)).trans
      ((wide (setGate_gateKeeps _ i _ (by rfl))).trans
      (setGate_gateKeeps_self u i _ fun y hy => by cases hy; exact Nat.zero_le 4))).trans (wide tail)
  · rw [(tail.stays i List.not_mem_nil).2, hv, hl]

/-- A position of a discharging mode keeps the load of its spout (R98). -/
theorem cutoffCheck_gateKeeps (i : Spout) (fl : Flow) (s : State) :
    GateKeeps [i] s (cutoffCheck i fl s) ∧
      (loadOf (cutoffCheck i fl s) i).map Load.number = (loadOf s i).map Load.number := by
  unfold cutoffCheck
  split
  · exact ⟨.refl [i] s, rfl⟩
  · next l hl =>
    split
    · exact cutOff_gateKeeps fl hl
    · have test := dribbleTest_gateKeeps i l s
      exact ⟨test.mono (by simp), (test.stays i List.not_mem_nil).2⟩

theorem gateFlows_gateKeeps (fl : PerSpout Flow) (i : Spout) (s : State) : GateKeeps [i] s (gateFlows fl i s) := by
  have wide : ∀ {t u : State}, GateKeeps [] t u → GateKeeps [i] t u := GateKeeps.mono (by simp)
  have counted := wide (setGate_gateKeeps s i { gateOf s i with
    flowSum := (gateOf s i).flowSum + (fl.get i).effective, flowCount := (gateOf s i).flowCount + 1 } rfl)
  unfold gateFlows
  refine (counted.trans ?_).trans (wide (blindStep_gateKeeps i _))
  dsimp only
  split
  · exact tailPosition_gateKeeps i _ _ _
  · split
    · exact (cutoffCheck_gateKeeps i _ _).1
    · exact .refl [i] _

/-- Without a tail a position keeps the load of the spout (R109). -/
theorem gateFlows_number {fl : PerSpout Flow} {i : Spout} {s : State} (tail : (gateOf s i).tail = none) :
    (loadOf (gateFlows fl i s) i).map Load.number = (loadOf s i).map Load.number := by
  unfold gateFlows
  dsimp only
  rw [((blindStep_gateKeeps i _).stays i List.not_mem_nil).2, tail]
  dsimp only
  split
  · exact (cutoffCheck_gateKeeps i _ _).2
  · rfl

theorem feedbackPosition_gateKeeps (p : PositionIn) (s : State) : GateKeeps [] s (feedbackPosition p s) := by
  unfold feedbackPosition
  split
  · exact .refl [] s
  · exact ((gateFeedback_gateKeeps .A _ _).trans (gateFeedback_gateKeeps .B _ _)).trans (gateFeedback_gateKeeps .C _ _)

theorem eachSpout_gateFlows_gateKeeps (fl : PerSpout Flow) (s : State) :
    GateKeeps Spout.all s (eachSpout (gateFlows fl) s) := by
  have wide : ∀ i {t u : State}, GateKeeps [i] t u → GateKeeps Spout.all t u :=
    fun i => GateKeeps.mono fun j _ => mem_allSpouts j
  exact ((wide .A (gateFlows_gateKeeps fl .A s)).trans (wide .B (gateFlows_gateKeeps fl .B _))).trans
    (wide .C (gateFlows_gateKeeps fl .C _))

end Sys2Proof.Machine
end

section
/-! What a window close and a whole frame position leave alone, in the views of the section before. -/

namespace Sys2Proof.Machine

/-! ### The parts of a close after the BMU's own -/

/-- What these parts keep: the BMU but for its mode and refill mark too. -/
structure CloseKeeps (s t : State) : Prop extends BlockKeeps [] s t where
  bmu : t.bmu = { s.bmu with mode := t.bmu.mode, refillMark := t.bmu.refillMark }

theorem CloseKeeps.refl (s : State) : CloseKeeps s s := { BlockKeeps.refl [] s with bmu := rfl }

theorem CloseKeeps.trans {s t u : State} (h : CloseKeeps s t) (k : CloseKeeps t u) : CloseKeeps s u :=
  { h.toBlockKeeps.trans k.toBlockKeeps with bmu := by rw [k.bmu, h.bmu] }

theorem GateKeeps.closeKeeps {s t : State} (h : GateKeeps [] s t) : CloseKeeps s t :=
  { h.toBlockKeeps with bmu := h.bmu }

theorem eachSpout_closeKeeps {f : Spout → State → State} (hf : ∀ i s, CloseKeeps s (f i s)) (s : State) :
    CloseKeeps s (eachSpout f s) := ((hf .A s).trans (hf .B _)).trans (hf .C _)

theorem withOau_closeKeeps (s : State) (x : Oau)
    (account : s.oau.unassigned ≤ 999999999999 → x.unassigned ≤ 999999999999) : CloseKeeps s (s.withOau x) :=
  { CloseKeeps.refl s with counters := fun inv => { inv with unassigned := account inv.unassigned } }

/-- A write to one sensor that keeps its q and its leak counts. -/
theorem setSensor_closeKeeps (s : State) (i : Spout) (x : Sensor) (h : x.lastQ = (sensorOf s i).lastQ)
    (solo : x.solo ≤ (sensorOf s i).solo) (set : x.leakSet = (sensorOf s i).leakSet)
    (clear : x.leakClear = (sensorOf s i).leakClear) : CloseKeeps s (setSensor s i x) :=
  { CloseKeeps.refl s with
    counters := fun inv => by
      obtain ⟨soloRange, setRange, clearRange⟩ := inv.sensors i
      exact inv.setSensor i ⟨solo.trans soloRange, set ▸ setRange, clear ▸ clearRange⟩
    lastQ := fun j => by
      by_cases hj : j = i
      · subst hj; rw [sensorOf_setSensor_same, h]
      · rw [sensorOf_setSensor_other s x hj] }

theorem oauReport_closeKeeps (g : Bool) (credits : PerSpout Nat) (s : State) : CloseKeeps s (oauReport g credits s) := by
  unfold oauReport
  dsimp only
  split
  · exact .refl s
  · exact withOau_closeKeeps s _ id

theorem oauVolumetric_closeKeeps (m : PerSpout Nat) (s : State) : CloseKeeps s (oauVolumetric m s) :=
  (oauReport_closeKeeps false m s).trans (withOau_closeKeeps _ _ (by exact id))

theorem oauGravimetric_closeKeeps (f : Nat) (m : PerSpout Nat) (s : State) : CloseKeeps s (oauGravimetric f m s) :=
  (((withOau_closeKeeps s _ (by exact id)).trans (withOau_closeKeeps _ _ fun _ => Nat.min_le_left _ _)).trans
    (oauReport_closeKeeps true _ _)).trans (withOau_closeKeeps _ _ (by exact id))

theorem oauClose_closeKeeps (e : Entry) (mode : Mode) (f : Nat) (s : State) : CloseKeeps s (oauClose e mode f s) := by
  have reported : CloseKeeps s (oauModeReport mode s) := withOau_closeKeeps s _ id
  unfold oauClose
  dsimp only
  split
  · exact reported.trans (oauGravimetric_closeKeeps f e.m _)
  · exact reported.trans (oauVolumetric_closeKeeps e.m _)

theorem latchFault_closeKeeps (i : Spout) (kind : FaultKind) (s : State) : CloseKeeps s (latchFault i kind s) := by
  have counters : CounterInv s → CounterInv (latchFault i kind s) := fun inv => by
    unfold latchFault
    dsimp only
    split
    · exact inv.setLatch i (Nat.min_le_left _ _)
    · exact inv.setLatch i (show 1 ≤ 255 by decide)
  rw [latchFault_eq] at counters ⊢
  exact { CloseKeeps.refl s with lm := rfl, counters := counters }

theorem sensorDrift_closeKeeps (i : Spout) (s : State) : CloseKeeps s (sensorDrift i s) := by
  unfold sensorDrift noteLoadFault
  split
  · next l hl =>
    exact (latchFault_closeKeeps i .sensorDrift s).trans
      (setLoad_gateKeeps hl (by rfl) (by rfl) (by rfl)).closeKeeps
  · exact latchFault_closeKeeps i .sensorDrift s

theorem learnGain_closeKeeps (mode : Mode) (f : Nat) (i : Spout) (s : State) : CloseKeeps s (learnGain mode f i s) := by
  have solo : CloseKeeps s (setSensor s i { sensorOf s i with solo := 0 }) :=
    setSensor_closeKeeps s i _ rfl (Nat.zero_le _) rfl rfl
  unfold learnGain
  dsimp only
  split
  · split
    · refine solo.trans ?_
      exact { CloseKeeps.refl _ with pm := rfl, counters := fun inv => { inv with } }
    · exact (solo.trans (setSensor_closeKeeps _ i _ (by rfl) (by exact le_rfl) (by rfl) (by rfl))).trans
        (sensorDrift_closeKeeps i _)
  · exact .refl s

/-! ### The Bin Supply Controller -/

theorem openValve_closeKeeps (s : State) : CloseKeeps s (openValve s) := by
  rw [openValve_eq]
  exact { CloseKeeps.refl s with
    counters := fun inv => { inv with }
    sli := rfl
    bmu := rfl
    blind := by dsimp only; split <;> simp [*] }

/-- A closing of the valve, written as one record (R160, R161, R31). -/
theorem closeValve_eq (next : RefillState) (s : State) : closeValve next s = { s with
    sli := { s.sli with refillCommand := false }
    bmu := { s.bmu with mode := if s.bmu.mode = .refilling then .settling else s.bmu.mode }
    oau := { s.oau with modeRecord := (closeValve next s).oau.modeRecord, carry := (closeValve next s).oau.carry }
    bsc := { s.bsc with state := next, refillTimer := none } } := by
  cases hm : s.bmu.mode <;>
    simp [closeValve, bmuRefillClosed, setRefillCommand, bmuSetMode, oauModeReport, State.withBsc, State.withSli,
      State.withBmu, State.withOau, hm]
  all_goals rw [← hm]

theorem closeValve_closeKeeps (next : RefillState) (s : State) : CloseKeeps s (closeValve next s) := by
  rw [closeValve_eq]
  exact { CloseKeeps.refl s with
    counters := fun inv => { inv with }
    sli := rfl
    bmu := rfl
    blind := by dsimp only; split <;> simp [*] }

theorem withBsc_closeKeeps {s : State} {x : Bsc} (fault : x.supplyFault = s.bsc.supplyFault)
    (line : x.aerationHigh = s.bsc.aerationHigh) : CloseKeeps s (s.withBsc x) :=
  { CloseKeeps.refl s with supplyFault := fault, aerationHigh := line, counters := fun inv => { inv with } }

theorem refillTests_closeKeeps (w : Params) (level : Int) (s : State) : CloseKeeps s (refillTests w level s) := by
  unfold refillTests
  split
  · split
    · split
      · exact withBsc_closeKeeps rfl rfl
      · exact openValve_closeKeeps s
    · exact .refl s
  · split
    · exact openValve_closeKeeps s
    · split
      · exact withBsc_closeKeeps rfl rfl
      · exact .refl s
  · split
    · exact closeValve_closeKeeps .idle s
    · exact .refl s
  · exact .refl s

theorem lmHold_closeKeeps {cs : List Cause} (h : ∀ c ∈ cs, ¬ latching c) (i : Spout) (s : State) :
    CloseKeeps s (lmHold cs i s) :=
  ((lmHold_runsOn cs i s (.inr h)).gateKeeps (lmHold_confined cs i s).shared.blind).closeKeeps

theorem lmLift_closeKeeps {c : Cause} (h : ¬ latching c) (i : Spout) (s : State) : CloseKeeps s (lmLift c i s) :=
  ((lmLift_runsOn c i s (.inr h)).gateKeeps (lmLift_confined c i s).shared.blind).closeKeeps

theorem starve_not_latching : ¬ latching .starve := by simp [latching]

theorem withDba_closeKeeps (s : State) (x : Dba) (h : x.aerationLow = s.dba.aerationLow) :
    CloseKeeps s (s.withDba x) := 
  { CloseKeeps.refl s with aerationLow := h, counters := fun inv => { inv with } }

theorem lmBudgetRise_closeKeeps (s : State) : CloseKeeps s (lmBudgetRise s) := by
  have aeration := eachSpout_closeKeeps (lmLift_closeKeeps (c := .aeration) (by simp [latching])) s
  have starve := eachSpout_closeKeeps (lmLift_closeKeeps starve_not_latching)
  unfold lmBudgetRise
  dsimp only
  split <;> split
  · exact .refl s
  · exact starve s
  · exact aeration
  · exact aeration.trans (starve _)

theorem recomputeBudget_closeKeeps (s : State) : CloseKeeps s (recomputeBudget s) := by
  unfold recomputeBudget
  dsimp only
  split
  · exact (withDba_closeKeeps s _ (by rfl)).trans (lmBudgetRise_closeKeeps _)
  · exact withDba_closeKeeps s _ rfl

theorem revoke_closeKeeps (s : State) : CloseKeeps s (revoke s) := by
  have emptied : CloseKeeps s (s.withDba { s.dba with allocation := .all none, queue := [] }) :=
    withDba_closeKeeps s _ rfl
  unfold revoke
  refine emptied.trans (eachSpout_closeKeeps (fun i t => ?_) _)
  split
  · exact lmHold_closeKeeps (supplyCauses_not_latching s.dba) i t
  · exact .refl t

theorem dbaSupply_closeKeeps (starved : Bool) (s : State) : CloseKeeps s (dbaSupply s.dba.aerationLow starved s) := by
  have told : CloseKeeps s (s.withDba { s.dba with aerationLow := s.dba.aerationLow, starved := starved }) :=
    withDba_closeKeeps s _ rfl
  unfold dbaSupply
  dsimp only
  split
  · exact (told.trans (recomputeBudget_closeKeeps _)).trans (revoke_closeKeeps _)
  · exact told.trans (recomputeBudget_closeKeeps _)

theorem lmStarve_closeKeeps (on : Bool) (s : State) : CloseKeeps s (lmStarve on s) := by
  have told : CloseKeeps s (s.withLm { s.lm with starved := on }) :=
    { CloseKeeps.refl s with lm := rfl, counters := fun inv => { inv with } }
  unfold lmStarve
  dsimp only
  split
  · exact told.trans (eachSpout_closeKeeps (lmHold_closeKeeps (by simp [latching])) _)
  · exact told.trans (eachSpout_closeKeeps (lmLift_closeKeeps starve_not_latching) _)

theorem bscClose_closeKeeps (s : State) : CloseKeeps s (bscClose s) := by
  unfold bscClose
  split
  · exact .refl s
  · next level _ =>
    have judged : CloseKeeps s (s.withBsc { s.bsc with starved := starveAfter (working s) level s.bsc.starved }) :=
      withBsc_closeKeeps rfl rfl
    have tested := judged.trans (refillTests_closeKeeps (working s) level _)
    dsimp only
    split
    · exact tested
    · exact tested.trans ((dbaSupply_closeKeeps _ _).trans (lmStarve_closeKeeps _ _))

/-! ### The close -/

theorem modeTest_blind (w : Params) (m : Mode) (e : Entry) (run : Nat) : modeTest w m e run = .blind ↔ m = .blind := by
  cases m <;> simp only [modeTest] <;> repeat' split <;> simp

theorem leakJudged_lastQ (w : Params) (x : Sensor) : (leakJudged w x).lastQ = x.lastQ := by
  unfold leakJudged leakCounts
  dsimp only
  repeat' split
  all_goals rfl

/-- The leak counts stop below the ten windows that set or clear the alarm (R52). -/
theorem leakJudged_ranges (w : Params) {x : Sensor} (h : x.solo ≤ 255 ∧ x.leakSet ≤ 9 ∧ x.leakClear ≤ 9) :
    (leakJudged w x).leakSet ≤ 9 ∧ (leakJudged w x).leakClear ≤ 9 := by
  have counts : ∀ leak quiet, (leakCounts leak quiet x).leakSet ≤ 9 ∧ (leakCounts leak quiet x).leakClear ≤ 9 := by
    intro leak quiet
    unfold leakCounts
    dsimp only
    split
    · generalize (if quiet = true then x.leakClear + 1 else 0) = n
      split
      · exact ⟨Nat.zero_le 9, Nat.zero_le 9⟩
      · exact ⟨h.2.1, by dsimp only; omega⟩
    · generalize (if leak = true then x.leakSet + 1 else 0) = n
      split
      · exact ⟨Nat.zero_le 9, Nat.zero_le 9⟩
      · exact ⟨by dsimp only; omega, h.2.2⟩
  unfold leakJudged
  split
  · exact h.2
  · exact counts _ _

theorem sensorOf_ssuComplete (s : State) (i : Spout) : sensorOf (ssuComplete s) i = sensorCompleted s i :=
  PerSpout.get_of _ i

theorem ssuComplete_blockKeeps (s : State) : BlockKeeps [] s (ssuComplete s) :=
  { BlockKeeps.refl [] s with
    counters := fun inv => { inv with
      sensors := fun i => by
        obtain ⟨set, clear⟩ := leakJudged_ranges (working s) (inv.sensors i)
        rw [sensorOf_ssuComplete]
        refine ⟨?_, set, clear⟩
        unfold sensorCompleted
        dsimp only
        split
        · exact Nat.min_le_left _ _
        · exact Nat.zero_le _ }
    lastQ := fun i => by
      rw [sensorOf_ssuComplete]
      exact leakJudged_lastQ _ _ }

theorem withBmu_blockKeeps {s : State} {x : Bmu} (h : x.mode = .blind ↔ s.bmu.mode = .blind)
    (windows : x.zero.windowCount = s.bmu.zero.windowCount) (zero : x.zero.state = s.bmu.zero.state) :
    BlockKeeps [] s (s.withBmu x) :=
  { BlockKeeps.refl [] s with
    blind := h
    counters := fun inv => { inv with
      zero := by rw [State.withBmu_bmu, windows, zero]; exact inv.zero } }

theorem abortZero_blockKeeps (s : State) : BlockKeeps [] s (abortZero s) := by
  rw [abortZero_eq]
  refine { BlockKeeps.refl [] s with counters := fun inv => { inv with zero := ?_ } }
  dsimp only
  split
  · exact ⟨Nat.zero_le 20, nofun⟩
  · exact inv.zero

theorem bmuEmptyHistory_blockKeeps (s : State) : BlockKeeps [] s (bmuEmptyHistory s) := by
  rw [bmuEmptyHistory_eq]
  exact { BlockKeeps.refl [] s with
    counters := fun inv => { inv with }
    blind := by
      dsimp only
      split
      · next weighs => rcases weighs with h | h <;> simp [h]
      · rfl }

theorem bscZeroEnded_blockKeeps (s : State) : BlockKeeps [] s (bscZeroEnded s) := by
  unfold bscZeroEnded leaveSuspended
  split
  · exact { BlockKeeps.refl [] s with counters := fun inv => { inv with } }
  · exact { BlockKeeps.refl [] s with counters := fun inv => { inv with } }

theorem withZero_blockKeeps (s : State) (z : ZeroOp)
    (range : CounterInv s → z.windowCount ≤ 20 ∧ (z.state = .running → z.windowCount ≤ 19)) :
    BlockKeeps [] s (s.withBmu { s.bmu with zero := z }) :=
  { BlockKeeps.refl [] s with counters := fun inv => { inv with zero := range inv } }

/-- A used window of a running zero: the twentieth ends it (R36). -/
theorem zeroWindow_blockKeeps (e : Entry) (raw : Int) (good : Nat) {s : State} (running : s.bmu.zero.state = .running) :
    BlockKeeps [] s (zeroWindow e raw good s) := by
  unfold zeroWindow
  dsimp only
  split
  · split
    · next last =>
      let z := s.bmu.zero.rawSum + raw
      let n := s.bmu.zero.sampleCount + good
      let u := setWorking s { working s with binZero := z.tdiv n }
      have learned : BlockKeeps [] s u := { BlockKeeps.refl [] s with pm := rfl, counters := fun inv => { inv with } }
      have done : BlockKeeps [] u (u.withBmu { s.bmu with zero := { s.bmu.zero with
          windowCount := s.bmu.zero.windowCount + 1, rawSum := z, sampleCount := n, state := .done } }) :=
        withZero_blockKeeps u _ fun inv => ⟨Nat.succ_le_succ (inv.zero.2 running), nofun⟩
      exact ((learned.trans done).trans (bmuEmptyHistory_blockKeeps _)).trans (bscZeroEnded_blockKeeps _)
    · next more =>
      exact withZero_blockKeeps s _ fun inv => ⟨Nat.succ_le_succ (inv.zero.2 running), fun _ => by dsimp only; omega⟩
  · exact abortZero_blockKeeps s

/-- The state in which the BMU and the SSU have completed a window (R25, R43). -/
def windowCompleted (s : State) : State :=
  ssuComplete (s.withBmu (bmuCloseWindow (working s) (windowMasses s) (flowingSet s) s.bmu))

/-- A close as far as the zero operation. -/
def windowHandedOn (e : Entry) (s : State) : State :=
  settle (bscClose (eachSpout windowStep (eachSpout (learnGain s.bmu.mode s.bmu.f) (oauClose e s.bmu.mode s.bmu.f s))))

theorem windowClose_eq (s : State) :
    let e := closingEntry (working s) s.bmu (windowMasses s) (flowingSet s)
    windowClose s = if s.bmu.zero.state = .running ∧ s.bmu.zero.skipWindow = false
      then settle (zeroWindow e s.bmu.rawSum s.bmu.goodCount (windowHandedOn e (windowCompleted s)))
      else windowHandedOn e (windowCompleted s) := rfl

theorem windowCompleted_blockKeeps (s : State) : BlockKeeps [] s (windowCompleted s) :=
  (withBmu_blockKeeps (x := bmuCloseWindow (working s) (windowMasses s) (flowingSet s) s.bmu)
    (modeTest_blind _ _ _ _) rfl rfl).trans (ssuComplete_blockKeeps _)

theorem windowHandedOn_closeKeeps (e : Entry) (s : State) : CloseKeeps s (windowHandedOn e s) :=
  ((((oauClose_closeKeeps e _ _ s).trans (eachSpout_closeKeeps (learnGain_closeKeeps _ _) _)).trans
    (eachSpout_closeKeeps (fun i t => (windowStep_gateKeeps i t).closeKeeps) _)).trans (bscClose_closeKeeps _)).trans
    (settle_gateKeeps _).closeKeeps

theorem windowClose_blockKeeps (s : State) : BlockKeeps [] s (windowClose s) := by
  rw [windowClose_eq]
  have handed := fun e => (windowCompleted_blockKeeps s).trans (windowHandedOn_closeKeeps e _).toBlockKeeps
  split
  · next used =>
    have running : ∀ e, (windowHandedOn e (windowCompleted s)).bmu.zero.state = .running := fun e => by
      rw [(windowHandedOn_closeKeeps e _).bmu]; exact used.1
    exact ((handed _).trans (zeroWindow_blockKeeps _ _ _ (running _))).trans (settle_gateKeeps _).toBlockKeeps
  · exact handed _

/-! ### The position -/

theorem countPosition_zero (w : Params) (refill : Bool) (m : Mark) (b : Bmu) :
    (countPosition w refill m b).mode = b.mode ∧
      (countPosition w refill m b).zero.windowCount = b.zero.windowCount ∧
      (countPosition w refill m b).zero.state = b.zero.state := by
  unfold countPosition addBinSample
  dsimp only
  split
  · split <;> exact ⟨rfl, rfl, rfl⟩
  · exact ⟨rfl, rfl, rfl⟩

theorem bmuPosition_blockKeeps (p : PositionIn) (s : State) : BlockKeeps [] s (bmuPosition p s) := by
  unfold bmuPosition
  split
  · split
    · exact (ssuComplete_blockKeeps s).trans (oauVolumetric_closeKeeps _ _).toBlockKeeps
    · exact .refl [] s
  · obtain ⟨mode, windows, zero⟩ := countPosition_zero (working s) s.sli.refillCommand p.bin s.bmu
    have counted := withBmu_blockKeeps (s := s) (by rw [mode]) windows zero
    dsimp only
    split
    · exact counted.trans (windowClose_blockKeeps _)
    · exact counted

theorem oauPosition_closeKeeps (fl : PerSpout Flow) (s : State) : CloseKeeps s (oauPosition fl s) :=
  eachSpout_closeKeeps (fun _ t => withOau_closeKeeps t _ (by exact id)) s

theorem BlockKeeps.all {s t : State} (h : BlockKeeps [] s t) : BlockKeeps Spout.all s t := h.mono (by simp)

theorem pathOrder_blockKeeps (o : Sched) (p : PositionIn) (fl : PerSpout Flow) (s : State) :
    BlockKeeps Spout.all s (pathOrder o p fl s) := by
  have gates := fun t => (eachSpout_gateFlows_gateKeeps fl t).toBlockKeeps
  have masses := fun t => (oauPosition_closeKeeps fl t).toBlockKeeps.all
  have window := fun t => (bmuPosition_blockKeeps p t).all
  unfold pathOrder
  split
  · exact ((masses s).trans (gates _)).trans (window _)
  · exact ((gates s).trans (masses _)).trans (window _)
  · exact ((masses s).trans (window _)).trans (gates _)
  · exact ((window s).trans (gates _)).trans (masses _)

theorem sensorOf_ssuPosition (p : PositionIn) (s : State) (i : Spout) :
    sensorOf (ssuPosition p s) i = sensorAfter s p i := PerSpout.get_of _ i

theorem ssuPosition_keeps (p : PositionIn) (s : State) : PositionKeeps [] s (ssuPosition p s) :=
  { PositionKeeps.refl [] s with
    counters := fun inv => { inv with sensors := fun i => by rw [sensorOf_ssuPosition]; exact inv.sensors i } }

/-- The state in which a position's flows are formed: after the feedback, or before it (log 4). -/
def flowsFormed (o : Sched) (p : PositionIn) (s : State) : State :=
  if o.flowsBeforeFeedback then s else feedbackPosition p s

/-- The end of a position: the feedback, where it comes last (log 4). -/
def feedbackLast (o : Sched) (p : PositionIn) (s : State) : State :=
  if o.flowsBeforeFeedback then feedbackPosition p s else s

theorem framePosition_eq (o : Sched) (p : PositionIn) (s : State) : framePosition o p s =
    feedbackLast o p (pathOrder o p (.of (flowOf (flowsFormed o p s) p)) (ssuPosition p (flowsFormed o p s))) := rfl

theorem flowsFormed_gateKeeps (o : Sched) (p : PositionIn) (s : State) : GateKeeps [] s (flowsFormed o p s) := by
  unfold flowsFormed
  split
  · exact .refl [] s
  · exact feedbackPosition_gateKeeps p s

theorem feedbackLast_gateKeeps (o : Sched) (p : PositionIn) (s : State) : GateKeeps [] s (feedbackLast o p s) := by
  unfold feedbackLast
  split
  · exact feedbackPosition_gateKeeps p s
  · exact .refl [] s

theorem framePosition_keeps (o : Sched) (p : PositionIn) (s : State) :
    PositionKeeps Spout.all s (framePosition o p s) := by
  have all : ∀ {t u : State}, PositionKeeps [] t u → PositionKeeps Spout.all t u := PositionKeeps.mono (by simp)
  rw [framePosition_eq]
  exact (((all (flowsFormed_gateKeeps o p s).toPositionKeeps).trans (all (ssuPosition_keeps p _))).trans
    (pathOrder_blockKeeps o p _ _).toPositionKeeps).trans (all (feedbackLast_gateKeeps o p _).toPositionKeeps)

/-- Each spout's q after a position is the one the position formed. -/
theorem framePosition_lastQ (o : Sched) (p : PositionIn) (s : State) (i : Spout) :
    (sensorOf (framePosition o p s) i).lastQ = (flowOf (flowsFormed o p s) p i).q := by
  rw [framePosition_eq, (feedbackLast_gateKeeps o p _).toBlockKeeps.lastQ, (pathOrder_blockKeeps o p _ _).lastQ,
    sensorOf_ssuPosition]
  rfl

/-- Missed positions keep every spout's q (R10, R40). -/
theorem missedPositions_blockKeeps (o : Sched) (n : Nat) (s : State) :
    BlockKeeps Spout.all s (missedPositions o n s) := by
  induction n generalizing s with
  | zero => exact .refl _ s
  | succ n ih =>
    have one : BlockKeeps Spout.all s (framePosition o missedPosition s) :=
      { framePosition_keeps o missedPosition s with
        lastQ := fun i => (framePosition_lastQ o missedPosition s i).trans
          ((flowsFormed_gateKeeps o missedPosition s).toBlockKeeps.lastQ i) }
    exact one.trans (ih _)

end Sys2Proof.Machine
end

section
/-! A frame position away from a close and one that closes the window (R21, R25, R44), and what the link hands on for an
accepted frame (R8, R29). -/

namespace Sys2Proof.Machine

/-! ### Away from a close -/

/-- The next position closes no window: outside BLIND the window has room for it, in BLIND every accumulator has. -/
def awayFromClose (limit : Nat) (s : State) : Prop :=
  (s.bmu.mode = .blind → ∀ i, (sensorOf s i).count < limit) ∧ (s.bmu.mode ≠ .blind → s.bmu.position < 9)

/-- The places of the window that a position fills. -/
def placesFilled (s : State) : Nat := if s.bmu.mode = .blind then 0 else 1

/-- What the parts of a position do away from a close: the open parts take `grams`, the window `places`. -/
structure QuietKeeps (grams : Spout → Nat) (places : Nat) (s t : State) : Prop where
  sensors : ∀ i, sensorOf t i = { sensorOf s i with demand := (sensorOf t i).demand }
  openPart : ∀ i, t.oau.openPart.get i = s.oau.openPart.get i + (grams i : Int)
  position : t.bmu.position = s.bmu.position + places
  ring : t.bmu.ring = s.bmu.ring
  disturbedMark : t.bmu.disturbedMark = s.bmu.disturbedMark
  blind : t.bmu.mode = .blind ↔ s.bmu.mode = .blind
  blindRecord : t.bsc.blindRecord = s.bsc.blindRecord
  valve : s.bsc.state ≠ .deferred → t.bmu.mode = s.bmu.mode ∧ t.bsc.state = s.bsc.state

theorem QuietKeeps.trans {g g' : Spout → Nat} {n n' : Nat} {s t u : State} (h : QuietKeeps g n s t)
    (k : QuietKeeps g' n' t u) : QuietKeeps (fun i => g i + g' i) (n + n') s u where
  sensors i := by rw [k.sensors i, h.sensors i]
  openPart i := by rw [k.openPart i, h.openPart i, Nat.cast_add, Int.add_assoc]
  position := by rw [k.position, h.position, Nat.add_assoc]
  ring := k.ring.trans h.ring
  disturbedMark := k.disturbedMark.trans h.disturbedMark
  blind := k.blind.trans h.blind
  blindRecord := k.blindRecord.trans h.blindRecord
  valve shut := by
    obtain ⟨mode, state⟩ := h.valve shut
    obtain ⟨mode', state'⟩ := k.valve (state ▸ shut)
    exact ⟨mode'.trans mode, state'.trans state⟩

theorem GateKeeps.quiet {ends : List Spout} {s t : State} (h : GateKeeps ends s t) : QuietKeeps (fun _ => 0) 0 s t where
  sensors := h.sensors
  openPart i := by rw [h.openPart, Nat.cast_zero, Int.add_zero]
  position := by rw [h.bmu]; rfl
  ring := by rw [h.bmu]
  disturbedMark := by rw [h.bmu]
  blind := h.blind
  blindRecord := h.blindRecord
  valve := h.valve

theorem QuietKeeps.away {g : Spout → Nat} {limit : Nat} {s t : State} (h : QuietKeeps g 0 s t)
    (away : awayFromClose limit s) : awayFromClose limit t :=
  ⟨fun hb i => by rw [h.sensors i]; exact away.1 (h.blind.mp hb) i,
    fun hb => by rw [h.position]; exact away.2 (mt h.blind.mpr hb)⟩

theorem QuietKeeps.placesFilled {g : Spout → Nat} {n : Nat} {s t : State} (h : QuietKeeps g n s t) :
    placesFilled t = placesFilled s := by simp only [Machine.placesFilled, h.blind]

theorem oauPosition_openPart (fl : PerSpout Flow) (s : State) (i : Spout) :
    (oauPosition fl s).oau.openPart.get i = s.oau.openPart.get i + ((fl.get i).grams : Int) := by
  cases i <;> rfl

theorem oauPosition_quiet (fl : PerSpout Flow) (s : State) :
    QuietKeeps (fun i => (fl.get i).grams) 0 s (oauPosition fl s) :=
  ⟨fun _ => rfl, oauPosition_openPart fl s, rfl, rfl, rfl, .rfl, rfl, fun _ => ⟨rfl, rfl⟩⟩

/-- One more place of the window filled (R21). -/
theorem countPosition_window (w : Params) (refill : Bool) (m : Mark) (b : Bmu) :
    (countPosition w refill m b).position = b.position + 1 ∧ (countPosition w refill m b).ring = b.ring ∧
      (countPosition w refill m b).disturbedMark = b.disturbedMark ∧ (countPosition w refill m b).mode = b.mode := by
  unfold countPosition addBinSample
  dsimp only
  split
  · split <;> exact ⟨rfl, rfl, rfl, rfl⟩
  · exact ⟨rfl, rfl, rfl, rfl⟩

/-- Outside BLIND a position fills the next place of the window, the tenth closing it (R21). -/
theorem bmuPosition_of_sighted (p : PositionIn) {s : State} (h : s.bmu.mode ≠ .blind) :
    let t := s.withBmu (countPosition (working s) s.sli.refillCommand p.bin s.bmu)
    bmuPosition p s = if 10 ≤ s.bmu.position + 1 then windowClose t else t := by
  intro t
  rw [bmuPosition, if_neg h]
  exact congrArg (fun n => if 10 ≤ n then windowClose t else t) (countPosition_window _ _ _ _).1

theorem bmuPosition_quiet (p : PositionIn) {s : State} (away : awayFromClose 10 s) :
    QuietKeeps (fun _ => 0) (placesFilled s) s (bmuPosition p s) := by
  by_cases h : s.bmu.mode = .blind
  · have counts := away.1 h
    have room : ¬ (Spout.all.any fun i => decide (10 ≤ (sensorOf s i).count)) = true := by
      simpa [Spout.all] using ⟨counts .A, counts .B, counts .C⟩
    have still : bmuPosition p s = s := by rw [bmuPosition, if_pos h, if_neg (by simp [room])]
    rw [still, placesFilled, if_pos h]
    exact (GateKeeps.refl [] s).quiet
  · obtain ⟨position, ring, mark, mode⟩ := countPosition_window (working s) s.sli.refillCommand p.bin s.bmu
    have room := away.2 h
    rw [bmuPosition_of_sighted p h, if_neg (by omega), placesFilled, if_neg h]
    exact ⟨fun _ => rfl, fun i => (Int.add_zero _).symm, position, ring, mark, by simp [mode], rfl,
      fun _ => ⟨mode, rfl⟩⟩

theorem pathOrder_quiet (o : Sched) (p : PositionIn) (fl : PerSpout Flow) {s : State} (away : awayFromClose 10 s) :
    QuietKeeps (fun i => (fl.get i).grams) (placesFilled s) s (pathOrder o p fl s) := by
  have gates := fun t => (eachSpout_gateFlows_gateKeeps fl t).quiet
  have masses := oauPosition_quiet fl
  have window : ∀ {g : Spout → Nat} {t}, QuietKeeps g 0 s t →
      QuietKeeps (fun _ => 0) (placesFilled s) t (bmuPosition p t) :=
    fun h => h.placesFilled ▸ bmuPosition_quiet p (h.away away)
  unfold pathOrder
  split
  · have before := (masses s).trans (gates _)
    simpa using before.trans (window before)
  · have before := (gates s).trans (masses _)
    simpa using before.trans (window before)
  · simpa using ((masses s).trans (window (masses s))).trans (gates _)
  · simpa using ((bmuPosition_quiet p away).trans (gates _)).trans (masses _)

/-- A spout's sensor after a position away from a close, but for the demand. -/
def positionTaken (o : Sched) (p : PositionIn) (s : State) (i : Spout) : Sensor := sensorAfter (flowsFormed o p s) p i

/-- What a position away from a close comes to, `x` being the state in which its flows are formed. -/
structure PositionQuiet (o : Sched) (p : PositionIn) (s t : State) : Prop where
  sensors : ∀ i, sensorOf t i = { positionTaken o p s i with demand := (sensorOf t i).demand }
  openPart : ∀ i, t.oau.openPart.get i = s.oau.openPart.get i + ((flowOf (flowsFormed o p s) p i).grams : Int)
  position : t.bmu.position = s.bmu.position + placesFilled s
  ring : t.bmu.ring = s.bmu.ring
  disturbedMark : t.bmu.disturbedMark = s.bmu.disturbedMark
  blindRecord : t.bsc.blindRecord = s.bsc.blindRecord
  valve : s.bsc.state ≠ .deferred → t.bmu.mode = s.bmu.mode ∧ t.bsc.state = s.bsc.state

theorem framePosition_quiet (o : Sched) (p : PositionIn) {s : State} (away : awayFromClose 9 s) :
    PositionQuiet o p s (framePosition o p s) := by
  have formed := (flowsFormed_gateKeeps o p s).quiet
  have away' : awayFromClose 10 (ssuPosition p (flowsFormed o p s)) := by
    refine ⟨fun hb i => ?_, (formed.away away).2⟩
    rw [sensorOf_ssuPosition]
    exact Nat.succ_lt_succ ((formed.away away).1 hb i)
  have path := (pathOrder_quiet o p (.of (flowOf (flowsFormed o p s) p)) away').trans
    (feedbackLast_gateKeeps o p _).quiet
  rw [← framePosition_eq] at path
  have places : placesFilled (ssuPosition p (flowsFormed o p s)) = placesFilled s := formed.placesFilled
  constructor
  case sensors => intro i; rw [path.sensors i, sensorOf_ssuPosition]; rfl
  case openPart =>
    intro i
    rw [path.openPart i, PerSpout.get_of]
    exact congrArg (· + _) ((formed.openPart i).trans (Int.add_zero _))
  case position => rw [path.position, places]; exact congrArg (· + _) formed.position
  case ring => exact path.ring.trans formed.ring
  case disturbedMark => exact path.disturbedMark.trans formed.disturbedMark
  case blindRecord => exact path.blindRecord.trans formed.blindRecord
  case valve =>
    intro shut
    obtain ⟨mode, state⟩ := formed.valve shut
    obtain ⟨mode', state'⟩ := path.valve (state ▸ shut)
    exact ⟨mode'.trans mode, state'.trans state⟩

/-! ### The tenth position -/

/-- The window just closed with a DISTURBED entry as the newest of the ring (R24, R25). -/
def ClosedDisturbed (b : Bmu) : Prop := b.position = 0 ∧ ∃ e, b.ring.getLast? = some e ∧ e.disturbed = true

theorem ClosedDisturbed.of_bmu {b c : Bmu} (h : ClosedDisturbed b)
    (same : c = { b with mode := c.mode, refillMark := c.refillMark }) : ClosedDisturbed c := by
  rw [same]
  exact h

theorem getLast?_appendEntry (ring : List Entry) (e : Entry) : (appendEntry ring e).getLast? = some e := by
  simp [appendEntry]

/-- A close of a marked window leaves its DISTURBED entry, which a running zero does not use (R24, R36). -/
theorem windowClose_disturbed {s : State} (h : s.bmu.disturbedMark = true) : ClosedDisturbed (windowClose s).bmu := by
  let e := closingEntry (working s) s.bmu (windowMasses s) (flowingSet s)
  have disturbed : e.disturbed = true := by simp [e, closingEntry, h]
  have completed : ClosedDisturbed (windowCompleted s).bmu := ⟨rfl, e, getLast?_appendEntry _ e, disturbed⟩
  have handed := completed.of_bmu (windowHandedOn_closeKeeps e (windowCompleted s)).bmu
  rw [windowClose_eq]
  generalize windowHandedOn e (windowCompleted s) = t at handed ⊢
  split
  · have unused : zeroWindow e s.bmu.rawSum s.bmu.goodCount t = abortZero t := by simp [zeroWindow, disturbed]
    have aborted : ClosedDisturbed (abortZero t).bmu := by rw [abortZero_eq]; exact handed
    exact unused ▸ aborted.of_bmu (settle_gateKeeps _).bmu
  · exact handed

/-- On the tenth place of a marked window the path of a position closes it. -/
theorem pathOrder_disturbed (o : Sched) (p : PositionIn) (fl : PerSpout Flow) {s : State} (sighted : s.bmu.mode ≠ .blind)
    (tenth : s.bmu.position = 9) (marked : s.bmu.disturbedMark = true) :
    ClosedDisturbed (pathOrder o p fl s).bmu := by
  have gates := fun t => (eachSpout_gateFlows_gateKeeps fl t)
  have masses := oauPosition_quiet fl
  have window : ∀ {g : Spout → Nat} {t}, QuietKeeps g 0 s t → ClosedDisturbed (bmuPosition p t).bmu := by
    intro g t h
    rw [bmuPosition_of_sighted p (mt h.blind.mp sighted), h.position, if_pos (by omega)]
    exact windowClose_disturbed ((countPosition_window _ _ _ _).2.2.1.trans (h.disturbedMark.trans marked))
  have after : ∀ t, ClosedDisturbed t.bmu → ClosedDisturbed (eachSpout (gateFlows fl) t).bmu :=
    fun t h => h.of_bmu (gates t).bmu
  unfold pathOrder
  split
  · exact window ((masses s).trans (gates _).quiet)
  · exact window ((gates s).quiet.trans (masses _))
  · exact after _ (window (masses s))
  · exact (after _ (window (GateKeeps.refl [] s).quiet)).of_bmu (oauPosition_closeKeeps fl _).bmu

theorem framePosition_disturbed (o : Sched) (p : PositionIn) {s : State} (sighted : s.bmu.mode ≠ .blind)
    (tenth : s.bmu.position = 9) (marked : s.bmu.disturbedMark = true) :
    ClosedDisturbed (framePosition o p s).bmu := by
  have formed := (flowsFormed_gateKeeps o p s).quiet
  have closed := pathOrder_disturbed o p (.of (flowOf (flowsFormed o p s) p)) (s := ssuPosition p (flowsFormed o p s))
    (mt formed.blind.mp sighted) (formed.position.trans tenth) (formed.disturbedMark.trans marked)
  rw [framePosition_eq]
  exact closed.of_bmu (feedbackLast_gateKeeps o p _).bmu

/-! ### A run of positions -/

/-- The window after `n` positions outside BLIND, up to one close of a marked window. -/
structure WindowRun (n : Nat) (s t : State) : Prop where
  sighted : t.bmu.mode ≠ .blind
  room : s.bmu.position + n ≤ 9 → t.bmu.position = s.bmu.position + n ∧ t.bmu.ring = s.bmu.ring ∧
    t.bmu.disturbedMark = s.bmu.disturbedMark
  closed : s.bmu.disturbedMark = true → s.bmu.position ≤ 9 → 10 ≤ s.bmu.position + n →
    t.bmu.position = s.bmu.position + n - 10 ∧ ∃ e, t.bmu.ring.getLast? = some e ∧ e.disturbed = true

theorem WindowRun.start {s : State} (h : s.bmu.mode ≠ .blind) : WindowRun 0 s s :=
  ⟨h, fun _ => ⟨rfl, rfl, rfl⟩, fun _ _ _ => by omega⟩

theorem WindowRun.gateKeeps {n : Nat} {ends : List Spout} {s t u : State} (h : WindowRun n s t)
    (k : GateKeeps ends t u) : WindowRun n s u where
  sighted := mt k.blind.mp h.sighted
  room := by rw [k.bmu]; exact h.room
  closed := by rw [k.bmu]; exact h.closed

theorem WindowRun.position {n : Nat} {s t : State} (h : WindowRun n s t) (hn : n < 10) (o : Sched) (p : PositionIn) :
    WindowRun (n + 1) s (framePosition o p t) := by
  have quiet : t.bmu.position < 9 → (framePosition o p t).bmu.position = t.bmu.position + 1 ∧
      (framePosition o p t).bmu.ring = t.bmu.ring ∧ (framePosition o p t).bmu.disturbedMark = t.bmu.disturbedMark := by
    intro room
    have q := framePosition_quiet o p (s := t) ⟨fun hb => absurd hb h.sighted, fun _ => room⟩
    exact ⟨by rw [q.position, placesFilled, if_neg h.sighted], q.ring, q.disturbedMark⟩
  refine ⟨mt (framePosition_keeps o p t).blind.mp h.sighted, fun room => ?_, fun marked place tenth => ?_⟩
  · obtain ⟨position, ring, mark⟩ := h.room (by omega)
    obtain ⟨position', ring', mark'⟩ := quiet (by omega)
    exact ⟨by omega, ring'.trans ring, mark'.trans mark⟩
  · by_cases now : s.bmu.position + n = 9
    · obtain ⟨position, -, mark⟩ := h.room (by omega)
      obtain ⟨zero, entry⟩ := framePosition_disturbed o p h.sighted (position.trans now) (mark.trans marked)
      exact ⟨by omega, entry⟩
    · obtain ⟨position, entry⟩ := h.closed marked place (by omega)
      obtain ⟨position', ring', -⟩ := quiet (by omega)
      exact ⟨by omega, ring' ▸ entry⟩

theorem WindowRun.missedPositions {n : Nat} {s t : State} (h : WindowRun n s t) (k : Nat) (hk : n + k ≤ 10) (o : Sched) :
    WindowRun (n + k) s (missedPositions o k t) := by
  induction k generalizing n t with
  | zero => exact h
  | succ k ih =>
    have one := h.position (by omega) o missedPosition
    have rest := ih one (by omega)
    rwa [Nat.add_right_comm] at rest

/-! ### An accepted frame -/

/-- The bin channel's FRESH sample ends BLIND (R29), written as one record. -/
theorem leaveBlind_eq (s : State) :
    let left := s.bmu.mode = .blind ∧ s.sli.bin.state = .fresh
    leaveBlind s = { s with
      bmu := { s.bmu with mode := if left then .unready else s.bmu.mode }
      oau := { s.oau with modeRecord := (leaveBlind s).oau.modeRecord, carry := (leaveBlind s).oau.carry }
      bsc := { s.bsc with
        blindRecord := if left then false else s.bsc.blindRecord
        state := if left ∧ s.bsc.state = .suspended ∧ s.bsc.zeroRecord = false then .idle else s.bsc.state } } := by
  intro left
  unfold leaveBlind
  split
  · next h =>
    have hl : left := h
    simp only [bscBlindLeft, leaveSuspended, hl, true_and]
    split
    · next ended =>
      rw [if_pos (show s.bsc.state = .suspended ∧ s.bsc.zeroRecord = false from ⟨ended.1, ended.2.2⟩)]
      rfl
    · next stays =>
      rw [if_neg fun n : s.bsc.state = .suspended ∧ s.bsc.zeroRecord = false => stays ⟨n.1, rfl, n.2⟩]
      rfl
  · next h =>
    have hl : ¬ left := h
    simp only [hl, false_and, if_false]

/-- The state as the link hands a frame on: its number and its samples taken, BLIND left (R8, R12, R29). -/
def frameTaken (f : InFrame) (n : Nat) (s : State) : State := leaveBlind (takeSamples f (takeSequence n s))

theorem acceptFrame_eq (f : InFrame) (n : Nat) (o : Sched) (s : State) : acceptFrame f n o s =
    framePosition o (positionOf f (settle (frameTaken f n s))) (settle (frameTaken f n s)) := rfl

/-- The link's record after a frame (R8, R12, R13). -/
theorem frameTaken_sli (f : InFrame) (n : Nat) (s : State) : (frameTaken f n s).sli = { s.sli with
    lastSeq := some n, lockTimer := some 0
    bin := channelAfter (sampleOf f.bin) s.sli.bin
    impact := .of fun i => channelAfter (sampleOf (f.impact.get i)) (s.sli.impact.get i)
    feedback := .of fun i => channelAfter (feedbackSample (f.feedback.get i)) (s.sli.feedback.get i) } := by
  have samples : (frameTaken f n s).sli = (takeSamples f (takeSequence n s)).sli := by rw [frameTaken, leaveBlind_eq]
  rw [samples, takeSamples]
  simp only [takeSequence, State.withSli_sli, goodSample_eq, goodFeedback_eq, Channel.take_eq]

/-- What else the link's taking of a frame leaves: all but the mode, the refill's wait and the gravimetric carry. -/
theorem frameTaken_eq (f : InFrame) (n : Nat) (s : State) :
    let left := s.bmu.mode = .blind ∧ (channelAfter (sampleOf f.bin) s.sli.bin).state = .fresh
    frameTaken f n s = { s with
      sli := (frameTaken f n s).sli
      bmu := { s.bmu with mode := if left then .unready else s.bmu.mode }
      oau := { s.oau with modeRecord := (frameTaken f n s).oau.modeRecord, carry := (frameTaken f n s).oau.carry }
      bsc := { s.bsc with
        blindRecord := if left then false else s.bsc.blindRecord
        state := if left ∧ s.bsc.state = .suspended ∧ s.bsc.zeroRecord = false then .idle else s.bsc.state } } := by
  have bin : (takeSamples f (takeSequence n s)).sli.bin = channelAfter (sampleOf f.bin) s.sli.bin := by
    rw [← goodSample_eq, ← Channel.take_eq]; rfl
  have taken := leaveBlind_eq (takeSamples f (takeSequence n s))
  have sli : (frameTaken f n s).sli = (takeSamples f (takeSequence n s)).sli := by rw [frameTaken, leaveBlind_eq]
  rw [bin] at taken
  rw [sli]
  exact taken

end Sys2Proof.Machine
end

section
/-! The obligations of an accepted frame: the gap before it (R8 to R11), the lock it may complete (R6), and what one
position forms (O18, O19, O20). -/

namespace Sys2Proof.Machine

/-! ### What the hand-on of a frame leaves -/

theorem frameTaken_pm (f : InFrame) (n : Nat) (s : State) : (frameTaken f n s).pm = s.pm := by rw [frameTaken_eq]
theorem frameTaken_lm (f : InFrame) (n : Nat) (s : State) : (frameTaken f n s).lm = s.lm := by rw [frameTaken_eq]
theorem frameTaken_ssu (f : InFrame) (n : Nat) (s : State) : (frameTaken f n s).ssu = s.ssu := by rw [frameTaken_eq]
theorem frameTaken_gate (f : InFrame) (n : Nat) (s : State) : (frameTaken f n s).gate = s.gate := by rw [frameTaken_eq]
theorem frameTaken_openPart (f : InFrame) (n : Nat) (s : State) :
    (frameTaken f n s).oau.openPart = s.oau.openPart := by rw [frameTaken_eq]

/-- Outside BLIND the hand-on leaves the BMU as it is. -/
theorem frameTaken_bmu (f : InFrame) (n : Nat) {s : State} (h : s.bmu.mode ≠ .blind) : (frameTaken f n s).bmu = s.bmu := by
  rw [frameTaken_eq]
  dsimp only
  rw [if_neg fun left => h left.1]

theorem frameTaken_position (f : InFrame) (n : Nat) (s : State) :
    (frameTaken f n s).bmu.position = s.bmu.position := by rw [frameTaken_eq]

theorem frameTaken_blind (f : InFrame) (n : Nat) (s : State) : (frameTaken f n s).bmu.mode = .blind →
    s.bmu.mode = .blind := fun h => by
  by_contra sighted
  exact sighted (frameTaken_bmu f n sighted ▸ h)

/-- What an accepted frame does to the parts that its position does not move (R8, R12, R13). -/
structure FrameHandled (f : InFrame) (n : Nat) (s t : State) : Prop where
  sli : t.sli = { s.sli with
    lastSeq := some n, lockTimer := some 0
    bin := channelAfter (sampleOf f.bin) s.sli.bin
    impact := .of fun i => channelAfter (sampleOf (f.impact.get i)) (s.sli.impact.get i)
    feedback := .of fun i => channelAfter (feedbackSample (f.feedback.get i)) (s.sli.feedback.get i)
    gateCommand := t.sli.gateCommand, refillCommand := t.sli.refillCommand }
  pm : t.pm = { s.pm with working := { s.pm.working with
    binZero := t.pm.working.binZero, spoutGain := t.pm.working.spoutGain, tailMs := t.pm.working.tailMs } }
  lm : t.lm = { s.lm with slot := t.lm.slot, latch := t.lm.latch, linkTimer := t.lm.linkTimer, starved := t.lm.starved
                          demand := t.lm.demand }
  aerationLow : t.dba.aerationLow = s.dba.aerationLow
  supplyFault : t.bsc.supplyFault = s.bsc.supplyFault
  aerationHigh : t.bsc.aerationHigh = s.bsc.aerationHigh
  pc : t.pc = s.pc
  power : t.power = s.power
  pending : t.pending = s.pending
  sense : ∀ i x, loadOf t i = some x → x.causes.sense = true → ∃ l, loadOf s i = some l ∧ l.causes.sense = true

theorem acceptFrame_keeps (f : InFrame) (n : Nat) (o : Sched) (s : State) :
    PositionKeeps Spout.all (frameTaken f n s) (acceptFrame f n o s) := by
  rw [acceptFrame_eq]
  exact ((settle_gateKeeps _).toPositionKeeps.mono (by simp)).trans (framePosition_keeps o _ _)

theorem PositionKeeps.frameHandled {ends : List Spout} {f : InFrame} {n : Nat} {s t : State}
    (h : PositionKeeps ends (frameTaken f n s) t) : FrameHandled f n s t where
  sli := by rw [h.sli, frameTaken_sli]
  pm := by rw [h.pm, frameTaken_pm]
  lm := by rw [h.lm, frameTaken_lm]
  aerationLow := h.aerationLow.trans (by rw [frameTaken_eq])
  supplyFault := h.supplyFault.trans (by rw [frameTaken_eq])
  aerationHigh := h.aerationHigh.trans (by rw [frameTaken_eq])
  pc := h.pc.trans (by rw [frameTaken_eq])
  power := h.power.trans (by rw [frameTaken_eq])
  pending := h.pending.trans (by rw [frameTaken_eq])
  sense i x hx set := by
    obtain ⟨l, hl, hs⟩ := h.sense i x hx set
    rw [loadOf, frameTaken_lm] at hl
    exact ⟨l, hl, hs⟩

/-! ### The flows and the masses of a frame -/

theorem indicated_eq (zero : Int) (gain : Nat) (v : Int) :
    indicated zero gain v = min 400000 ((max 0 (v - zero)).toNat * gain / 65536) := by
  unfold indicated
  rw [show (max 0 (v - zero)).toNat = (v - zero).toNat by omega]

/-- The q of a frame from the sample, or from the held one while the channel is FRESH (R40). -/
theorem flowOf_frame {f : InFrame} {s u x : State} {i : Spout}
    (impact : u.sli.impact.get i = channelAfter (sampleOf (f.impact.get i)) (s.sli.impact.get i))
    (zero : x.pm.working.spoutZero = s.pm.working.spoutZero) (gain : x.pm.working.spoutGain = s.pm.working.spoutGain) :
    (flowOf x (positionOf f u) i).q = frameFlow f s i := by
  simp only [flowOf, positionQ, positionOf, Bool.false_eq_true, if_false, PerSpout.get_of, impact, goodSample_eq, working,
    zero, gain, indicated_eq, frameFlow]
  cases sampleOf (f.impact.get i) with
  | some v => rfl
  | none =>
    simp only [markOf, channelAfter]
    cases (s.sli.impact.get i).state <;> rfl

/-- The state in which an accepted frame's flows are formed. -/
def frameFormed (f : InFrame) (n : Nat) (o : Sched) (s : State) : State :=
  flowsFormed o (positionOf f (settle (frameTaken f n s))) (settle (frameTaken f n s))

theorem frameFormed_gateKeeps (f : InFrame) (n : Nat) (o : Sched) (s : State) :
    GateKeeps [] (frameTaken f n s) (frameFormed f n o s) := (settle_gateKeeps _).trans (flowsFormed_gateKeeps o _ _)

theorem frameFormed_q (f : InFrame) (n : Nat) (o : Sched) (s : State) (i : Spout) :
    (flowOf (frameFormed f n o s) (positionOf f (settle (frameTaken f n s))) i).q = frameFlow f s i := by
  have formed := frameFormed_gateKeeps f n o s
  refine flowOf_frame ?_ ?_ ?_
  · rw [(settle_gateKeeps _).sli, frameTaken_sli]
    exact PerSpout.get_of _ i
  · rw [formed.pm, frameTaken_pm]
  · rw [formed.gain, frameTaken_pm]

theorem acceptFrame_lastQ (f : InFrame) (n : Nat) (o : Sched) (s : State) (i : Spout) :
    (sensorOf (acceptFrame f n o s) i).lastQ = frameFlow f s i := by
  rw [acceptFrame_eq, framePosition_lastQ]
  exact frameFormed_q f n o s i

/-- Without BIN-SOLO no flow is substituted (R41). -/
theorem flowOf_effective {s : State} (h : s.pm.working.sensorPolicy = .hold) (p : PositionIn) (i : Spout) :
    (flowOf s p i).effective = (flowOf s p i).q := by
  have : substitutionHolds s i = false := by simp [substitutionHolds, working, h]
  simp [flowOf, this]

/-- The masses of an accepted frame under SENSOR_POLICY HOLD, away from a close (R42, R43, R65). -/
theorem acceptFrame_masses {f : InFrame} {n : Nat} {o : Sched} {s : State} (hold : s.pm.working.sensorPolicy = .hold)
    (away : awayFromClose 9 (frameTaken f n s)) (i : Spout) :
    let numerator := frameFlow f s i * s.pm.working.framePeriodUs + (sensorOf s i).carry
    let t := acceptFrame f n o s
    (sensorOf t i).carry = numerator % 1000000 ∧
      (sensorOf t i).massSum = (sensorOf s i).massSum + numerator / 1000000 ∧
      (sensorOf t i).count = (sensorOf s i).count + 1 ∧
      t.oau.openPart.get i = s.oau.openPart.get i + ((numerator / 1000000 : Nat) : Int) := by
  intro numerator t
  let p := positionOf f (settle (frameTaken f n s))
  have formed := frameFormed_gateKeeps f n o s
  have quiet : PositionQuiet o p (settle (frameTaken f n s)) t :=
    framePosition_quiet o p ((settle_gateKeeps _).quiet.away away)
  have sensor : sensorOf (frameFormed f n o s) i =
      { sensorOf s i with demand := (sensorOf (frameFormed f n o s) i).demand } := by
    rw [formed.sensors i, show sensorOf (frameTaken f n s) i = sensorOf s i by rw [sensorOf, frameTaken_ssu]; rfl]
  have policy : (frameFormed f n o s).pm.working.sensorPolicy = .hold := by rw [formed.pm, frameTaken_pm]; exact hold
  have period : (frameFormed f n o s).pm.working.framePeriodUs = s.pm.working.framePeriodUs := by
    rw [formed.pm, frameTaken_pm]
  have effective : (flowOf (frameFormed f n o s) p i).effective = frameFlow f s i :=
    (flowOf_effective policy p i).trans (frameFormed_q f n o s i)
  have product : (flowOf (frameFormed f n o s) p i).effective * (working (frameFormed f n o s)).framePeriodUs +
      (sensorOf (frameFormed f n o s) i).carry = numerator := by
    rw [effective, working, period, sensor]
  have grams : (flowOf (frameFormed f n o s) p i).grams = numerator / 1000000 := congrArg (· / 1000000) product
  have taken : positionTaken o p (settle (frameTaken f n s)) i = sensorAfter (frameFormed f n o s) p i := rfl
  rw [quiet.sensors i, quiet.openPart i, taken]
  refine ⟨congrArg (· % 1000000) product, ?_, ?_, ?_⟩
  · exact congrArg₂ (· + ·) (by rw [sensor]) grams
  · exact congrArg (·.count + 1) sensor
  · refine congrArg₂ (· + ·) ?_ (congrArg Nat.cast grams)
    rw [(settle_gateKeeps _).openPart, frameTaken_openPart]

theorem frameTaken_away {f : InFrame} {n : Nat} {s : State} (room : s.bmu.position < 9)
    (counts : s.bmu.mode = .blind → ∀ i, (sensorOf s i).count < 9) : awayFromClose 9 (frameTaken f n s) := by
  refine ⟨fun hb i => ?_, fun _ => frameTaken_position f n s ▸ room⟩
  rw [sensorOf, frameTaken_ssu]
  exact counts (frameTaken_blind f n s hb) i

/-! ### A normal frame (O20) -/

theorem gapOf_next (m : Nat) : gapOf ((m + 1) % 256) m = 0 := by unfold gapOf; omega

theorem lockedFrame_next (f : InFrame) (m : Nat) (o : Sched) (s : State) :
    lockedFrame f ((m + 1) % 256) m o s = acceptFrame f ((m + 1) % 256) o s := by
  simp [lockedFrame, gapOf_next]

/-- Settles O20: a normal frame is `acceptFrame`, and `flowOf` and `sensorAfter` say what a position forms. -/
theorem normalFrameGivesFlowsAndMasses : Obligations.NormalFrameGivesFlowsAndMasses := by
  refine ⟨?normal, ?position, fun o k s i => (missedPositions_blockKeeps o k s).lastQ i⟩
  case normal =>
    rintro f o s _ m i hs locked number wf rfl flow q numerator
    let arrived := s.withSli { s.sli with frameInProgress := false }
    have lastQ : (sensorOf (acceptFrame f ((m + 1) % 256) o arrived) i).lastQ = q := acceptFrame_lastQ f _ o arrived i
    have masses := fun hold away => acceptFrame_masses (f := f) (n := (m + 1) % 256) (o := o) (s := arrived) hold away i
    have runs : exec (.frameArrival f o) s = .next (acceptFrame f ((m + 1) % 256) o arrived) := by
      rw [exec_frameArrival hs, frameArrives_locked wf locked number, lockedFrame_next]
    generalize acceptFrame f ((m + 1) % 256) o arrived = t at lastQ masses runs
    exact ⟨t, runs, lastQ, fun hold sighted room => masses hold (frameTaken_away room fun hb => absurd hb sighted)⟩
  case position =>
    intro p s i stands x fl y numerator
    have inForce : fl.substituted = true ↔ stands := substitutionHolds_iff s i
    have taken : y = sensorAfter s p i := sensorOf_ssuPosition p s i
    rw [taken]
    refine ⟨fun missed => if_pos missed, inForce, fun h => if_pos (inForce.mpr h),
      fun h => if_neg fun on => h (inForce.mp on), rfl, rfl, rfl, rfl, rfl, rfl, rfl⟩

/-! ### The lock (O19) -/

theorem lmLift_sense_gateKeeps (i : Spout) (s : State) : GateKeeps [] s (lmLift .sense i s) := by
  have confined := lmLift_confined .sense i s
  refine (lmLift_runsOn (acts := [i]) .sense i s (.inl (by simp))).gateKeeps_of_sense confined.shared.blind
    fun j x hx set => ?_
  by_cases h : j = i
  · subst h
    obtain ⟨l, hl, has⟩ := loadOf_lmLift_has (d := .sense) (by simp) hx
    refine ⟨l, hl, ?_⟩
    split at has
    · exact absurd (set.symm.trans has) nofun
    · exact has.symm.trans set
  · exact ⟨x, (confined.others j h).load ▸ hx, set⟩

/-- The state as the link enters LOCKED, before the LM's loads have heard of it. -/
def lockRecorded (s : State) : State := recordSeeking false (s.withSli { s.sli with lock := .locked })

theorem enterLocked_gateKeeps (s : State) : GateKeeps [] (lockRecorded s) (enterLocked s) := by
  have lifted : GateKeeps [] (lockRecorded s) (eachSpout (lmLift .sense) (lockRecorded s)) :=
    ((lmLift_sense_gateKeeps .A _).trans (lmLift_sense_gateKeeps .B _)).trans (lmLift_sense_gateKeeps .C _)
  exact lifted.trans (settle_gateKeeps _)

/-- No load that was HELD has SENSE once the link is LOCKED (R125). -/
theorem enterLocked_sense {s : State} {i : Spout} {l x : Load} (hl : loadOf s i = some l) (held : l.state = .held)
    (hx : loadOf (enterLocked s) i = some x) : x.causes.sense = false := by
  by_contra set
  obtain ⟨y, hy, ySet⟩ := (settle_gateKeeps _).sense i x hx (by simpa using set)
  obtain ⟨u, before, -, after, -⟩ := eachSpout_at (lmLift_confined .sense) i (lockRecorded s)
  obtain ⟨z, hz, has⟩ := loadOf_lmLift_has (d := .sense) (by simp) (after.load.symm.trans hy)
  obtain rfl : z = l := Option.some.inj ((hz.symm.trans before.load).trans hl)
  rw [if_pos ⟨rfl, held⟩] at has
  exact absurd (ySet.symm.trans has) nofun

/-- Without a tail the position keeps the load of a spout. -/
theorem eachSpout_gateFlows_number {fl : PerSpout Flow} {i : Spout} {s : State} (tail : (gateOf s i).tail = none) :
    (loadOf (eachSpout (gateFlows fl) s) i).map Load.number = (loadOf s i).map Load.number := by
  have keeps : ∀ {j} t, i ≠ j → (gateOf (gateFlows fl j t) i).tail = (gateOf t i).tail ∧
      (loadOf (gateFlows fl j t) i).map Load.number = (loadOf t i).map Load.number :=
    fun t h => (gateFlows_gateKeeps fl _ t).stays i (by simpa using h)
  unfold eachSpout
  cases i with
  | A => rw [(keeps _ (by decide)).2, (keeps _ (by decide)).2, gateFlows_number tail]
  | B =>
    obtain ⟨tail', number⟩ := keeps (j := .A) s (by decide)
    rw [(keeps _ (by decide)).2, gateFlows_number (tail'.trans tail), number]
  | C =>
    obtain ⟨tail', number⟩ := keeps (j := .A) s (by decide)
    obtain ⟨tail'', number'⟩ := keeps (j := .B) (gateFlows fl .A s) (by decide)
    rw [gateFlows_number (tail''.trans (tail'.trans tail)), number', number]

theorem framePosition_number {o : Sched} {p : PositionIn} {i : Spout} {s : State} (tail : (gateOf s i).tail = none) :
    (loadOf (framePosition o p s) i).map Load.number = (loadOf s i).map Load.number := by
  have stays : ∀ {t u : State}, PositionKeeps [] t u → (gateOf u i).tail = (gateOf t i).tail ∧
      (loadOf u i).map Load.number = (loadOf t i).map Load.number := fun h => h.stays i List.not_mem_nil
  obtain ⟨tail', number⟩ := stays ((flowsFormed_gateKeeps o p s).toPositionKeeps.trans (ssuPosition_keeps p _))
  have path : ∀ fl t, (gateOf t i).tail = none →
      (loadOf (pathOrder o p fl t) i).map Load.number = (loadOf t i).map Load.number := by
    intro fl t ht
    have masses := fun u => stays (oauPosition_closeKeeps fl u).toPositionKeeps
    have window := fun u => stays (bmuPosition_blockKeeps p u).toPositionKeeps
    unfold pathOrder
    split
    · rw [(window _).2, eachSpout_gateFlows_number ((masses t).1.trans ht), (masses t).2]
    · rw [(window _).2, (masses _).2, eachSpout_gateFlows_number ht]
    · rw [eachSpout_gateFlows_number ((window _).1.trans ((masses t).1.trans ht)), (window _).2, (masses t).2]
    · rw [(masses _).2, eachSpout_gateFlows_number ((window t).1.trans ht), (window t).2]
  rw [framePosition_eq, (stays (feedbackLast_gateKeeps o p _).toPositionKeeps).2, path _ _ (tail'.trans tail), number]

theorem acceptFrame_number {f : InFrame} {n : Nat} {o : Sched} {i : Spout} {s : State}
    (tail : (gateOf s i).tail = none) :
    (loadOf (acceptFrame f n o s) i).map Load.number = (loadOf s i).map Load.number := by
  have settled := (settle_gateKeeps (frameTaken f n s)).stays i List.not_mem_nil
  have taken : (gateOf (frameTaken f n s) i).tail = none := by rw [gateOf, frameTaken_gate]; exact tail
  rw [acceptFrame_eq, framePosition_number (settled.1.trans taken), settled.2, loadOf, frameTaken_lm]
  rfl

theorem seekingFrame_next {f : InFrame} {c : Nat} {o : Sched} {s : State} (h : s.sli.lastSeq = some c) :
    seekingFrame f ((c + 1) % 256) o s =
      acceptFrame f ((c + 1) % 256) o (enterLocked (takeSequence ((c + 1) % 256) s)) := by
  simp [seekingFrame, h]

/-- The state in which the link has just recorded the lock of frame `n`. -/
def lockBase (n : Nat) (s : State) : State :=
  { s with
    sli := { s.sli with lock := .locked, frameInProgress := false, lastSeq := some n, lockTimer := some 0 }
    lm := { s.lm with seeking := false } }

theorem lockBase_eq (n : Nat) (s : State) :
    lockRecorded (takeSequence n (s.withSli { s.sli with frameInProgress := false })) = lockBase n s := rfl

theorem frameFlow_congr {f : InFrame} {s t : State} (i : Spout) (impact : t.sli.impact = s.sli.impact)
    (zero : t.pm.working.spoutZero = s.pm.working.spoutZero) (gain : t.pm.working.spoutGain = s.pm.working.spoutGain) :
    frameFlow f t i = frameFlow f s i := by simp only [frameFlow, impact, zero, gain]

/-- The exit from BLIND on the frame that locks the link, the refill not deferred (R29, R162). -/
theorem acceptFrame_leavesBlind {f : InFrame} {n : Nat} {o : Sched} {s : State} (blind : s.bmu.mode = .blind)
    (fresh : (channelAfter (sampleOf f.bin) s.sli.bin).state = .fresh) (room : s.bmu.position < 9)
    (shut : s.bsc.state ≠ .deferred) :
    let t := acceptFrame f n o s
    t.bmu.mode = .unready ∧ t.bmu.position = s.bmu.position + 1 ∧ t.bsc.blindRecord = false ∧
      (s.bsc.state = .suspended → s.bsc.zeroRecord = false → t.bsc.state = .idle) := by
  have left : s.bmu.mode = .blind ∧ (channelAfter (sampleOf f.bin) s.sli.bin).state = .fresh := ⟨blind, fresh⟩
  have mode : (frameTaken f n s).bmu.mode = .unready := by rw [frameTaken_eq]; exact if_pos left
  have record : (frameTaken f n s).bsc.blindRecord = false := by rw [frameTaken_eq]; exact if_pos left
  have state : (frameTaken f n s).bsc.state =
      if s.bsc.state = .suspended ∧ s.bsc.zeroRecord = false then .idle else s.bsc.state := by
    rw [frameTaken_eq]; exact if_congr (and_iff_right left) rfl rfl
  have shut' : (frameTaken f n s).bsc.state ≠ .deferred := by
    rw [state]; split
    · exact nofun
    · exact shut
  have settled := (settle_gateKeeps (frameTaken f n s)).quiet
  obtain ⟨mode', state'⟩ := settled.valve shut'
  have sighted : (settle (frameTaken f n s)).bmu.mode ≠ .blind := by rw [mode', mode]; exact nofun
  have position := settled.position.trans (frameTaken_position f n s)
  have quiet := framePosition_quiet o (positionOf f (settle (frameTaken f n s)))
    ⟨fun hb => absurd hb sighted, fun _ => position ▸ room⟩
  rw [← acceptFrame_eq] at quiet
  obtain ⟨mode'', state''⟩ := quiet.valve (state' ▸ shut')
  refine ⟨mode''.trans (mode'.trans mode), ?_, quiet.blindRecord.trans (settled.blindRecord.trans record), ?_⟩
  · rw [quiet.position, placesFilled, if_neg sighted, position]
  · intro suspended zero
    rw [state'', state', state, if_pos ⟨suspended, zero⟩]

/-- Settles O19: the lock is `enterLocked`, and its frame is then handled as a normal one. -/
theorem consecutiveFrameLocksTheLink : Obligations.ConsecutiveFrameLocksTheLink := by
  rintro f o s _ c hs seeking candidate wf rfl
  let n := (c + 1) % 256
  let arrived := s.withSli { s.sli with frameInProgress := false }
  let v := enterLocked (takeSequence n arrived)
  have runs : exec (.frameArrival f o) s = .next (acceptFrame f n o v) := by
    rw [exec_frameArrival hs, frameArrives_seeking wf seeking, seekingFrame_next (s := arrived) candidate]
  have locked : GateKeeps [] (lockBase n s) v := lockBase_eq n s ▸ enterLocked_gateKeeps _
  have freed : ∀ {i l x}, loadOf s i = some l → l.state = .held → loadOf v i = some x → x.causes.sense = false :=
    fun hl held => enterLocked_sense hl held
  have handled := (acceptFrame_keeps f n o v).frameHandled
  have impact : v.sli.impact = s.sli.impact := by rw [locked.sli]; rfl
  have bin : v.sli.bin = s.sli.bin := by rw [locked.sli]; rfl
  have flow : ∀ i, frameFlow f v i = frameFlow f s i := fun i =>
    frameFlow_congr i impact (by rw [locked.pm]; rfl) locked.gain
  have lastQ := acceptFrame_lastQ f n o v
  have masses := fun hold away => acceptFrame_masses (f := f) (n := n) (o := o) (s := v) hold away
  have left := acceptFrame_leavesBlind (f := f) (n := n) (o := o) (s := v)
  have stays := fun i => acceptFrame_number (f := f) (n := n) (o := o) (s := v) (i := i)
  have blind := (acceptFrame_keeps f n o v).blind
  generalize acceptFrame f n o v = t at runs handled lastQ masses left stays blind
  refine ⟨t, runs, ?sli, ?seeking, ?counter, ?interlock, ?pc, ?power, ?pending, fun i => (lastQ i).trans (flow i), ?masses,
    ?left, ?blind, ?sense, ?number⟩
  case sli => rw [handled.sli, locked.sli]; rfl
  case seeking => rw [handled.lm, locked.lm]; rfl
  case counter => rw [handled.lm, locked.lm]; rfl
  case interlock => rw [handled.lm, locked.lm]; rfl
  case pc => exact handled.pc.trans locked.pc
  case power => exact handled.power.trans locked.power
  case pending => exact handled.pending.trans locked.pending
  case masses =>
    intro hold room counts i
    have sensors : ∀ j, sensorOf v j = { sensorOf s j with demand := (sensorOf v j).demand } := locked.sensors
    have taken := masses (by rw [locked.pm]; exact hold)
      (frameTaken_away (by rw [locked.bmu]; exact room) fun _ j => by rw [sensors j]; exact counts j) i
    have period : v.pm.working.framePeriodUs = s.pm.working.framePeriodUs := by rw [locked.pm]; rfl
    have openPart : v.oau.openPart = s.oau.openPart := locked.openPart
    rw [flow, sensors i, period, openPart] at taken
    exact taken
  case left =>
    intro hb fresh room shut
    obtain ⟨mode, state⟩ := locked.valve shut
    have position : v.bmu.position = s.bmu.position := by rw [locked.bmu]; rfl
    have zero : v.bsc.zeroRecord = s.bsc.zeroRecord := locked.zeroRecord
    have out := left (mode.trans hb) (bin ▸ fresh) (position ▸ room) (state ▸ shut)
    rw [position, state, zero] at out
    exact out
  case blind =>
    intro hb stale
    have vBlind : v.bmu.mode = .blind := locked.blind.mpr hb
    have taken : (frameTaken f n v).bmu.mode = .blind := by
      rw [frameTaken_eq]
      dsimp only
      rw [if_neg fun fresh => stale (bin ▸ fresh.2), vBlind]
    exact blind.mpr taken
  case sense =>
    intro i l x hl held hx
    by_contra set
    obtain ⟨y, hy, ySet⟩ := handled.sense i x hx (by simpa using set)
    exact absurd (ySet.symm.trans (freed hl held hy)) nofun
  case number =>
    intro inv i l hl held
    have tailless : (gateOf s i).tail = none := by
      cases ht : (gateOf s i).tail with
      | none => rfl
      | some x =>
        obtain ⟨y, hy, tailing⟩ := inv.tailing i (by rw [ht]; rfl)
        obtain rfl : y = l := Option.some.inj (hy.symm.trans hl)
        exact absurd (tailing.symm.trans held) nofun
    obtain ⟨tail, number⟩ := locked.stays i List.not_mem_nil
    have same := (stays i (tail.trans tailless)).trans number
    rw [show loadOf (lockBase n s) i = some l from hl] at same
    obtain ⟨x, hx, hn⟩ := Option.map_eq_some_iff.mp same
    exact ⟨x, hx, hn⟩

/-! ### The gap before a frame (O18) -/

/-- The state with a gap of `k` counted, and the window in progress marked where it is of four or more (R10, R11). -/
def gapCounted (k : Nat) (s : State) : State :=
  { s with
    sli := { s.sli with
      missedFrames := if k = 0 then s.sli.missedFrames else min 65535 (s.sli.missedFrames + k) }
    bmu := { s.bmu with
      disturbedMark := s.bmu.disturbedMark || (decide (s.bmu.mode ≠ .blind) && decide (4 ≤ k)) } }

theorem bmuMarkDisturbed_eq (s : State) : bmuMarkDisturbed s = s.withBmu { s.bmu with
    disturbedMark := s.bmu.disturbedMark || decide (s.bmu.mode ≠ .blind) } := by
  unfold bmuMarkDisturbed
  split
  · next h =>
    rw [show (s.bmu.disturbedMark || decide (s.bmu.mode ≠ .blind)) = s.bmu.disturbedMark by simp [h]]
    rfl
  · next h => simp [show s.bmu.mode ≠ .blind from h]

/-- A frame in LOCKED that is no duplicate: at most three missed positions, then its own (R8, R10, R11). -/
theorem lockedFrame_eq {n m : Nat} (hn : n ≤ 255) (hm : m ≤ 255) (ne : n ≠ m) (f : InFrame) (o : Sched) (s : State) :
    let k := (n + 255 - m) % 256
    lockedFrame f n m o s = acceptFrame f n o (missedPositions o (min k 3) (gapCounted k s)) := by
  intro k
  have gap : gapOf n m = k := by simp only [gapOf, k]; omega
  have fresh : k ≠ 255 := by omega
  rw [lockedFrame, gap, if_neg fresh]
  by_cases none : k = 0
  · have same : gapCounted k s = s := by simp [gapCounted, none]
    rw [if_pos none, same, none]
    rfl
  · rw [if_neg none]
    by_cases few : k ≤ 3
    · have counted : gapCounted k s = countMissed k s := by
        simp [gapCounted, none, show ¬ 4 ≤ k by omega, countMissed, satAdd, State.withSli]
      rw [if_pos few, counted, Nat.min_eq_left few]
    · have counted : gapCounted k s = countMissed k (bmuMarkDisturbed s) := by
        simp [gapCounted, none, show 4 ≤ k by omega, countMissed, satAdd, State.withSli, bmuMarkDisturbed_eq, State.withBmu]
      rw [if_neg few, counted, Nat.min_eq_right (by omega)]

/-- A gapped frame's run of positions: the missed ones, then the frame's own (R11, R21). -/
theorem gappedFrame_run (f : InFrame) (n : Nat) (o : Sched) {s : State} (sighted : s.bmu.mode ≠ .blind) {k : Nat}
    (hk : k ≤ 3) : WindowRun (k + 1) s (acceptFrame f n o (missedPositions o k s)) := by
  have missed := (WindowRun.start sighted).missedPositions k (by omega) o
  rw [Nat.zero_add] at missed
  have same := frameTaken_bmu f n missed.sighted
  have taken : WindowRun k s (frameTaken f n (missedPositions o k s)) :=
    ⟨by rw [same]; exact missed.sighted, by rw [same]; exact missed.room, by rw [same]; exact missed.closed⟩
  exact (taken.gateKeeps (settle_gateKeeps _)).position (by omega) o _

/-- Settles O18: the link counts the gap and fills the missed positions, then hands the frame on; the equation of a
position is its definition, order by order. -/
theorem acceptedFrameReachesTheChannels : Obligations.AcceptedFrameReachesTheChannels := by
  have runs : ∀ (f : InFrame) (o : Sched) (s : State) (n m : Nat), s.power = .running → s.sli.lock = .locked →
      s.sli.lastSeq = some m → m ≤ 255 → wellFormed f n → n ≠ m →
      let k := (n + 255 - m) % 256
      exec (.frameArrival f o) s = .next (acceptFrame f n o (missedPositions o (min k 3)
        (gapCounted k (s.withSli { s.sli with frameInProgress := false })))) := by
    intro f o s n m hs locked number hm wf ne k
    rw [exec_frameArrival hs, frameArrives_locked wf locked number, lockedFrame_eq wf.1 hm ne]
  refine ⟨?frame, ?unfolded, fun _ _ => ⟨rfl, fun _ => rfl⟩, ?position⟩
  case frame =>
    intro f o s n m hs locked number hm wf ne
    let k := (n + 255 - m) % 256
    let c := gapCounted k (s.withSli { s.sli with frameInProgress := false })
    have runs' : exec (.frameArrival f o) s = .next (acceptFrame f n o (missedPositions o (min k 3) c)) :=
      runs f o s n m hs locked number hm wf ne
    have missed : PositionKeeps Spout.all c (missedPositions o (min k 3) c) :=
      (missedPositions_blockKeeps o _ c).toPositionKeeps
    have handled := (acceptFrame_keeps f n o (missedPositions o (min k 3) c)).frameHandled
    have run : s.bmu.mode ≠ .blind → _ := fun sighted =>
      gappedFrame_run f n o (s := c) sighted (Nat.min_le_right k 3)
    generalize missedPositions o (min k 3) c = v at runs' missed handled run
    generalize acceptFrame f n o v = t at runs' handled run
    refine ⟨t, runs', ?sli, ?pm, ?counter, ?interlock, ?aeration, ?seeking, handled.aerationLow.trans missed.aerationLow,
      handled.supplyFault.trans missed.supplyFault, handled.aerationHigh.trans missed.aerationHigh,
      handled.pc.trans missed.pc, handled.power.trans missed.power, handled.pending.trans missed.pending, ?window⟩
    case sli => rw [handled.sli, missed.sli]; rfl
    case pm => rw [handled.pm, missed.pm]; rfl
    case counter => rw [handled.lm, missed.lm]; rfl
    case interlock => rw [handled.lm, missed.lm]; rfl
    case aeration => rw [handled.lm, missed.lm]; rfl
    case seeking => rw [handled.lm, missed.lm]; rfl
    case window =>
      intro sighted k'
      have mark : c.bmu.disturbedMark = (s.bmu.disturbedMark || decide (4 ≤ k)) := by simp [c, gapCounted, sighted]
      have whole := run sighted
      refine ⟨fun room => ?_, fun large six nine => ?_⟩
      · obtain ⟨position, ring, mark'⟩ := whole.room (show s.bmu.position + (min k 3 + 1) ≤ 9 from room)
        exact ⟨position, ring, mark'.trans mark⟩
      · have three : min k 3 = 3 := Nat.min_eq_right (by omega)
        obtain ⟨position, e, last, disturbed⟩ := whole.closed (by rw [mark]; simp [show 4 ≤ k from large]) nine
          (show 10 ≤ s.bmu.position + (min k 3 + 1) by omega)
        exact ⟨e, last, disturbed, position.trans (show s.bmu.position + (min k 3 + 1) - 10 = _ by omega)⟩
  case unfolded => exact runs
  case position =>
    intro o p s feedback x fl masses gate gates z path
    have fed : ∀ y, feedbackPosition p y = feedback y := fun _ => rfl
    have massed : ∀ y, oauPosition (.of fl) y = masses y := fun _ => rfl
    have gated : ∀ i y, gateFlows (.of fl) i y = gate i y := by rintro (_ | _ | _) y <;> rfl
    have all : ∀ y, eachSpout (gateFlows (.of fl)) y = gates y := fun y => by simp only [eachSpout, gated]; rfl
    have formed : flowsFormed o p s = x := by rw [flowsFormed, fed]
    have ordered : pathOrder o p (.of fl) z = path := by simp only [pathOrder, massed, all]; rfl
    rw [framePosition_eq, formed, feedbackLast, fed]
    exact congrArg (fun y => if o.flowsBeforeFeedback then feedback y else y) ordered

end Sys2Proof.Machine
end

section
/-! The counters stay in their ranges under every command and on an empty queue (O13): one lemma per group of commands,
on the lemmas of single writes and on what the blocks' operations keep. -/

namespace Sys2Proof.Machine

namespace CounterInv

variable {s : State}

/-! ### Writes outside the frame path -/

theorem withSli (h : CounterInv s) {x : Sli} (frames : x.frameErrors ≤ 65535 ∧ x.missedFrames ≤ 65535) :
    CounterInv (s.withSli x) := { h with frames := frames }

theorem withLm (h : CounterInv s) {x : Lm} (slot : x.slot = s.lm.slot) (latch : x.latch = s.lm.latch)
    (counter : 1 ≤ x.counter ∧ x.counter ≤ 65535) : CounterInv (s.withLm x) :=
  { h with
    loads := counter
    faults := fun i => by rw [latchOf, State.withLm_lm, latch]; exact h.faults i
    trips := fun i l hl => h.trips i l (by rw [loadOf, State.withLm_lm, slot] at hl; exact hl) }

theorem withOts (h : CounterInv s) {x : Ots} (counter : 1 ≤ x.counter ∧ x.counter ≤ 65535) :
    CounterInv (s.withOts x) := { h with tickets := counter }

theorem withOau (h : CounterInv s) {x : Oau} (account : x.unassigned ≤ 999999999999) :
    CounterInv (s.withOau x) := { h with unassigned := account }

theorem withPm (h : CounterInv s) (x : Pm) : CounterInv (s.withPm x) := { h with }

theorem withBsc (h : CounterInv s) (x : Bsc) : CounterInv (s.withBsc x) := { h with }

theorem withDba (h : CounterInv s) (x : Dba) : CounterInv (s.withDba x) := { h with }

theorem withPending (h : CounterInv s) (x : List Instr) : CounterInv (s.withPending x) := { h with }

theorem setWorking (h : CounterInv s) (w : Params) : CounterInv (setWorking s w) := { h with }

theorem eachSpout (h : CounterInv s) {f : Spout → State → State} (hf : ∀ i t, CounterInv t → CounterInv (f i t)) :
    CounterInv (eachSpout f s) := eachSpout_preserves (P := CounterInv) hf h

theorem settle (h : CounterInv s) : CounterInv (settle s) := h.runsOn (settle_runsOn [] s)

theorem endLoad (h : CounterInv s) (i : Spout) (cause : EndCause) (tailEnd : Bool) :
    CounterInv (endLoad i cause tailEnd s) := (endLoad_gateKeeps i cause tailEnd s).counters h

theorem lmHold (h : CounterInv s) (cs : List Cause) (i : Spout) : CounterInv (lmHold cs i s) :=
  h.runsOn (lmHold_runsOn (acts := [i]) cs i s (.inl (by simp)))

/-! ### The link -/

theorem enterBlind (h : CounterInv s) : CounterInv (enterBlind s) := by
  by_cases hb : s.bmu.mode = .blind
  · rw [enterBlind_of_blind hb]; exact h
  · rw [enterBlind_eq hb]
    refine { h with zero := ?_ }
    dsimp only
    split
    · exact ⟨Nat.zero_le 20, nofun⟩
    · exact h.zero

theorem spoilTail (h : CounterInv s) (i : Spout) : CounterInv (spoilTail i s) := by
  unfold Machine.spoilTail
  split
  · next t ht => exact h.setGate i fun x hx => by cases hx; exact h.tails i t ht
  · exact h

theorem enterSeeking (h : CounterInv s) : CounterInv (enterSeeking s) := by
  have sought : CounterInv (sliSeek s) := h.withSli h.frames
  have base := sought.enterBlind.eachSpout (f := Machine.spoilTail) fun i t ht => ht.spoilTail i
  have recorded : CounterInv (recordSeeking true (Machine.settle (seekingBase s))) :=
    base.settle.withLm rfl rfl base.settle.loads
  exact recorded.runsOn (enterSeeking_runsOn s)

theorem linkRestart (h : CounterInv s) : CounterInv (linkRestart s) :=
  (h.withSli (x := { s.sli with frameInProgress := false, syncClockUs := 0 }) h.frames).enterSeeking

theorem takeSequence (h : CounterInv s) (n : Nat) : CounterInv (takeSequence n s) := h.withSli h.frames

theorem acceptFrame (h : CounterInv s) (f : InFrame) (n : Nat) (o : Sched) : CounterInv (acceptFrame f n o s) := by
  refine (acceptFrame_keeps f n o s).counters ?_
  have frames : (frameTaken f n s).sli.frameErrors ≤ 65535 ∧ (frameTaken f n s).sli.missedFrames ≤ 65535 := by
    rw [frameTaken_sli]; exact h.frames
  rw [frameTaken_eq]
  exact { h with frames := frames }

theorem enterLocked (h : CounterInv s) : CounterInv (enterLocked s) := by
  have locked : CounterInv (s.withSli { s.sli with lock := .locked }) := h.withSli h.frames
  exact (enterLocked_gateKeeps s).counters (locked.withLm rfl rfl locked.loads)

theorem seekingFrame (h : CounterInv s) (f : InFrame) (n : Nat) (o : Sched) : CounterInv (seekingFrame f n o s) := by
  unfold Machine.seekingFrame
  split
  · exact h.takeSequence n
  · split
    · exact (h.takeSequence n).enterLocked.acceptFrame f n o
    · exact h.takeSequence n

theorem countMissed (h : CounterInv s) (k : Nat) : CounterInv (countMissed k s) :=
  h.withSli ⟨h.frames.1, Nat.min_le_left _ _⟩

theorem bmuMarkDisturbed (h : CounterInv s) : CounterInv (bmuMarkDisturbed s) := by
  rw [bmuMarkDisturbed_eq]
  exact { h with }

theorem missedPositions (h : CounterInv s) (o : Sched) (k : Nat) : CounterInv (missedPositions o k s) :=
  (missedPositions_blockKeeps o k s).counters h

theorem lockedFrame (h : CounterInv s) (f : InFrame) (n m : Nat) (o : Sched) : CounterInv (lockedFrame f n m o s) := by
  unfold Machine.lockedFrame
  dsimp only
  split
  · exact h.countMissed 1
  · split
    · exact h.acceptFrame f n o
    · split
      · exact ((h.countMissed _).missedPositions o _).acceptFrame f n o
      · exact ((h.bmuMarkDisturbed.countMissed _).missedPositions o 3).acceptFrame f n o

theorem countFrameError (h : CounterInv s) : CounterInv (countFrameError s) :=
  h.withSli ⟨Nat.min_le_left _ _, h.frames.2⟩

theorem frameArrives (h : CounterInv s) (f : InFrame) (o : Sched) : CounterInv (frameArrives f o s) := by
  have arrived : CounterInv (s.withSli { s.sli with frameInProgress := false }) := h.withSli h.frames
  unfold Machine.frameArrives
  dsimp only
  split
  · exact arrived.countFrameError
  · split
    · exact arrived.seekingFrame f _ o
    · split
      · exact arrived.lockedFrame f _ _ o
      · exact arrived.acceptFrame f _ o

theorem earlySync (h : CounterInv s) : CounterInv (earlySync s) := by
  rw [earlySync_eq]
  exact { h with frames := ⟨Nat.min_le_left _ _, h.frames.2⟩ }

theorem lockExpires (h : CounterInv s) : CounterInv (lockExpires s) := by
  unfold Machine.lockExpires
  split
  · split
    · exact h.enterSeeking
    · exact h.withSli h.frames
  · exact h

theorem gateToFault (h : CounterInv s) (i : Spout) : CounterInv (gateToFault i s) := by
  have faulted := (h.setGate_of_tail (i := i) (g := { gateOf s i with
    mode := .fault, closeTimer := none, pendingGrant := none, flowSum := 0, flowCount := 0 }) rfl).setCommand i 0
  unfold Machine.gateToFault
  refine CounterInv.runsOn (acts := []) ?_ (leftDribble_runsOn [] _ i _)
  split
  · exact faulted.withDba _
  · exact faulted

theorem gateFault (h : CounterInv s) (i : Spout) (kind : FaultKind) : CounterInv (gateFault i kind s) := by
  have latched : CounterInv (latchFault i kind (Machine.gateToFault i s)) :=
    (latchFault_closeKeeps i kind _).counters (h.gateToFault i)
  have noted : CounterInv (noteLoadFault i (·.noteFault kind) (latchFault i kind (Machine.gateToFault i s))) := by
    unfold noteLoadFault
    split
    · next l hl => exact latched.setLoad i fun x hx => by cases hx; exact latched.trips i l hl
    · exact latched
  exact (noted.endLoad i .spoutFault false).settle

theorem setChannel (h : CounterInv s) (c : Chan) (x : Channel) : CounterInv (setChannel s c x) := by
  cases c <;> exact h.withSli h.frames

theorem staleExpires (h : CounterInv s) (c : Chan) : CounterInv (staleExpires c s) := by
  have stale := h.setChannel c (channelOf s c).goStale
  unfold Machine.staleExpires staleReport
  dsimp only
  split
  · split
    · exact stale.enterBlind.settle
    · exact stale.settle
    · split
      · exact stale.gateFault _ .gateFeedback
      · exact stale
  · exact h

theorem linkExpires (h : CounterInv s) (i : Spout) : CounterInv (linkExpires i s) := by
  have stopped : CounterInv (s.withLm { s.lm with linkTimer := s.lm.linkTimer.set i none }) := h.withLm rfl rfl h.loads
  exact (stopped.lmHold [.link] i).settle

/-! ### The lines -/

theorem countTrip (h : CounterInv s) (i : Spout) : CounterInv (countTrip i s) := by
  unfold Machine.countTrip
  split
  · split
    · exact h.setLoad i fun x hx => by cases hx; exact Nat.min_le_left _ _
    · exact h
  · exact h

theorem reportAeration (h : CounterInv s) : CounterInv (reportAeration s) := by
  have supplied : ∀ low, CounterInv (dbaSupply low s.dba.starved s) := fun low =>
    (dbaSupply_closeKeeps s.dba.starved (s.withDba { s.dba with aerationLow := low })).counters (h.withDba _)
  have recorded : ∀ low, CounterInv ((dbaSupply low s.dba.starved s).withLm
      { (dbaSupply low s.dba.starved s).lm with aerationLow := low }) := fun low =>
    (supplied low).withLm rfl rfl (supplied low).loads
  unfold Machine.reportAeration lmAeration
  dsimp only
  split
  · exact (recorded _).eachSpout fun i t ht => ht.lmHold _ i
  · exact (recorded _).eachSpout fun i t ht => (lmLift_closeKeeps (by simp [latching]) i t).counters ht

/-! ### The restarts -/

theorem pcRestart_errors {t : State} {baud : Nat} (h : t.pc = pcRestart baud) (p : Port) : (portOf t p).errors ≤ 65535 := by
  rw [show portOf t p = PortState.reset baud by cases p <;> simp only [portOf, h, pcRestart, PerSpout.get_all]]
  exact Nat.zero_le _

theorem coldStart (service : Bool) (lines : Lines) (s : State) : CounterInv (coldStart service lines s) where
  frames := ⟨Nat.zero_le _, Nat.zero_le _⟩
  unassigned := Nat.zero_le _
  loads := ⟨le_refl 1, show 1 ≤ 65535 by decide⟩
  tickets := ⟨le_refl 1, show 1 ≤ 65535 by decide⟩
  faults i := by
    rw [show latchOf (Machine.coldStart service lines s) i = .clear from PerSpout.get_all _ i]
    exact Nat.zero_le _
  ports := pcRestart_errors rfl
  sensors i := by
    rw [show sensorOf (Machine.coldStart service lines s) i = .reset from PerSpout.get_all _ i]
    decide
  trips i l hl := by
    rw [show loadOf (Machine.coldStart service lines s) i = none from PerSpout.get_all _ i] at hl
    cases hl
  zero := ⟨Nat.zero_le _, nofun⟩
  tails i x hx := by
    rw [show gateOf (Machine.coldStart service lines s) i = .reset from PerSpout.get_all _ i] at hx
    cases hx

theorem warmRestart (h : CounterInv s) (lines : Lines) : CounterInv (warmRestart lines s) := by
  have ended : CounterInv (endAllLoads s) := h.eachSpout fun i t ht => ht.endLoad i .restart false
  unfold Machine.warmRestart
  generalize endAllLoads s = t at ended
  exact { counterInv_reset with
    unassigned := ended.unassigned
    loads := ended.loads
    tickets := ended.tickets
    faults := ended.faults
    sensors := fun i => by
      rw [sensorOf, PerSpout.get_of]
      exact ⟨Nat.zero_le _, Nat.zero_le _, Nat.zero_le _⟩
    ports := pcRestart_errors rfl }

theorem losePower (s : State) : CounterInv (losePower s) := { counterInv_reset with }

/-! ### The ports -/

theorem receiveByte_errors (p : Port) (b : Byte) (stopHigh : Bool) {x : PortState} (h : x.errors ≤ 65535) :
    (receiveByte p b stopHigh x).errors ≤ 65535 := by
  have discarded : (discardFrame x).errors ≤ 65535 := Nat.min_le_left _ _
  unfold receiveByte
  split
  · split
    · exact h
    · exact h
  · split
    · unfold frameByte completeFrame
      dsimp only
      split
      · exact discarded
      · split
        · split
          · exact h
          · exact discarded
        · exact h
    · exact discarded
  · exact h

theorem setPort_same (h : CounterInv s) (p : Port) {x : PortState} (errors : x.errors = (portOf s p).errors) :
    CounterInv (Machine.setPort s p x) := h.setPort p (errors ▸ h.ports p)

theorem replyEnds (h : CounterInv s) (p : Port) (r : Reply) : CounterInv (replyEnds p r s) := by
  unfold Machine.replyEnds
  split
  · exact h.setPort_same _ rfl
  · have ended := h.setPort_same .dispatch (x := { portOf s .dispatch with
      receive := .idle, buffer := [], gapTimer := none, request := none, reply := none, baud := (working s).portBaud }) rfl
    dsimp only
    split
    · exact ended.withPm _
    · exact ended

theorem takeRequest (h : CounterInv s) (p : Port) (c : Instr) : CounterInv (takeRequest p c s) := by
  have taken := h.setPort_same p (x := { portOf s p with
    receive := .answering, buffer := [], gapTimer := none, request := some c, reply := none }) rfl
  unfold Machine.takeRequest restartLinkTimer
  dsimp only
  split
  · split
    · exact taken.withLm rfl rfl taken.loads
    · exact taken
  · exact taken

theorem answer (h : CounterInv s) (p : Port) (kind : Byte) (r : Result) (fields : List Byte) :
    CounterInv (answer p kind r fields s) := h.setPort_same p rfl

theorem withRequest (h : CounterInv s) (p : Port) (c : Instr) {serve : State → State}
    (hs : ∀ t, CounterInv t → CounterInv (serve t)) : CounterInv (withRequest p c serve s) := by
  unfold Machine.withRequest
  split
  · exact hs _ (h.takeRequest p c)
  · exact h

/-- A bay request's act decides (R173). -/
theorem serveBay (h : CounterInv s) (c : Instr) (p : Port) (kind : Byte) (len want : Nat) (formats : Bool)
    {act : Spout → State → Answer} (ha : ∀ i t, CounterInv t → CounterInv (act i t).state) :
    CounterInv (serveBay c p kind len want formats act s) := by
  refine h.withRequest p c fun t ht => ?_
  split
  · exact ht.answer _ _ _ _
  · split
    · exact ht.answer _ _ _ _
    · exact (ha _ t ht).answer _ _ _ _

theorem serveDispatch (h : CounterInv s) (c : Instr) (p : Port) (kind : Byte) (len want : Nat) (formats : Bool)
    {act : State → Answer} (ha : ∀ t, CounterInv t → CounterInv (act t).state) :
    CounterInv (serveDispatch c p kind len want formats act s) := by
  refine h.withRequest p c fun t ht => ?_
  split
  · exact ht.answer _ _ _ _
  · split
    · exact ht.answer _ _ _ _
    · exact (ha t ht).answer _ _ _ _

/-! ### The window report -/

theorem applyReport (h : CounterInv s) : CounterInv (applyReport s) := by
  have credit : ∀ r i t, CounterInv t → CounterInv (applyCredit r i t) := by
    intro r i t ht
    have returned : ∀ g, CounterInv (addUnassigned g t) := fun g => ht.withOau (Nat.min_le_left _ _)
    unfold applyCredit
    split
    · exact ht
    · split
      · next l hl =>
        split
        · exact ht.setLoad i fun x hx => by cases hx; exact ht.trips i l hl
        · split
          · exact returned _
          · exact ht
      · split
        · exact returned _
        · exact ht
  unfold Machine.applyReport
  split
  · exact h
  · next r rest _ =>
    have taken : CounterInv (s.withOau { s.oau with reports := rest }) := h.withOau h.unassigned
    refine (taken.eachSpout (credit r)).eachSpout fun i t ht => ?_
    rw [oauApplied_eq]
    exact ht.withOau ht.unassigned

/-! ### The bay requests -/

theorem openLoad (h : CounterInv s) (ref : Ref) (requested rate : Nat) (i : Spout) :
    CounterInv (openLoad ref requested rate i s).state := by
  have filled : ∀ target l, l.trips = 0 → CounterInv (fillSlot i l (reserve ref target s)) := by
    intro target l trips
    have reserved : CounterInv (reserve ref target s) := h.withOts h.tickets
    have loaded := reserved.setLoad i (l := some l) fun x hx => by cases hx; omega
    exact loaded.withLm (x := (fillSlot i l (reserve ref target s)).lm) rfl rfl (nextNumber_range _)
  unfold Machine.openLoad
  split
  · exact h
  · split
    · exact h
    · dsimp only
      split
      · exact h
      · exact (filled _ _ rfl).settle

theorem enterWaiting (h : CounterInv s) (i : Spout) : CounterInv (enterWaiting i s) := by
  unfold Machine.enterWaiting
  split
  · exact h
  · next l hl =>
    exact (h.setLoad i fun x hx => by cases hx; exact h.trips i l hl).runsOn (dbaRequest_runsOn [] i _ _)

theorem startLoad (h : CounterInv s) (i : Spout) : CounterInv (startLoad i s).state := by
  unfold Machine.startLoad
  split
  · exact h
  · split
    · split
      · exact (h.enterWaiting i).settle
      · exact h
    · exact h

theorem holdLoad (h : CounterInv s) (i : Spout) : CounterInv (holdLoad i s).state := by
  unfold Machine.holdLoad
  split
  · exact h
  · split
    · exact h
    · exact h
    · exact (h.lmHold _ i).settle

theorem resumeLoad (h : CounterInv s) (i : Spout) : CounterInv (resumeLoad i s).state := by
  unfold Machine.resumeLoad
  split
  · exact h
  · next l hl =>
    have resumed : ∀ causes, CounterInv (Machine.setLoad s i (some { l with causes := causes })) := fun causes =>
      h.setLoad i fun x hx => by cases hx; exact h.trips i l hl
    dsimp only
    split
    · split
      · exact ((resumed _).enterWaiting i).settle
      · exact resumed _
    · exact h

theorem beginTail (h : CounterInv s) (i : Spout) (kind : TailKind) (spoiled : Bool) :
    CounterInv (beginTail i kind spoiled s) := h.setGate i fun x hx => by cases hx; exact Nat.zero_le 4

theorem closeWithTail (h : CounterInv s) (i : Spout) : CounterInv (closeWithTail i s) := by
  unfold Machine.closeWithTail
  split
  · exact ((gateToClosing_gateKeeps i s).counters h).beginTail i .finished false
  · split
    · exact ((dropPending_gateKeeps i s).counters h).beginTail i .finished false
    · exact h

theorem finishLoad (h : CounterInv s) (i : Spout) : CounterInv (finishLoad i s).state := by
  unfold Machine.finishLoad
  split
  · exact h
  · next l hl =>
    split
    · exact h
    · have tailing := h.setLoad i (l := some { l with state := .tailing, finished := true }) fun x hx => by
        cases hx; exact h.trips i l hl
      exact (tailing.closeWithTail i).settle
    · exact (h.endLoad i .finished false).settle

theorem clearFault (h : CounterInv s) (i : Spout) : CounterInv (clearFault i s).state := by
  unfold Machine.clearFault
  split
  · have cleared := h.setLatch i (x := .clear) (Nat.zero_le _)
    have resumed := cleared.setSensor i
      (x := { sensorOf (Machine.setLatch s i .clear) i with driftSuspended := false }) (cleared.sensors i)
    show CounterInv (unfault i _)
    unfold unfault
    split
    · exact resumed.setGate_of_tail rfl
    · exact resumed
  · exact h

/-! ### The dispatch requests -/

theorem postOrder (h : CounterInv s) (ref : Ref) (mass : Nat) (bays : PerSpout Bool) (tolerance : Nat) :
    CounterInv (postOrder ref mass bays tolerance s).state := by
  unfold Machine.postOrder
  split
  · exact h
  · split
    · exact h
    · split
      · exact h
      · exact h.withOts h.tickets

theorem cancelOrder (h : CounterInv s) (ref : Ref) : CounterInv (cancelOrder ref s).state := by
  unfold Machine.cancelOrder
  split
  · exact h
  · exact h.withOts h.tickets

theorem removeOrder (h : CounterInv s) (ref : Ref) : CounterInv (removeOrder ref s).state := by
  unfold Machine.removeOrder
  split
  · exact h
  · split
    · exact h
    · exact h.withOts h.tickets

theorem orderStatus (h : CounterInv s) (ref : Ref) : CounterInv (orderStatus ref s).state := by
  unfold Machine.orderStatus
  split <;> exact h

theorem readTicket (h : CounterInv s) : CounterInv (readTicket s).state := by
  unfold Machine.readTicket
  split <;> exact h

theorem takeTicket (h : CounterInv s) (n : Nat) : CounterInv (takeTicket n s).state := by
  unfold Machine.takeTicket
  split
  · exact h
  · split
    · exact h.withOts h.tickets
    · exact h

theorem paramEffect (h : CounterInv s) (p : ParamId) : CounterInv (paramEffect p s) := by
  have emptied := ((bmuEmptyHistory_blockKeeps s).counters h).settle
  have solo : ∀ i, CounterInv (clearSolo i s) := fun i =>
    h.setSensor i ⟨Nat.zero_le _, (h.sensors i).2⟩
  unfold Machine.paramEffect
  split
  · exact h.linkRestart
  · exact h.linkRestart
  · exact emptied
  · exact emptied
  · exact emptied
  · exact solo _
  · exact solo _
  · exact h.settle
  · exact ((recomputeBudget_closeKeeps s).counters h).settle
  · exact h

theorem changeParam (h : CounterInv s) (id : Byte) (v : Int) : CounterInv (changeParam id v s).state := by
  unfold Machine.changeParam
  split
  · exact h
  · split
    · exact h
    · exact (h.setWorking _).paramEffect _

theorem readParameter (h : CounterInv s) (id : Byte) : CounterInv (readParameter id s).state := by
  unfold Machine.readParameter
  split <;> exact h

theorem saveParameters (h : CounterInv s) : CounterInv (saveParameters s).state := by
  unfold Machine.saveParameters
  split
  · exact h
  · exact h.withPm _

theorem setCustodyLock (h : CounterInv s) : CounterInv (setCustodyLock s).state := by
  unfold Machine.setCustodyLock
  split
  · exact h
  · exact (abortZero_blockKeeps _).counters (h.withPm _)

theorem zeroBin (h : CounterInv s) : CounterInv (zeroBin s).state := by
  have begun := (withZero_blockKeeps s { ZeroOp.idle with state := .running, skipWindow := decide (s.bmu.position ≠ 0) }
    fun _ => ⟨Nat.zero_le 20, fun _ => Nat.zero_le 19⟩).counters h
  unfold Machine.zeroBin
  split
  · exact h
  · show CounterInv (bscZeroStarted _)
    unfold bscZeroStarted
    dsimp only
    split
    · exact (begun.withBsc _).withBsc _
    · exact begun.withBsc _

theorem clearSupplyFault (h : CounterInv s) : CounterInv (clearSupplyFault s).state := by
  unfold Machine.clearSupplyFault
  split
  · exact h.withBsc _
  · exact h

/-! ### The time base -/

theorem tick (h : CounterInv s) : CounterInv (tick s) where
  frames := h.frames
  unassigned := h.unassigned
  loads := h.loads
  tickets := h.tickets
  faults := h.faults
  ports p := by rw [portOf_tick]; exact h.ports p
  sensors := h.sensors
  trips i l hl := by
    rw [loadOf_tick] at hl
    obtain ⟨x, hx, rfl⟩ := Option.map_eq_some_iff.mp hl
    unfold Load.tick
    split <;> exact h.trips i x hx
  zero := h.zero
  tails i x hx := by
    rw [gateOf_tick] at hx
    obtain ⟨y, hy, rfl⟩ := Option.map_eq_some_iff.mp hx
    exact h.tails i y hy

theorem idle (h : CounterInv s) : CounterInv (idle s) := by
  unfold Machine.idle
  split
  · split
    · exact h.tick
    · exact h.withPending _
  · exact h

/-! ### Every command -/

/-- A command that acts on a running part alone. -/
theorem whileRunning (h : CounterInv s) {f : State → State} {t : State} (run : whileRunning f s = .next t)
    (hf : CounterInv (f s)) : CounterInv t := by
  unfold Machine.whileRunning at run
  split at run
  · cases run; exact hf
  · cases run; exact h

/-- A command that acts under a condition. -/
theorem ite (h : CounterInv s) {p : Prop} [Decidable p] {u : State} (hu : CounterInv u) :
    CounterInv (if p then u else s) := by
  split
  · exact hu
  · exact h

theorem frameSync (h : CounterInv s) :
    CounterInv (if (working s).syncRole = .follower ∧ s.sli.frameInProgress then Machine.earlySync s
      else beginFrame s) := by
  split
  · exact h.earlySync
  · exact h.withSli h.frames

theorem exec (h : CounterInv s) (c : Instr) {t : State} (run : exec c s = .next t) : CounterInv t := by
  cases c with
  | frameSync =>
    unfold Machine.exec execFrameSync at run
    exact h.whileRunning run h.frameSync
  | frameArrival f o => exact h.whileRunning run (h.frameArrives f o)
  | earlySync => exact h.whileRunning run (h.ite h.earlySync)
  | lockTimerExpiry => exact h.whileRunning run h.lockExpires
  | stalenessTimerExpiry c => exact h.whileRunning run (h.staleExpires c)
  | closeTimerExpiry i => exact h.whileRunning run (h.ite (h.gateFault i .gateStuck))
  | tailTimerExpiry i => exact h.whileRunning run (h.ite ((tailEnds_gateKeeps i s).counters h))
  | linkTimerExpiry i => exact h.whileRunning run (h.ite (h.linkExpires i))
  | holdExpired i => exact h.whileRunning run (h.ite (h.endLoad i .holdExpired false).settle)
  | deferralTimerExpiry => exact h.whileRunning run (h.ite ((openValve_closeKeeps s).counters h).settle)
  | refillTimerExpiry =>
    exact h.whileRunning run (h.ite (((closeValve_closeKeeps .supplyFault s).counters h).withBsc _).settle)
  | gapTimerExpiry p => exact h.whileRunning run (h.ite (h.setPort p (Nat.min_le_left _ _)))
  | saveTimerExpiry x => exact h.whileRunning run (h.ite (h.withPm _))
  | saveWriteCompletion x =>
    unfold Machine.exec execSaveWriteCompletion at run
    exact h.whileRunning run (h.withPm _)
  | interlockFallingEdge i =>
    unfold Machine.exec execInterlockFallingEdge at run
    have sampled : CounterInv (setInterlock i false s) := h.withLm rfl rfl h.loads
    exact h.whileRunning run ((sampled.countTrip i).lmHold [.interlock] i).settle
  | interlockRisingEdge i => exact h.whileRunning run (h.withLm rfl rfl h.loads)
  | aerationOkChange high =>
    unfold Machine.exec execAerationOkChange at run
    refine h.whileRunning run ?_
    dsimp only
    split
    · exact h
    · exact (h.withBsc _).reportAeration.settle
  | coldStart service lines => cases run; exact coldStart service lines s
  | warmRestart lines => exact h.whileRunning run (h.warmRestart lines)
  | portByteReceived p b stopHigh =>
    unfold Machine.exec execPortByteReceived at run
    exact h.whileRunning run (h.setPort p (receiveByte_errors p b stopHigh (h.ports p)))
  | replySent p =>
    unfold Machine.exec execReplySent at run
    refine h.whileRunning run ?_
    split
    · exact h.replyEnds p _
    · exact h
  | portBaudTakenUp p => exact h.whileRunning run (h.ite (h.setPort_same p rfl))
  | applyWindowReport => exact h.whileRunning run h.applyReport
  | unknownRequest p kind len =>
    unfold Machine.exec execUnknownRequest at run
    refine h.whileRunning run ?_
    split
    · exact h
    · exact h.withRequest p _ fun u hu => hu.answer _ _ _ _
  | openLoad p len ref target rate => exact h.whileRunning run (h.serveBay _ _ _ _ _ _ fun i u hu => hu.openLoad _ _ _ i)
  | start p len => exact h.whileRunning run (h.serveBay _ _ _ _ _ _ fun i u hu => hu.startLoad i)
  | hold p len => exact h.whileRunning run (h.serveBay _ _ _ _ _ _ fun i u hu => hu.holdLoad i)
  | resume p len => exact h.whileRunning run (h.serveBay _ _ _ _ _ _ fun i u hu => hu.resumeLoad i)
  | finish p len => exact h.whileRunning run (h.serveBay _ _ _ _ _ _ fun i u hu => hu.finishLoad i)
  | spoutStatus p len => exact h.whileRunning run (h.serveBay _ _ _ _ _ _ fun _ _ hu => hu)
  | clearFault p len => exact h.whileRunning run (h.serveBay _ _ _ _ _ _ fun i u hu => hu.clearFault i)
  | postOrder p len ref mass bays tolerance =>
    exact h.whileRunning run (h.serveDispatch _ _ _ _ _ _ fun u hu => hu.postOrder _ _ _ _)
  | cancelOrder p len ref => exact h.whileRunning run (h.serveDispatch _ _ _ _ _ _ fun u hu => hu.cancelOrder ref)
  | removeOrder p len ref => exact h.whileRunning run (h.serveDispatch _ _ _ _ _ _ fun u hu => hu.removeOrder ref)
  | orderStatus p len ref => exact h.whileRunning run (h.serveDispatch _ _ _ _ _ _ fun u hu => hu.orderStatus ref)
  | readTicket p len => exact h.whileRunning run (h.serveDispatch _ _ _ _ _ _ fun u hu => hu.readTicket)
  | takeTicket p len n => exact h.whileRunning run (h.serveDispatch _ _ _ _ _ _ fun u hu => hu.takeTicket _)
  | binStatus p len => exact h.whileRunning run (h.serveDispatch _ _ _ _ _ _ fun _ hu => hu)
  | setParameter p len id v => exact h.whileRunning run (h.serveDispatch _ _ _ _ _ _ fun u hu => hu.changeParam id _)
  | readParameter p len id => exact h.whileRunning run (h.serveDispatch _ _ _ _ _ _ fun u hu => hu.readParameter id)
  | saveParameters p len => exact h.whileRunning run (h.serveDispatch _ _ _ _ _ _ fun u hu => hu.saveParameters)
  | zeroBin p len => exact h.whileRunning run (h.serveDispatch _ _ _ _ _ _ fun u hu => hu.zeroBin)
  | setCustodyLock p len => exact h.whileRunning run (h.serveDispatch _ _ _ _ _ _ fun u hu => hu.setCustodyLock)
  | clearUnassigned p len =>
    exact h.whileRunning run (h.serveDispatch _ _ _ _ _ _ fun _ hu => hu.withOau (Nat.zero_le _))
  | clearSupplyFault p len => exact h.whileRunning run (h.serveDispatch _ _ _ _ _ _ fun u hu => hu.clearSupplyFault)
  | restart p len => exact h.whileRunning run (h.serveDispatch _ _ _ _ _ _ fun _ hu => hu)
  | partStatus p len => exact h.whileRunning run (h.serveDispatch _ _ _ _ _ _ fun _ hu => hu)
  | resetLineRaised => exact h.whileRunning run { h with }
  | powerLost => cases run; exact losePower s

end CounterInv

/-- Settles O13: the command at the front of the queue, or on an empty queue the part's own events or a millisecond. -/
theorem counterInvKept : Obligations.CounterInvKept := by
  intro s t inv run
  unfold step at run
  split at run
  · cases run
    exact inv.idle
  · exact (inv.withPending _).exec _ run

end Sys2Proof.Machine
end

section
/-! What the commands keep of the bin: the working values, the BMU, and the refill as the valve moves it. `BinStands` is
the view of every operation that leaves these alone but for the opening of a deferred valve, `WindowStands` that of those
which leave the sensors and the OAU alone too; one lemma per operation. -/

namespace Sys2Proof.Machine

/-! ### The view -/

/-- The refill stands as it was, or a deferred valve has opened (R31, R158, R159). -/
def RefillStands (s t : State) : Prop :=
  t.sli.refillCommand = s.sli.refillCommand ∧ t.bmu.mode = s.bmu.mode ∧ t.bmu.refillMark = s.bmu.refillMark ∧
      t.bsc.state = s.bsc.state ∨
    s.bsc.state = .deferred ∧ t.bsc.state = .opened ∧ t.sli.refillCommand = true ∧
      (s.bmu.mode ≠ .blind → t.bmu.mode = .refilling)

theorem RefillStands.refl (s : State) : RefillStands s s := .inl ⟨rfl, rfl, rfl, rfl⟩

theorem RefillStands.trans {s t u : State} (h : RefillStands s t) (k : RefillStands t u) : RefillStands s u := by
  rcases h with ⟨command, mode, mark, state⟩ | ⟨deferred, opened, command, mode⟩
  · unfold RefillStands at k ⊢
    rwa [command, mode, mark, state] at k
  · rcases k with ⟨command', mode', -, state'⟩ | ⟨deferred', -⟩
    · exact .inr ⟨deferred, state'.trans opened, command'.trans command, fun n => mode'.trans (mode n)⟩
    · exact absurd (opened.symm.trans deferred') nofun

/-- The working values, the BMU and the supply-fault latch stand, but for what the opening of a deferred valve moves. -/
structure BinStands (s t : State) : Prop where
  working : t.pm.working = s.pm.working
  bmu : t.bmu = { s.bmu with mode := t.bmu.mode, refillMark := t.bmu.refillMark }
  supplyFault : t.bsc.supplyFault = s.bsc.supplyFault
  refill : RefillStands s t

theorem BinStands.of_same {s t : State} (working : t.pm.working = s.pm.working) (bmu : t.bmu = s.bmu)
    (command : t.sli.refillCommand = s.sli.refillCommand) (state : t.bsc.state = s.bsc.state)
    (fault : t.bsc.supplyFault = s.bsc.supplyFault) : BinStands s t :=
  ⟨working, by rw [bmu], fault, .inl ⟨command, by rw [bmu], by rw [bmu], state⟩⟩

theorem BinStands.refl (s : State) : BinStands s s := .of_same rfl rfl rfl rfl rfl

theorem BinStands.trans {s t u : State} (h : BinStands s t) (k : BinStands t u) : BinStands s u where
  working := k.working.trans h.working
  bmu := by rw [k.bmu, h.bmu]
  supplyFault := k.supplyFault.trans h.supplyFault
  refill := h.refill.trans k.refill

theorem RefillStands.of_shut {s t : State} (h : RefillStands s t) (n : s.bsc.state ≠ .deferred) :
    t.sli.refillCommand = s.sli.refillCommand ∧ t.bmu.mode = s.bmu.mode ∧ t.bmu.refillMark = s.bmu.refillMark ∧
      t.bsc.state = s.bsc.state := by
  rcases h with stands | ⟨deferred, -⟩
  · exact stands
  · exact absurd deferred n

theorem RefillStands.state {s t : State} (h : RefillStands s t) (n : s.bsc.state ≠ .deferred) :
    t.bsc.state = s.bsc.state := by
  obtain ⟨-, -, -, state⟩ := h.of_shut n
  exact state

/-- The sensors but for their demands stand too, and the OAU but for what a change of mode moves. -/
structure WindowStands (s t : State) : Prop extends BinStands s t where
  sensors : ∀ i, sensorOf t i = { sensorOf s i with demand := (sensorOf t i).demand }
  oau : t.oau = { s.oau with modeRecord := t.oau.modeRecord, carry := t.oau.carry }
  carry : s.bsc.state ≠ .deferred → t.oau.carry = s.oau.carry

theorem WindowStands.bin {s t : State} (h : WindowStands s t) : BinStands s t := h.toBinStands

theorem WindowStands.trans {s t u : State} (h : WindowStands s t) (k : WindowStands t u) : WindowStands s u :=
  { h.bin.trans k.bin with
    sensors := fun i => by rw [k.sensors i, h.sensors i]
    oau := by rw [k.oau, h.oau]
    carry := fun n => (k.carry (h.refill.state n ▸ n)).trans (h.carry n) }

theorem WindowStands.of_same {s t : State} (working : t.pm.working = s.pm.working) (bmu : t.bmu = s.bmu)
    (command : t.sli.refillCommand = s.sli.refillCommand) (state : t.bsc.state = s.bsc.state)
    (fault : t.bsc.supplyFault = s.bsc.supplyFault) (ssu : t.ssu = s.ssu) (oau : t.oau = s.oau) : WindowStands s t :=
  { BinStands.of_same working bmu command state fault with
    sensors := fun i => by rw [sensorOf, ssu]; rfl
    oau := by rw [oau]
    carry := fun _ => by rw [oau] }

theorem WindowStands.refl (s : State) : WindowStands s s := .of_same rfl rfl rfl rfl rfl rfl rfl

/-- The reports of an event leave the window alone but for a deferred valve. -/
theorem RunsOn.windowStands {acts : List Spout} {s t : State} (h : RunsOn acts s t) : WindowStands s t where
  working := by rw [h.pm]
  bmu := h.bmu
  supplyFault := by rw [h.bsc]
  refill := by
    rcases h.valve with ⟨command, mode, mark, -, -, state, -⟩ | ⟨deferred, opened, command, -, mode, -⟩
    · exact .inl ⟨command, mode, mark, state⟩
    · exact .inr ⟨deferred, opened, command, mode⟩
  sensors := h.ssu
  oau := by rw [h.oau]
  carry n := (h.valve_stands n).2.2.1

theorem settle_windowStands (s : State) : WindowStands s (settle s) := (settle_runsOn [] s).windowStands

theorem eachSpout_windowStands {f : Spout → State → State} (hf : ∀ i t, WindowStands t (f i t)) (s : State) :
    WindowStands s (eachSpout f s) := ((hf .A s).trans (hf .B _)).trans (hf .C _)

theorem eachSpout_binStands {f : Spout → State → State} (hf : ∀ i t, BinStands t (f i t)) (s : State) :
    BinStands s (eachSpout f s) := ((hf .A s).trans (hf .B _)).trans (hf .C _)

theorem WindowStands.ite {p : Prop} [Decidable p] {s t u : State} (ht : WindowStands s t) (hu : WindowStands s u) :
    WindowStands s (if p then t else u) := by
  split
  · exact ht
  · exact hu

theorem BinStands.ite {p : Prop} [Decidable p] {s t u : State} (ht : BinStands s t) (hu : BinStands s u) :
    BinStands s (if p then t else u) := by
  split
  · exact ht
  · exact hu

/-! ### Blocks that do not hold the bin -/

theorem withSli_binStands {s : State} {x : Sli} (h : x.refillCommand = s.sli.refillCommand) :
    BinStands s (s.withSli x) := .of_same rfl rfl h rfl rfl
theorem withSsu_binStands (s : State) (x : PerSpout Sensor) : BinStands s (s.withSsu x) := .of_same rfl rfl rfl rfl rfl
theorem withOau_binStands (s : State) (x : Oau) : BinStands s (s.withOau x) := .of_same rfl rfl rfl rfl rfl
theorem withDba_windowStands (s : State) (x : Dba) : WindowStands s (s.withDba x) :=
  .of_same rfl rfl rfl rfl rfl rfl rfl
theorem withLm_windowStands (s : State) (x : Lm) : WindowStands s (s.withLm x) :=
  .of_same rfl rfl rfl rfl rfl rfl rfl
theorem withOts_binStands (s : State) (x : Ots) : BinStands s (s.withOts x) := .of_same rfl rfl rfl rfl rfl
theorem withPending_binStands (s : State) (x : List Instr) : BinStands s (s.withPending x) :=
  .of_same rfl rfl rfl rfl rfl
theorem withPm_binStands {s : State} {x : Pm} (h : x.working = s.pm.working) : BinStands s (s.withPm x) :=
  .of_same h rfl rfl rfl rfl
theorem withBsc_windowStands {s : State} {x : Bsc} (state : x.state = s.bsc.state)
    (fault : x.supplyFault = s.bsc.supplyFault) : WindowStands s (s.withBsc x) :=
  .of_same rfl rfl rfl state fault rfl rfl
theorem setLoad_windowStands (s : State) (i : Spout) (l : Option Load) : WindowStands s (setLoad s i l) :=
  .of_same rfl rfl rfl rfl rfl rfl rfl
theorem setGate_windowStands (s : State) (i : Spout) (g : Gate) : WindowStands s (setGate s i g) :=
  .of_same rfl rfl rfl rfl rfl rfl rfl
theorem setSensor_binStands (s : State) (i : Spout) (x : Sensor) : BinStands s (setSensor s i x) :=
  .of_same rfl rfl rfl rfl rfl
theorem setLatch_binStands (s : State) (i : Spout) (x : FaultLatch) : BinStands s (setLatch s i x) :=
  .of_same rfl rfl rfl rfl rfl
theorem setCommand_windowStands (i : Spout) (c : Nat) (s : State) : WindowStands s (setCommand i c s) :=
  .of_same rfl rfl rfl rfl rfl rfl rfl
theorem setPort_binStands (s : State) (p : Port) (x : PortState) : BinStands s (setPort s p x) := by
  cases p <;> exact .of_same rfl rfl rfl rfl rfl
theorem ssuComplete_binStands (s : State) : BinStands s (ssuComplete s) := withSsu_binStands s _
theorem ssuPosition_binStands (p : PositionIn) (s : State) : BinStands s (ssuPosition p s) := withSsu_binStands s _

/-! ### The Gate Controllers -/

theorem leftDribble_windowStands (i : Spout) (m : GateMode) (s : State) : WindowStands s (leftDribble i m s) :=
  (leftDribble_runsOn [] s i m).windowStands

theorem dribbleEntered_windowStands (i : Spout) (s : State) : WindowStands s (dribbleEntered i s) :=
  withBsc_windowStands rfl rfl

theorem gateToClosing_windowStands (i : Spout) (s : State) : WindowStands s (gateToClosing i s) :=
  (((setGate_windowStands s i _).trans (setCommand_windowStands i 0 _)).trans (withDba_windowStands _ _)).trans
    (leftDribble_windowStands i _ _)

theorem dropPending_windowStands (i : Spout) (s : State) : WindowStands s (dropPending i s) :=
  .ite ((setGate_windowStands s i _).trans (withDba_windowStands _ _)) (.refl s)

theorem beginTail_windowStands (i : Spout) (kind : TailKind) (spoiled : Bool) (s : State) :
    WindowStands s (beginTail i kind spoiled s) := setGate_windowStands s i _

theorem closeWithTail_windowStands (i : Spout) (s : State) : WindowStands s (closeWithTail i s) :=
  .ite ((gateToClosing_windowStands i s).trans (beginTail_windowStands _ _ _ _))
    (.ite ((dropPending_windowStands i s).trans (beginTail_windowStands _ _ _ _)) (.refl s))

theorem gateOpen_windowStands (i : Spout) (s : State) : WindowStands s (gateOpen i s) := by
  unfold gateOpen
  split
  · exact .refl s
  · exact (setGate_windowStands s i _).trans (.ite ((setGate_windowStands _ i _).trans (setCommand_windowStands i _ _))
      (((setGate_windowStands _ i _).trans (setCommand_windowStands i _ _)).trans (dribbleEntered_windowStands i _)))

theorem gateFeedback_windowStands (i : Spout) (m : Mark) (s : State) : WindowStands s (gateFeedback i m s) := by
  unfold gateFeedback
  split
  · exact .ite ((setGate_windowStands s i _).trans (.ite (gateOpen_windowStands i _) (.refl _))) (.refl s)
  · exact .refl s

theorem windowStep_windowStands (i : Spout) (s : State) : WindowStands s (windowStep i s) :=
  (setGate_windowStands s i _).trans (setCommand_windowStands i _ _)

theorem blindStep_windowStands (i : Spout) (s : State) : WindowStands s (blindStep i s) :=
  .ite (windowStep_windowStands i s) (.refl s)

theorem dribbleTest_windowStands (i : Spout) (l : Load) (s : State) : WindowStands s (dribbleTest i l s) :=
  .ite ((setGate_windowStands s i _).trans (dribbleEntered_windowStands i _)) (.refl s)

theorem cutOff_windowStands (i : Spout) (l : Load) (fl : Flow) (s : State) : WindowStands s (cutOff i l fl s) :=
  ((((gateToClosing_windowStands i s).trans (setGate_windowStands _ i _)).trans (beginTail_windowStands i _ _ _)).trans
    (setLoad_windowStands _ i _)).trans (settle_windowStands _)

theorem cutoffCheck_windowStands (i : Spout) (fl : Flow) (s : State) : WindowStands s (cutoffCheck i fl s) := by
  unfold cutoffCheck
  split
  · exact .refl s
  · exact .ite (cutOff_windowStands i _ fl s) (dribbleTest_windowStands i _ s)

theorem feedbackPosition_windowStands (p : PositionIn) (s : State) : WindowStands s (feedbackPosition p s) :=
  .ite (.refl s) (eachSpout_windowStands (fun i t => gateFeedback_windowStands i _ t) s)

theorem gateToFault_windowStands (i : Spout) (s : State) : WindowStands s (gateToFault i s) :=
  (((setGate_windowStands s i _).trans (setCommand_windowStands i 0 _)).trans
    (.ite (withDba_windowStands _ _) (.refl _))).trans
    (leftDribble_windowStands i _ _)

/-! ### Loads -/

theorem complete_binStands (i : Spout) (l : Load) (cause : EndCause) (s : State) :
    BinStands s (complete i l cause s) := by
  rw [complete_eq]
  exact withOts_binStands s _

theorem endLoad_binStands (i : Spout) (cause : EndCause) (tailEnd : Bool) (s : State) :
    BinStands s (endLoad i cause tailEnd s) := by
  unfold endLoad
  split
  · exact .refl s
  · next l _ =>
    have removed : WindowStands s (removedClaim i l s) := .ite (withDba_windowStands _ _) (.refl s)
    have told : WindowStands s (if tailEnd = true then removedClaim i l s else gateLoadEnded i (removedClaim i l s)) :=
      removed.trans (.ite (.refl _) ((setGate_windowStands _ i _).trans (dropPending_windowStands i _)))
    refine ((told.bin.trans ?_).trans (complete_binStands i l cause _)).trans (withLm_windowStands _ _).bin
    rw [oauLoadEnded_eq]
    exact withOau_binStands _ _

theorem noteLoadFault_windowStands (i : Spout) (f : Load → Load) (s : State) :
    WindowStands s (noteLoadFault i f s) := by
  unfold noteLoadFault
  split
  · exact setLoad_windowStands s i _
  · exact .refl s

theorem latchFault_windowStands (i : Spout) (kind : FaultKind) (s : State) : WindowStands s (latchFault i kind s) := by
  rw [latchFault_eq]
  exact withLm_windowStands s _

theorem gateFault_binStands (i : Spout) (kind : FaultKind) (s : State) : BinStands s (gateFault i kind s) :=
  ((((gateToFault_windowStands i s).trans (latchFault_windowStands i kind _)).trans
    (noteLoadFault_windowStands i _ _)).bin.trans (endLoad_binStands i _ false _)).trans (settle_windowStands _).bin

theorem sensorDrift_windowStands (i : Spout) (s : State) : WindowStands s (sensorDrift i s) :=
  (latchFault_windowStands i _ s).trans (noteLoadFault_windowStands i _ _)

theorem lmHold_windowStands (cs : List Cause) (i : Spout) (s : State) : WindowStands s (lmHold cs i s) :=
  (lmHold_runsOn (acts := [i]) cs i s (.inl (by simp))).windowStands

theorem lmLift_windowStands (c : Cause) (i : Spout) (s : State) : WindowStands s (lmLift c i s) :=
  (lmLift_runsOn (acts := [i]) c i s (.inl (by simp))).windowStands

theorem enterWaiting_windowStands (i : Spout) (s : State) : WindowStands s (enterWaiting i s) := by
  unfold enterWaiting
  split
  · exact .refl s
  · exact (setLoad_windowStands s i _).trans (dbaRequest_runsOn [] i _ _).windowStands

theorem applyReport_binStands (s : State) : BinStands s (applyReport s) := by
  have credit : ∀ r i t, BinStands t (applyCredit r i t) := by
    intro r i t
    have returned : ∀ g, BinStands t (if r.gravimetric = true then addUnassigned g t else t) :=
      fun g => .ite (withOau_binStands t _) (.refl t)
    unfold applyCredit
    split
    · exact .refl t
    · split
      · exact .ite (setLoad_windowStands t i _).bin (returned _)
      · exact returned _
  have applied : ∀ r rest i t, BinStands t (oauApplied r rest i t) := by
    intro r rest i t
    rw [oauApplied_eq]
    exact withOau_binStands t _
  unfold applyReport
  split
  · exact .refl s
  · next r rest _ =>
    exact ((withOau_binStands s _).trans (eachSpout_binStands (credit r) _)).trans
      (eachSpout_binStands (applied r rest) _)

/-! ### Conditions of the whole bin -/

theorem lmSense_windowStands (seeking : Bool) (s : State) : WindowStands s (lmSense seeking s) :=
  (withLm_windowStands s _).trans (lmSense_runsOn seeking s).windowStands

theorem lmStarve_windowStands (on : Bool) (s : State) : WindowStands s (lmStarve on s) :=
  (withLm_windowStands s _).trans (.ite (eachSpout_windowStands (lmHold_windowStands _) _)
    (eachSpout_windowStands (lmLift_windowStands _) _))

theorem lmAeration_windowStands (low : Bool) (s : State) : WindowStands s (lmAeration low s) :=
  (withLm_windowStands s _).trans (.ite (eachSpout_windowStands (lmHold_windowStands _) _)
    (eachSpout_windowStands (lmLift_windowStands _) _))

theorem lmBudgetRise_windowStands (s : State) : WindowStands s (lmBudgetRise s) := by
  have lifted := fun c => eachSpout_windowStands (lmLift_windowStands c)
  have aeration : WindowStands s (if s.lm.aerationLow then s else eachSpout (lmLift .aeration) s) :=
    .ite (.refl s) (lifted _ s)
  exact aeration.trans (.ite (.refl _) (lifted _ _))

theorem recomputeBudget_windowStands (s : State) : WindowStands s (recomputeBudget s) :=
  (withDba_windowStands s _).trans (.ite (lmBudgetRise_windowStands _) (.refl _))

theorem revoke_windowStands (s : State) : WindowStands s (revoke s) := by
  unfold revoke
  exact (withDba_windowStands s { s.dba with allocation := .all none, queue := [] }).trans
    (eachSpout_windowStands (fun i t => .ite (lmHold_windowStands _ i t) (.refl t)) _)

theorem dbaSupply_windowStands (aerationLow starved : Bool) (s : State) :
    WindowStands s (dbaSupply aerationLow starved s) := by
  have told := (withDba_windowStands s { s.dba with aerationLow := aerationLow, starved := starved }).trans
    (recomputeBudget_windowStands _)
  exact .ite (told.trans (revoke_windowStands _)) told

theorem reportAeration_windowStands (s : State) : WindowStands s (reportAeration s) :=
  (dbaSupply_windowStands _ _ s).trans (lmAeration_windowStands _ _)

theorem reportStarve_windowStands (s : State) : WindowStands s (reportStarve s) :=
  (dbaSupply_windowStands _ _ s).trans (lmStarve_windowStands _ _)

/-! ### Credits and sensors -/

theorem oauReport_binStands (g : Bool) (credits : PerSpout Nat) (s : State) : BinStands s (oauReport g credits s) :=
  .ite (.refl s) (withOau_binStands s _)

theorem oauVolumetric_binStands (m : PerSpout Nat) (s : State) : BinStands s (oauVolumetric m s) :=
  (oauReport_binStands false m s).trans (withOau_binStands _ _)

theorem oauGravimetric_binStands (f : Nat) (m : PerSpout Nat) (s : State) : BinStands s (oauGravimetric f m s) :=
  (((withOau_binStands s _).trans (withOau_binStands _ _)).trans (oauReport_binStands true _ _)).trans
    (withOau_binStands _ _)

theorem oauClose_binStands (e : Entry) (mode : Mode) (f : Nat) (s : State) : BinStands s (oauClose e mode f s) :=
  (withOau_binStands s _).trans (.ite (oauGravimetric_binStands f e.m _) (oauVolumetric_binStands e.m _))

theorem oauPosition_binStands (fl : PerSpout Flow) (s : State) : BinStands s (oauPosition fl s) :=
  eachSpout_binStands (fun _ t => withOau_binStands t _) s

theorem sensorClose_binStands (s : State) : BinStands s (sensorClose s) :=
  (ssuComplete_binStands s).trans (oauVolumetric_binStands _ _)

/-! ### The link, the lines and the ports -/

theorem countFrameError_binStands (s : State) : BinStands s (countFrameError s) := withSli_binStands rfl

theorem earlySync_binStands (s : State) : BinStands s (earlySync s) := by
  rw [earlySync_eq]
  exact withSli_binStands rfl

theorem spoilTail_windowStands (i : Spout) (s : State) : WindowStands s (spoilTail i s) := by
  unfold spoilTail
  split
  · exact setGate_windowStands s i _
  · exact .refl s

theorem enterLocked_binStands (s : State) : BinStands s (enterLocked s) :=
  (withSli_binStands (x := { s.sli with lock := .locked }) rfl).trans ((lmSense_windowStands false _).trans
    (settle_windowStands _)).bin

theorem setChannel_binStands (s : State) (c : Chan) (x : Channel) : BinStands s (setChannel s c x) := by
  cases c <;> exact .of_same rfl rfl rfl rfl rfl

theorem countTrip_windowStands (i : Spout) (s : State) : WindowStands s (countTrip i s) := by
  unfold countTrip
  split
  · exact .ite (setLoad_windowStands s i _) (.refl s)
  · exact .refl s

theorem replyEnds_binStands (p : Port) (r : Reply) (s : State) : BinStands s (replyEnds p r s) := by
  unfold replyEnds
  split
  · exact setPort_binStands s _ _
  · exact (setPort_binStands s _ _).trans (.ite (withPm_binStands rfl) (.refl _))

theorem takeRequest_binStands (p : Port) (c : Instr) (s : State) : BinStands s (takeRequest p c s) := by
  have timed : ∀ t, BinStands t (restartLinkTimer p t) := by
    intro t
    unfold restartLinkTimer
    split
    · exact .ite (withLm_windowStands t _).bin (.refl t)
    · exact .refl t
  exact (setPort_binStands s p _).trans (timed _)

theorem answer_binStands (p : Port) (kind : Byte) (r : Result) (fields : List Byte) (s : State) :
    BinStands s (answer p kind r fields s) := setPort_binStands s p _

/-! ### The requests of the bays and of the orders -/

theorem openLoad_binStands (ref : Ref) (requested rate : Nat) (i : Spout) (s : State) :
    BinStands s (openLoad ref requested rate i s).state := by
  unfold openLoad
  split
  · exact .refl s
  · split
    · exact .refl s
    · dsimp only
      split
      · exact .refl s
      · exact ((withOts_binStands s _).trans (withOts_binStands _ _)).trans
          ((withLm_windowStands _ _).trans (settle_windowStands _)).bin

theorem startLoad_binStands (i : Spout) (s : State) : BinStands s (startLoad i s).state := by
  unfold startLoad
  split
  · exact .refl s
  · split
    · split
      · exact ((enterWaiting_windowStands i s).trans (settle_windowStands _)).bin
      · exact .refl s
    · exact .refl s

theorem holdLoad_binStands (i : Spout) (s : State) : BinStands s (holdLoad i s).state := by
  unfold holdLoad
  split
  · exact .refl s
  · split
    · exact .refl s
    · exact .refl s
    · exact ((lmHold_windowStands _ i s).trans (settle_windowStands _)).bin

theorem resumeLoad_binStands (i : Spout) (s : State) : BinStands s (resumeLoad i s).state := by
  unfold resumeLoad
  split
  · exact .refl s
  · dsimp only
    split
    · split
      · exact (((setLoad_windowStands s i _).trans (enterWaiting_windowStands i _)).trans (settle_windowStands _)).bin
      · exact (setLoad_windowStands s i _).bin
    · exact .refl s

theorem finishLoad_binStands (i : Spout) (s : State) : BinStands s (finishLoad i s).state := by
  unfold finishLoad
  split
  · exact .refl s
  · split
    · exact .refl s
    · exact (((setLoad_windowStands s i _).trans (closeWithTail_windowStands i _)).trans (settle_windowStands _)).bin
    · exact (endLoad_binStands i _ false s).trans (settle_windowStands _).bin

theorem clearFault_binStands (i : Spout) (s : State) : BinStands s (clearFault i s).state := by
  unfold clearFault
  split
  · exact ((setLatch_binStands s i _).trans (setSensor_binStands _ i _)).trans
      (.ite (setGate_windowStands _ i _).bin (.refl _))
  · exact .refl s

theorem postOrder_binStands (ref : Ref) (mass : Nat) (bays : PerSpout Bool) (tolerance : Nat) (s : State) :
    BinStands s (postOrder ref mass bays tolerance s).state := by
  unfold postOrder
  split
  · exact .refl s
  · split
    · exact .refl s
    · split
      · exact .refl s
      · exact withOts_binStands s _

theorem cancelOrder_binStands (ref : Ref) (s : State) : BinStands s (cancelOrder ref s).state := by
  unfold cancelOrder
  split
  · exact .refl s
  · exact withOts_binStands s _

theorem removeOrder_binStands (ref : Ref) (s : State) : BinStands s (removeOrder ref s).state := by
  unfold removeOrder
  split
  · exact .refl s
  · split
    · exact .refl s
    · exact withOts_binStands s _

theorem takeTicket_binStands (n : Nat) (s : State) : BinStands s (takeTicket n s).state := by
  unfold takeTicket
  split
  · exact .refl s
  · split
    · exact withOts_binStands s _
    · exact .refl s

theorem orderStatus_state (ref : Ref) (s : State) : (orderStatus ref s).state = s := by
  unfold orderStatus
  split <;> rfl

theorem readTicket_state (s : State) : (readTicket s).state = s := by
  unfold readTicket
  split <;> rfl

theorem readParameter_state (id : Byte) (s : State) : (readParameter id s).state = s := by
  unfold readParameter
  split <;> rfl

theorem saveParameters_binStands (s : State) : BinStands s (saveParameters s).state := by
  unfold saveParameters
  split
  · exact .refl s
  · exact withPm_binStands rfl

/-! ### A save and the time base -/

theorem saveTimesOut_working (x : StoredImage) (m : Pm) : (saveTimesOut x m).working = m.working := by
  unfold saveTimesOut
  split <;> rfl

theorem writeCompletes_working (x : StoredImage) (m : Pm) : (writeCompletes x m).working = m.working := by
  unfold writeCompletes
  split
  · split <;> rfl
  · rfl

theorem cutOffSave_working (m : Pm) : (cutOffSave m).working = m.working := by
  unfold cutOffSave
  split <;> rfl

theorem idle_binStands (s : State) : BinStands s (idle s) := by
  unfold idle
  split
  · split
    · exact .of_same rfl rfl rfl rfl rfl
    · exact withPending_binStands s _
  · exact .refl s

end Sys2Proof.Machine
end

section
/-! One walk through the commands for every invariant of the bin: a property that the single changes of the bin keep
(`BinClosed`) is kept by every command and on an empty queue. O4, O11 and O12 are three such properties. -/

namespace Sys2Proof.Machine

/-! ### The single changes of the bin -/

/-- A property that stands while the bin does, and keeps with a learned tail time (R112). -/
structure GateClosed (P : State → Prop) : Prop where
  stands : ∀ {s t}, BinStands s t → P s → P t
  tail : ∀ {s} (i : Spout) {x : Nat}, x ≤ 4000 → P s →
    P (setWorking s { working s with tailMs := (working s).tailMs.set i x })

/-- A position whose bin sample, if good, is a signed 24-bit count (R12, R180). -/
def PositionIn.inRange (p : PositionIn) : Prop := ∀ raw, p.bin = .good raw → -8388608 ≤ raw ∧ raw ≤ 8388607

/-- The refill control goes to `x` with the valve shut: between IDLE, DEFERRED and SUSPENDED, or out of SUPPLY FAULT with
its latch cleared (R157, R159, R162, R163). -/
structure ShutMove (s : State) (x : Bsc) : Prop where
  before : s.bsc.state ≠ .opened ∧ s.bsc.state ≠ .supplyFault ∧ x.supplyFault = s.bsc.supplyFault ∨
    s.bsc.supplyFault = true ∧ x.supplyFault = false
  after : x.state ≠ .opened ∧ x.state ≠ .supplyFault
  sighted : x.state = .deferred → s.bmu.mode ≠ .blind

/-- A property that every single change of the bin keeps. -/
structure BinClosed (P : State → Prop) : Prop extends GateClosed P where
  gain : ∀ {s} (i : Spout) {x : Nat}, 4096 ≤ x → x ≤ 262143 → P s →
    P (setWorking s { working s with spoutGain := (working s).spoutGain.set i x })
  /-- A position fills a place of the window (R21). -/
  counted : ∀ {s} {p : PositionIn}, p.inRange → P s →
    P (s.withBmu (countPosition (working s) s.sli.refillCommand p.bin s.bmu))
  /-- The window closes (R25). -/
  closed : ∀ {s} (m : PerSpout Nat) (flowing : PerSpout Bool), P s →
    P (s.withBmu (bmuCloseWindow (working s) m flowing s.bmu))
  marked : ∀ {s}, P s → P (s.withBmu { s.bmu with disturbedMark := true })
  emptied : ∀ {s}, P s → P (bmuEmptyHistory s)
  /-- A running zero takes the window that `s` closes (R36). -/
  zeroUsed : ∀ {s t}, P s → P t → P (t.withBmu { t.bmu with zero := { t.bmu.zero with
    windowCount := t.bmu.zero.windowCount + 1
    rawSum := t.bmu.zero.rawSum + s.bmu.rawSum
    sampleCount := t.bmu.zero.sampleCount + s.bmu.goodCount } })
  zeroLearned : ∀ {s}, P s →
    P (setWorking s { working s with binZero := s.bmu.zero.rawSum.tdiv s.bmu.zero.sampleCount })
  /-- A zero begins, is aborted or is done: its sums start from nothing or stand (R35 to R37). -/
  zeroSet : ∀ {s} {z : ZeroOp}, z.rawSum = 0 ∧ z.sampleCount = 0 ∨
      z.rawSum = s.bmu.zero.rawSum ∧ z.sampleCount = s.bmu.zero.sampleCount →
    P s → P (s.withBmu { s.bmu with zero := z })
  shutMove : ∀ {s} {x : Bsc}, ShutMove s x → P s → P (s.withBsc x)
  opens : ∀ {s}, s.bsc.state = .deferred ∨ s.bsc.state = .idle ∧ s.bmu.mode ≠ .blind → P s → P (openValve s)
  shuts : ∀ {s}, s.bsc.state = .opened → P s → P (closeValve .idle s)
  timesOut : ∀ {s}, s.bsc.state = .opened → P s →
    P ((closeValve .supplyFault s).withBsc { (closeValve .supplyFault s).bsc with supplyFault := true })
  blindEntered : ∀ {s}, s.bmu.mode ≠ .blind → P s → P (enterBlind s)
  blindLeft : ∀ {s}, s.bmu.mode = .blind → P s → P (bmuSetMode .unready s)
  /-- A parameter takes an accepted value (R182), RATE_SPAN with the history that it empties (R27). -/
  changed : ∀ {s p v}, p ≠ .rateSpan → paramRefusal s p v = none → P s → P (setWorking s (paramSet (working s) p v))
  respanned : ∀ {s v}, paramRefusal s .rateSpan v = none → P s →
    P (bmuEmptyHistory (setWorking s (paramSet (working s) .rateSpan v)))
  cold : ∀ service lines s, P (coldStart service lines s)
  warm : ∀ {s} lines, P s → P (warmRestart lines s)
  lost : ∀ s, P (losePower s)

/-! ### A tail's end and the Gate Controllers' part of a position -/

namespace GateClosed

variable {P : State → Prop} {s : State}

theorem window {t : State} (hP : GateClosed P) (stands : WindowStands s t) : P s → P t := hP.stands stands.bin

theorem learnedTail_le (tau : Nat) (c : CutoffRecord) (d : Nat) : learnedTail tau c d ≤ 4000 := by
  unfold learnedTail clamp
  dsimp only
  omega

theorem learnTail (hP : GateClosed P) (i : Spout) (l : Load) (h : P s) : P (learnTail i l s) := by
  unfold Machine.learnTail
  split
  · split
    · exact hP.tail i (learnedTail_le _ _ _) h
    · exact h
  · exact h

theorem tailEnds (hP : GateClosed P) (i : Spout) (h : P s) : P (tailEnds i s) := by
  unfold Machine.tailEnds
  split
  · exact hP.window (setGate_windowStands s i _) h
  · next l _ =>
    refine hP.window (settle_windowStands _) (hP.stands ?_ (hP.learnTail i l h))
    exact (setGate_windowStands _ i _).bin.trans (endLoad_binStands i _ true _)

theorem tailPosition (hP : GateClosed P) (i : Spout) (t : Tail) (fl : Flow) (h : P s) : P (tailPosition i t fl s) := by
  have judged : ∀ x : Tail, P (if 5 ≤ x.lowCount then
      Machine.tailEnds i (setGate s i { gateOf s i with tail := some x })
      else setGate s i { gateOf s i with tail := some x }) := by
    intro x
    have set := hP.window (setGate_windowStands s i { gateOf s i with tail := some x }) h
    split
    · exact hP.tailEnds i set
    · exact set
  exact judged _

theorem gateFlows (hP : GateClosed P) (fl : PerSpout Flow) (i : Spout) (h : P s) : P (gateFlows fl i s) := by
  unfold Machine.gateFlows
  refine hP.window (blindStep_windowStands i _) ?_
  have added := hP.window (setGate_windowStands s i { gateOf s i with
    flowSum := (gateOf s i).flowSum + (fl.get i).effective, flowCount := (gateOf s i).flowCount + 1 }) h
  split
  · exact hP.tailPosition i _ _ added
  · split
    · exact hP.window (cutoffCheck_windowStands i _ _) added
    · exact added

theorem allGateFlows (hP : GateClosed P) (fl : PerSpout Flow) (h : P s) : P (eachSpout (Machine.gateFlows fl) s) :=
  eachSpout_preserves (fun i _ => hP.gateFlows fl i) h

end GateClosed

namespace BinClosed

variable {P : State → Prop} {s : State}

/-! ### A running zero -/

theorem leaveSuspended (hP : BinClosed P) (h : P s) : P (leaveSuspended s) := by
  unfold Machine.leaveSuspended
  split
  · next ended =>
    exact hP.shutMove ⟨.inl ⟨by simp [ended.1], by simp [ended.1], rfl⟩, ⟨nofun, nofun⟩, nofun⟩ h
  · exact h

theorem bscZeroEnded (hP : BinClosed P) (h : P s) : P (bscZeroEnded s) :=
  hP.leaveSuspended (hP.window (withBsc_windowStands rfl rfl) h)

theorem abortZero (hP : BinClosed P) (h : P s) : P (abortZero s) := by
  unfold Machine.abortZero
  split
  · exact hP.bscZeroEnded (hP.zeroSet (.inl ⟨rfl, rfl⟩) h)
  · exact h

/-- `u` is the state that closes the window, `s` the state that a running zero finds. -/
theorem zeroWindow (hP : BinClosed P) {u : State} (e : Entry) (hu : P u) (h : P s) :
    P (zeroWindow e u.bmu.rawSum u.bmu.goodCount s) := by
  have used := hP.zeroUsed hu h
  have done := hP.zeroSet (z := { s.bmu.zero with
    state := .done
    windowCount := s.bmu.zero.windowCount + 1
    rawSum := s.bmu.zero.rawSum + u.bmu.rawSum
    sampleCount := s.bmu.zero.sampleCount + u.bmu.goodCount }) (.inr ⟨rfl, rfl⟩) (hP.zeroLearned used)
  unfold Machine.zeroWindow
  split
  · dsimp only
    split
    · exact hP.bscZeroEnded (hP.emptied done)
    · exact used
  · exact hP.abortZero h

theorem bscZeroStarted (hP : BinClosed P) (h : P s) : P (bscZeroStarted s) := by
  have recorded := hP.window (withBsc_windowStands (x := { s.bsc with zeroRecord := true }) rfl rfl) h
  unfold Machine.bscZeroStarted
  dsimp only
  split
  · next idle =>
    have still : s.bsc.state = .idle := idle
    exact hP.shutMove ⟨.inl ⟨by simp [still], by simp [still], rfl⟩, ⟨nofun, nofun⟩, nofun⟩ recorded
  · exact recorded

theorem beginZero (hP : BinClosed P) (h : P s) : P (beginZero s) :=
  hP.bscZeroStarted (hP.zeroSet (.inl ⟨rfl, rfl⟩) h)

/-! ### The window close and the position -/

theorem refillTests (hP : BinClosed P) (w : Params) (level : Int) (sighted : s.bmu.mode ≠ .blind) (h : P s) :
    P (refillTests w level s) := by
  unfold Machine.refillTests
  split
  · next idle =>
    split
    · split
      · exact hP.shutMove ⟨.inl ⟨by simp [idle], by simp [idle], rfl⟩, ⟨nofun, nofun⟩, fun _ => sighted⟩ h
      · exact hP.opens (.inr ⟨idle, sighted⟩) h
    · exact h
  · next deferred =>
    split
    · exact hP.opens (.inl deferred) h
    · split
      · exact hP.shutMove ⟨.inl ⟨by simp [deferred], by simp [deferred], rfl⟩, ⟨nofun, nofun⟩, nofun⟩ h
      · exact h
  · next opened =>
    split
    · exact hP.shuts opened h
    · exact h
  · exact h

theorem bscClose (hP : BinClosed P) (sighted : s.bmu.mode ≠ .blind) (h : P s) : P (bscClose s) := by
  unfold Machine.bscClose
  split
  · exact h
  · next level _ =>
    have judged := hP.window
      (withBsc_windowStands (x := { s.bsc with starved := starveAfter (working s) level s.bsc.starved }) rfl rfl) h
    exact hP.window (.ite (.refl _) (reportStarve_windowStands _)) (hP.refillTests (working s) level sighted judged)

theorem correctedGain_range (g f q : Nat) : 4096 ≤ correctedGain g f q ∧ correctedGain g f q ≤ 262143 := by
  unfold correctedGain clamp
  dsimp only
  omega

theorem learnGain (hP : BinClosed P) (mode : Mode) (f : Nat) (i : Spout) (h : P s) : P (learnGain mode f i s) := by
  have solo := hP.stands (setSensor_binStands s i { sensorOf s i with solo := 0 }) h
  unfold Machine.learnGain
  dsimp only
  split
  · split
    · obtain ⟨low, high⟩ := correctedGain_range ((working s).spoutGain.get i) f (spanRate (working s) s.bmu.ring i)
      exact hP.gain i low high solo
    · exact hP.stands ((setSensor_binStands _ i _).trans (sensorDrift_windowStands i _).bin) solo
  · exact h

theorem windowHandedOn (hP : BinClosed P) (e : Entry) (sighted : s.bmu.mode ≠ .blind) (h : P s) :
    P (windowHandedOn e s) := by
  have credited := hP.stands (oauClose_binStands e s.bmu.mode s.bmu.f s) h
  have learned := eachSpout_preserves (fun i _ => hP.learnGain s.bmu.mode s.bmu.f i) credited
  have stepped := hP.window (eachSpout_windowStands windowStep_windowStands _) learned
  have kept := ((oauClose_closeKeeps e s.bmu.mode s.bmu.f s).trans
    (eachSpout_closeKeeps (learnGain_closeKeeps s.bmu.mode s.bmu.f) _)).trans
    (eachSpout_closeKeeps (fun i t => (windowStep_gateKeeps i t).closeKeeps) _)
  exact hP.window (settle_windowStands _) (hP.bscClose (mt kept.blind.mp sighted) stepped)

theorem windowClose (hP : BinClosed P) (sighted : s.bmu.mode ≠ .blind) (h : P s) : P (windowClose s) := by
  have completed : P (windowCompleted s) :=
    hP.stands (ssuComplete_binStands _) (hP.closed (windowMasses s) (flowingSet s) h)
  have handed := fun e => hP.windowHandedOn e (mt (windowCompleted_blockKeeps s).blind.mp sighted) completed
  rw [windowClose_eq]
  split
  · exact hP.window (settle_windowStands _) (hP.zeroWindow _ h (handed _))
  · exact handed _

theorem bmuPosition (hP : BinClosed P) {p : PositionIn} (hp : p.inRange) (h : P s) : P (bmuPosition p s) := by
  by_cases hb : s.bmu.mode = .blind
  · rw [Machine.bmuPosition, if_pos hb]
    exact hP.stands (.ite (sensorClose_binStands s) (.refl s)) h
  · obtain ⟨-, -, -, mode⟩ := countPosition_window (working s) s.sli.refillCommand p.bin s.bmu
    have counted := hP.counted hp h
    rw [bmuPosition_of_sighted p hb]
    split
    · exact hP.windowClose (by rw [State.withBmu_bmu, mode]; exact hb) counted
    · exact counted

theorem pathOrder (hP : BinClosed P) (o : Sched) {p : PositionIn} (hp : p.inRange) (fl : PerSpout Flow) (h : P s) :
    P (pathOrder o p fl s) := by
  have masses : ∀ {t}, P t → P (oauPosition fl t) := hP.stands (oauPosition_binStands fl _)
  have flows : ∀ {t}, P t → P (eachSpout (gateFlows fl) t) := hP.allGateFlows fl
  have window : ∀ {t}, P t → P (Machine.bmuPosition p t) := hP.bmuPosition hp
  unfold Machine.pathOrder
  split
  · exact window (flows (masses h))
  · exact window (masses (flows h))
  · exact flows (window (masses h))
  · exact masses (flows (window h))

theorem framePosition (hP : BinClosed P) (o : Sched) {p : PositionIn} (hp : p.inRange) (h : P s) :
    P (framePosition o p s) := by
  have formed : P (flowsFormed o p s) := hP.window (.ite (.refl s) (feedbackPosition_windowStands p s)) h
  rw [framePosition_eq]
  exact hP.window (.ite (feedbackPosition_windowStands p _) (.refl _))
    (hP.pathOrder o hp _ (hP.stands (ssuPosition_binStands p _) formed))

theorem missedPositions (hP : BinClosed P) (o : Sched) (n : Nat) (h : P s) : P (missedPositions o n s) := by
  induction n generalizing s with
  | zero => exact h
  | succ n ih => exact ih (hP.framePosition o (p := missedPosition) nofun h)

/-! ### The link -/

theorem slotSample_range (x : Slot) : -8388608 ≤ slotSample x ∧ slotSample x ≤ 8388607 := by
  have low := BitVec.le_toInt (x.extractLsb' 8 24)
  have high := BitVec.toInt_lt (x := x.extractLsb' 8 24)
  unfold slotSample
  omega

/-- A frame hands on 24-bit samples (R12, R180). -/
theorem positionOf_inRange (f : InFrame) (s : State) : (positionOf f s).inRange := by
  intro raw good
  have sample : goodSample f.bin = some raw := by
    simp only [positionOf, markOf] at good
    cases hg : goodSample f.bin with
    | some v => rw [hg] at good; cases good; rfl
    | none => rw [hg] at good; cases hs : s.sli.bin.state <;> simp [hs] at good
  unfold goodSample at sample
  split at sample
  · cases sample
    exact slotSample_range f.bin
  · cases sample

theorem leaveBlind (hP : BinClosed P) (h : P s) : P (leaveBlind s) := by
  unfold Machine.leaveBlind
  split
  · next left => exact hP.leaveSuspended (hP.window (withBsc_windowStands rfl rfl) (hP.blindLeft left.1 h))
  · exact h

theorem takeSequence (hP : BinClosed P) (n : Nat) (h : P s) : P (takeSequence n s) :=
  hP.stands (withSli_binStands rfl) h

theorem acceptFrame (hP : BinClosed P) (f : InFrame) (n : Nat) (o : Sched) (h : P s) : P (acceptFrame f n o s) := by
  have taken : P (takeSamples f (Machine.takeSequence n s)) :=
    hP.stands (withSli_binStands rfl) (hP.takeSequence n h)
  rw [acceptFrame_eq]
  exact hP.framePosition o (positionOf_inRange f _) (hP.window (settle_windowStands _) (hP.leaveBlind taken))

theorem bmuMarkDisturbed (hP : BinClosed P) (h : P s) : P (bmuMarkDisturbed s) := by
  unfold Machine.bmuMarkDisturbed
  split
  · exact h
  · exact hP.marked h

theorem lockedFrame (hP : BinClosed P) (f : InFrame) (n m : Nat) (o : Sched) (h : P s) : P (lockedFrame f n m o s) := by
  have counts : ∀ k {t}, P t → P (countMissed k t) := fun k _ => hP.stands (withSli_binStands rfl)
  unfold Machine.lockedFrame
  dsimp only
  split
  · exact counts 1 h
  · split
    · exact hP.acceptFrame f n o h
    · split
      · exact hP.acceptFrame f n o (hP.missedPositions o _ (counts _ h))
      · exact hP.acceptFrame f n o (hP.missedPositions o 3 (counts _ (hP.bmuMarkDisturbed h)))

theorem seekingFrame (hP : BinClosed P) (f : InFrame) (n : Nat) (o : Sched) (h : P s) : P (seekingFrame f n o s) := by
  have taken := hP.takeSequence n h
  unfold Machine.seekingFrame
  split
  · exact taken
  · split
    · exact hP.acceptFrame f n o (hP.stands (enterLocked_binStands _) taken)
    · exact taken

theorem frameArrives (hP : BinClosed P) (f : InFrame) (o : Sched) (h : P s) : P (frameArrives f o s) := by
  have arrived : P (s.withSli { s.sli with frameInProgress := false }) := hP.stands (withSli_binStands rfl) h
  unfold Machine.frameArrives
  dsimp only
  split
  · exact hP.stands (countFrameError_binStands _) arrived
  · split
    · exact hP.seekingFrame f _ o arrived
    · split
      · exact hP.lockedFrame f _ _ o arrived
      · exact hP.acceptFrame f _ o arrived

theorem enterBlind (hP : BinClosed P) (h : P s) : P (enterBlind s) := by
  by_cases hb : s.bmu.mode = .blind
  · rw [enterBlind_of_blind hb]; exact h
  · exact hP.blindEntered hb h

theorem enterSeeking (hP : BinClosed P) (h : P s) : P (enterSeeking s) := by
  have sought : P (sliSeek s) := hP.stands (withSli_binStands rfl) h
  have reports := fun t => ((eachSpout_windowStands spoilTail_windowStands t).trans (settle_windowStands _)).trans
    ((lmSense_windowStands true _).trans (settle_windowStands _))
  exact hP.window (reports _) (hP.enterBlind sought)

theorem lockExpires (hP : BinClosed P) (h : P s) : P (lockExpires s) := by
  unfold Machine.lockExpires
  split
  · split
    · exact hP.enterSeeking h
    · exact hP.stands (withSli_binStands rfl) h
  · exact h

theorem staleExpires (hP : BinClosed P) (c : Chan) (h : P s) : P (staleExpires c s) := by
  have stale := hP.stands (setChannel_binStands s c (channelOf s c).goStale) h
  unfold Machine.staleExpires staleReport
  dsimp only
  split
  · split
    · exact hP.window (settle_windowStands _) (hP.enterBlind stale)
    · exact hP.window (settle_windowStands _) stale
    · exact hP.stands (.ite (gateFault_binStands _ _ _) (.refl _)) stale
  · exact h

/-! ### The requests -/

theorem linkRestart (hP : BinClosed P) (h : P s) : P (linkRestart s) :=
  hP.enterSeeking (hP.stands (withSli_binStands rfl) h)

theorem paramEffect (hP : BinClosed P) {p : ParamId} (span : p ≠ .rateSpan) (h : P s) : P (paramEffect p s) := by
  have settled : ∀ {t}, P t → P (settle t) := hP.window (settle_windowStands _)
  unfold Machine.paramEffect
  split
  · exact hP.linkRestart h
  · exact hP.linkRestart h
  · exact settled (hP.emptied h)
  · exact settled (hP.emptied h)
  · exact absurd rfl span
  · exact hP.stands (setSensor_binStands _ _ _) h
  · exact hP.stands (setSensor_binStands _ _ _) h
  · exact settled h
  · exact settled (hP.window (recomputeBudget_windowStands _) h)
  · exact h

theorem changeParam (hP : BinClosed P) (id : Byte) (v : Int) (h : P s) : P (changeParam id v s).state := by
  unfold Machine.changeParam
  split
  · exact h
  · next p _ =>
    split
    · exact h
    · next accepted =>
      by_cases span : p = .rateSpan
      · subst span
        exact hP.window (settle_windowStands _) (hP.respanned accepted h)
      · exact hP.paramEffect span (hP.changed span accepted h)

theorem zeroBin (hP : BinClosed P) (h : P s) : P (zeroBin s).state := by
  unfold Machine.zeroBin
  split
  · exact h
  · exact hP.beginZero h

theorem setCustodyLock (hP : BinClosed P) (h : P s) : P (setCustodyLock s).state := by
  unfold Machine.setCustodyLock
  split
  · exact h
  · exact hP.abortZero (hP.stands (withPm_binStands rfl) h)

theorem clearSupplyFault (hP : BinClosed P) (h : P s) : P (clearSupplyFault s).state := by
  unfold Machine.clearSupplyFault
  split
  · next fault =>
    refine hP.shutMove ⟨.inr ⟨fault, rfl⟩, ?_, ?_⟩ h
    · dsimp only
      split <;> exact ⟨nofun, nofun⟩
    · dsimp only
      split <;> exact nofun
  · exact h

/-- A request taken, served and answered (R172 to R174). -/
theorem withRequest (hP : BinClosed P) (p : Port) (c : Instr) {serve : State → State} (hs : ∀ {t}, P t → P (serve t))
    (h : P s) : P (withRequest p c serve s) := by
  unfold Machine.withRequest
  split
  · exact hs (hP.stands (takeRequest_binStands p c s) h)
  · exact h

theorem serveBay (hP : BinClosed P) (c : Instr) (p : Port) (kind : Byte) (len want : Nat) (formats : Bool)
    {act : Spout → State → Answer} (ha : ∀ i t, BinStands t (act i t).state) (h : P s) :
    P (serveBay c p kind len want formats act s) := by
  refine hP.withRequest p c (fun {t} ht => ?_) h
  have answered : ∀ r fields {u}, P u → P (answer p kind r fields u) :=
    fun _ _ _ => hP.stands (answer_binStands _ _ _ _ _)
  split
  · exact answered _ _ ht
  · split
    · exact answered _ _ ht
    · exact answered _ _ (hP.stands (ha _ t) ht)

theorem serveDispatch (hP : BinClosed P) (c : Instr) (p : Port) (kind : Byte) (len want : Nat) (formats : Bool)
    {act : State → Answer} (ha : ∀ {t}, P t → P (act t).state) (h : P s) :
    P (serveDispatch c p kind len want formats act s) := by
  refine hP.withRequest p c (fun {t} ht => ?_) h
  have answered : ∀ r fields {u}, P u → P (answer p kind r fields u) :=
    fun _ _ _ => hP.stands (answer_binStands _ _ _ _ _)
  split
  · exact answered _ _ ht
  · split
    · exact answered _ _ ht
    · exact answered _ _ (ha ht)

/-! ### Every command -/

theorem whileRunning (h : P s) {f : State → State} {t : State} (run : whileRunning f s = .next t)
    (hf : P (f s)) : P t := by
  unfold Machine.whileRunning at run
  split at run
  · cases run; exact hf
  · cases run; exact h

/-- A command that acts under a condition, which it may use. -/
theorem ite (h : P s) {p : Prop} [Decidable p] {u : State} (hu : p → P u) : P (if p then u else s) := by
  split
  · next hp => exact hu hp
  · exact h

theorem exec (hP : BinClosed P) (c : Instr) {t : State} (run : exec c s = .next t) (h : P s) : P t := by
  have run_stands : ∀ {f : State → State}, Machine.whileRunning f s = .next t → BinStands s (f s) → P t :=
    fun run stands => whileRunning h run (hP.stands stands h)
  have settled : ∀ {t}, P t → P (settle t) := hP.window (settle_windowStands _)
  cases c with
  | frameSync =>
    unfold Machine.exec execFrameSync at run
    exact run_stands run (.ite (earlySync_binStands s) (withSli_binStands rfl))
  | frameArrival f o => exact whileRunning h run (hP.frameArrives f o h)
  | earlySync =>
    unfold Machine.exec execEarlySync at run
    exact run_stands run (.ite (earlySync_binStands s) (.refl s))
  | lockTimerExpiry => exact whileRunning h run (hP.lockExpires h)
  | stalenessTimerExpiry c => exact whileRunning h run (hP.staleExpires c h)
  | closeTimerExpiry i =>
    unfold Machine.exec execCloseTimerExpiry at run
    exact run_stands run (.ite (gateFault_binStands i _ s) (.refl s))
  | tailTimerExpiry i =>
    unfold Machine.exec execTailTimerExpiry at run
    exact whileRunning h run (ite h fun _ => hP.tailEnds i h)
  | linkTimerExpiry i =>
    unfold Machine.exec execLinkTimerExpiry at run
    exact run_stands run
      (.ite (((withLm_windowStands s _).trans (lmHold_windowStands _ i _)).trans (settle_windowStands _)).bin (.refl s))
  | holdExpired i =>
    unfold Machine.exec execHoldExpired at run
    exact run_stands run (.ite ((endLoad_binStands i _ false s).trans (settle_windowStands _).bin) (.refl s))
  | deferralTimerExpiry =>
    unfold Machine.exec execDeferralTimerExpiry at run
    exact whileRunning h run (ite h fun due => settled (hP.opens (.inl due.1) h))
  | refillTimerExpiry =>
    unfold Machine.exec execRefillTimerExpiry at run
    exact whileRunning h run (ite h fun due => settled (hP.timesOut due.1 h))
  | gapTimerExpiry p =>
    unfold Machine.exec execGapTimerExpiry at run
    exact run_stands run (.ite (setPort_binStands s p _) (.refl s))
  | saveTimerExpiry x =>
    unfold Machine.exec execSaveTimerExpiry at run
    exact run_stands run (.ite (withPm_binStands (saveTimesOut_working x _)) (.refl s))
  | saveWriteCompletion x =>
    unfold Machine.exec execSaveWriteCompletion at run
    exact run_stands run (withPm_binStands (writeCompletes_working x _))
  | interlockFallingEdge i =>
    unfold Machine.exec execInterlockFallingEdge at run
    exact run_stands run ((((withLm_windowStands s _).trans (countTrip_windowStands i _)).trans
      (lmHold_windowStands _ i _)).trans (settle_windowStands _)).bin
  | interlockRisingEdge i => exact run_stands run (withLm_windowStands s _).bin
  | aerationOkChange high =>
    unfold Machine.exec execAerationOkChange at run
    have line := withBsc_windowStands (s := s) (x := { s.bsc with aerationHigh := high }) rfl rfl
    exact run_stands run
      (.ite (.refl s) ((line.trans (reportAeration_windowStands _)).trans (settle_windowStands _)).bin)
  | coldStart service lines => cases run; exact hP.cold service lines s
  | warmRestart lines => exact whileRunning h run (hP.warm lines h)
  | portByteReceived p b stopHigh =>
    unfold Machine.exec execPortByteReceived at run
    exact run_stands run (setPort_binStands s p _)
  | replySent p =>
    unfold Machine.exec execReplySent at run
    refine whileRunning h run ?_
    split
    · exact hP.stands (replyEnds_binStands p _ s) h
    · exact h
  | portBaudTakenUp p =>
    unfold Machine.exec execPortBaudTakenUp at run
    exact run_stands run (.ite (setPort_binStands s p _) (.refl s))
  | applyWindowReport => exact run_stands run (applyReport_binStands s)
  | unknownRequest p kind len =>
    unfold Machine.exec execUnknownRequest at run
    refine whileRunning h run ?_
    split
    · exact h
    · exact hP.withRequest p _ (hP.stands (answer_binStands _ _ _ _ _)) h
  | openLoad p len ref target rate =>
    exact whileRunning h run (hP.serveBay _ _ _ _ _ _ (fun i t => openLoad_binStands ref _ _ i t) h)
  | start p len => exact whileRunning h run (hP.serveBay _ _ _ _ _ _ startLoad_binStands h)
  | hold p len => exact whileRunning h run (hP.serveBay _ _ _ _ _ _ holdLoad_binStands h)
  | resume p len => exact whileRunning h run (hP.serveBay _ _ _ _ _ _ resumeLoad_binStands h)
  | finish p len => exact whileRunning h run (hP.serveBay _ _ _ _ _ _ finishLoad_binStands h)
  | spoutStatus p len => exact whileRunning h run (hP.serveBay _ _ _ _ _ _ (fun _ t => .refl t) h)
  | clearFault p len => exact whileRunning h run (hP.serveBay _ _ _ _ _ _ clearFault_binStands h)
  | postOrder p len ref mass bays tolerance =>
    exact whileRunning h run
      (hP.serveDispatch _ _ _ _ _ _ (fun {t} => hP.stands (postOrder_binStands ref _ _ _ t)) h)
  | cancelOrder p len ref =>
    exact whileRunning h run (hP.serveDispatch _ _ _ _ _ _ (fun {t} => hP.stands (cancelOrder_binStands ref t)) h)
  | removeOrder p len ref =>
    exact whileRunning h run (hP.serveDispatch _ _ _ _ _ _ (fun {t} => hP.stands (removeOrder_binStands ref t)) h)
  | orderStatus p len ref =>
    exact whileRunning h run (hP.serveDispatch _ _ _ _ _ _ (fun {t} ht => (orderStatus_state ref t).symm ▸ ht) h)
  | readTicket p len =>
    exact whileRunning h run (hP.serveDispatch _ _ _ _ _ _ (fun {t} ht => (readTicket_state t).symm ▸ ht) h)
  | takeTicket p len n =>
    exact whileRunning h run (hP.serveDispatch _ _ _ _ _ _ (fun {t} => hP.stands (takeTicket_binStands _ t)) h)
  | binStatus p len => exact whileRunning h run (hP.serveDispatch _ _ _ _ _ _ id h)
  | setParameter p len id v =>
    exact whileRunning h run (hP.serveDispatch _ _ _ _ _ _ (hP.changeParam id _) h)
  | readParameter p len id =>
    exact whileRunning h run (hP.serveDispatch _ _ _ _ _ _ (fun {t} ht => (readParameter_state id t).symm ▸ ht) h)
  | saveParameters p len =>
    exact whileRunning h run (hP.serveDispatch _ _ _ _ _ _ (fun {t} => hP.stands (saveParameters_binStands t)) h)
  | zeroBin p len => exact whileRunning h run (hP.serveDispatch _ _ _ _ _ _ hP.zeroBin h)
  | setCustodyLock p len => exact whileRunning h run (hP.serveDispatch _ _ _ _ _ _ hP.setCustodyLock h)
  | clearUnassigned p len =>
    exact whileRunning h run (hP.serveDispatch _ _ _ _ _ _ (hP.stands (withOau_binStands _ _)) h)
  | clearSupplyFault p len => exact whileRunning h run (hP.serveDispatch _ _ _ _ _ _ hP.clearSupplyFault h)
  | restart p len => exact whileRunning h run (hP.serveDispatch _ _ _ _ _ _ id h)
  | partStatus p len => exact whileRunning h run (hP.serveDispatch _ _ _ _ _ _ id h)
  | resetLineRaised => exact run_stands run (.of_same (cutOffSave_working s.pm) rfl rfl rfl rfl)
  | powerLost => cases run; exact hP.lost s

/-- A step takes the command at the front of the queue, or the part's own events or a millisecond. -/
theorem step (hP : BinClosed P) {t : State} (run : step s = .next t) (h : P s) : P t := by
  unfold Machine.step at run
  split at run
  · cases run
    exact hP.stands (idle_binStands s) h
  · exact hP.exec _ run (hP.stands (withPending_binStands s _) h)

end BinClosed

end Sys2Proof.Machine
end

section
/-! The refill and the history under every step (O4, O11). -/

namespace Sys2Proof.Machine

/-! ### The refill (O4) -/

namespace RefillInv

variable {s t : State}

theorem congr (h : RefillInv s) (command : t.sli.refillCommand = s.sli.refillCommand)
    (mode : t.bmu.mode = .refilling ↔ s.bmu.mode = .refilling) (blind : t.bmu.mode = .blind → s.bmu.mode = .blind)
    (state : t.bsc.state = s.bsc.state) (fault : t.bsc.supplyFault = s.bsc.supplyFault) : RefillInv t where
  valve := by rw [command, state]; exact h.valve
  mode := by rw [command, mode]; exact h.mode
  blind n := state ▸ h.blind (blind n)
  latch := by rw [fault, state]; exact h.latch

/-- With the valve shut nothing but the latch is left to check. -/
theorem of_shut (command : t.sli.refillCommand = false) (opened : t.bsc.state ≠ .opened)
    (mode : t.bmu.mode ≠ .refilling) (blind : t.bmu.mode = .blind → t.bsc.state ≠ .deferred)
    (latch : t.bsc.supplyFault = true ↔ t.bsc.state = .supplyFault) : RefillInv t :=
  ⟨by simp [command, opened], by simp [command, mode], blind, latch⟩

theorem of_opened (command : t.sli.refillCommand = true) (opened : t.bsc.state = .opened)
    (mode : t.bmu.mode = .refilling) (fault : t.bsc.supplyFault = false) : RefillInv t :=
  ⟨by simp [command, opened], by simp [command, mode], fun _ => by simp [opened], by simp [opened, fault]⟩

theorem command_of_ne (h : RefillInv s) (n : s.bsc.state ≠ .opened) : s.sli.refillCommand = false :=
  Bool.eq_false_iff.mpr (mt h.valve.mp n)

theorem mode_of_ne (h : RefillInv s) (n : s.bsc.state ≠ .opened) : s.bmu.mode ≠ .refilling :=
  fun m => n (h.valve.mp (h.mode.mpr m))

theorem mode_of_opened (h : RefillInv s) (n : s.bsc.state = .opened) : s.bmu.mode = .refilling :=
  h.mode.mp (h.valve.mpr n)

theorem fault_of_ne (h : RefillInv s) (n : s.bsc.state ≠ .supplyFault) : s.bsc.supplyFault = false :=
  Bool.eq_false_iff.mpr (mt h.latch.mp n)

theorem binStands (k : BinStands s t) (h : RefillInv s) : RefillInv t := by
  rcases k.refill with ⟨command, mode, -, state⟩ | ⟨deferred, opened, command, mode⟩
  · exact h.congr command (by rw [mode]) (fun n => mode ▸ n) state k.supplyFault
  · refine of_opened command opened (mode fun blind => h.blind blind deferred) (k.supplyFault.trans ?_)
    exact h.fault_of_ne (by simp [deferred])

theorem openValve (hs : s.bsc.state = .deferred ∨ s.bsc.state = .idle ∧ s.bmu.mode ≠ .blind) (h : RefillInv s) :
    RefillInv (openValve s) := by
  have sighted : s.bmu.mode ≠ .blind := hs.elim (fun deferred blind => h.blind blind deferred) And.right
  have fault := h.fault_of_ne (by rcases hs with n | ⟨n, -⟩ <;> simp [n])
  rw [openValve_eq]
  exact of_opened rfl rfl (if_neg sighted) fault

theorem closeValve (next : RefillState) (hs : s.bsc.state = .opened) (h : RefillInv s) :
    (closeValve next s).sli.refillCommand = false ∧ (closeValve next s).bmu.mode = .settling ∧
      (closeValve next s).bsc.state = next ∧ (closeValve next s).bsc.supplyFault = false := by
  rw [closeValve_eq]
  exact ⟨rfl, if_pos (h.mode_of_opened hs), rfl, h.fault_of_ne (by simp [hs])⟩

theorem shutMove {x : Bsc} (k : ShutMove s x) (h : RefillInv s) : RefillInv (s.withBsc x) := by
  have still : s.bsc.state ≠ .opened := by
    rcases k.before with ⟨n, -⟩ | ⟨fault, -⟩
    · exact n
    · simp [h.latch.mp fault]
  have fault : x.supplyFault = false := by
    rcases k.before with ⟨-, n, same⟩ | ⟨-, cleared⟩
    · exact same.trans (h.fault_of_ne n)
    · exact cleared
  exact of_shut (h.command_of_ne still) k.after.1 (h.mode_of_ne still)
    (fun blind deferred => k.sighted deferred blind) (by simp [fault, k.after.2])

theorem emptied (h : RefillInv s) : RefillInv (bmuEmptyHistory s) := by
  rw [bmuEmptyHistory_eq]
  refine h.congr rfl ?_ ?_ rfl rfl
  · dsimp only
    split
    · next weighs => rcases weighs with n | n <;> simp [n]
    · rfl
  · dsimp only
    split
    · exact nofun
    · exact id

theorem enterBlind (hb : s.bmu.mode ≠ .blind) (h : RefillInv s) : RefillInv (enterBlind s) := by
  rw [enterBlind_eq hb]
  by_cases fault : s.bsc.state = .supplyFault
  · exact of_shut (by simp [fault, h.command_of_ne]) (by simp [fault]) nofun (by simp [fault])
      (by simpa [fault] using h.latch)
  · refine of_shut ?_ (by simp [fault]) nofun (by simp [fault]) (by simp [fault, h.fault_of_ne fault])
    dsimp only
    split
    · rfl
    · next n => exact h.command_of_ne n

theorem blindLeft (hb : s.bmu.mode = .blind) (h : RefillInv s) : RefillInv (bmuSetMode .unready s) := by
  have shut : s.bsc.state ≠ .opened := fun n => by
    have := h.mode_of_opened n
    simp [hb] at this
  exact of_shut (h.command_of_ne shut) shut nofun nofun h.latch

end RefillInv

theorem modeTest_refilling (w : Params) (m : Mode) (e : Entry) (run : Nat) :
    modeTest w m e run = .refilling ↔ m = .refilling := by
  cases m <;> simp only [modeTest] <;> repeat' split <;> simp

theorem refillInv_closed : BinClosed RefillInv where
  stands := RefillInv.binStands
  tail _ _ _ h := { h with }
  gain _ _ _ _ h := { h with }
  counted _ h := by
    obtain ⟨-, -, -, mode⟩ := countPosition_window _ _ _ _
    exact h.congr rfl (by rw [State.withBmu_bmu, mode]) (fun n => mode ▸ n) rfl rfl
  closed m flowing h := h.congr rfl (modeTest_refilling _ _ _ _) (modeTest_blind _ _ _ _).mp rfl rfl
  marked h := { h with }
  emptied h := h.emptied
  zeroUsed _ h := { h with }
  zeroLearned h := { h with }
  zeroSet _ h := { h with }
  shutMove := RefillInv.shutMove
  opens := RefillInv.openValve
  shuts hs h := by
    obtain ⟨command, mode, state, fault⟩ := h.closeValve .idle hs
    exact .of_shut command (by simp [state]) (by simp [mode]) (by simp [mode]) (by simp [state, fault])
  timesOut hs h := by
    obtain ⟨command, mode, state, -⟩ := h.closeValve .supplyFault hs
    exact .of_shut command (by simp [state]) (by simp [mode]) (by simp [mode]) (by simp [state])
  blindEntered := RefillInv.enterBlind
  blindLeft := RefillInv.blindLeft
  changed _ _ h := { h with }
  respanned _ h := RefillInv.emptied { h with }
  cold _ _ _ := .of_shut rfl nofun nofun nofun (by simp [coldStart, bscRestart])
  warm {s} _ _ := by
    refine .of_shut rfl ?_ nofun (fun _ => ?_) ?_ <;> simp only [warmRestart, bscRestart] <;>
      cases (endAllLoads s).bsc.supplyFault <;> simp
  lost _ := { refillInv_reset with }

/-- Settles O4: each single change of the bin keeps the refill's invariant, and so every step does. -/
theorem refillInvKept : Obligations.RefillInvKept := fun _ _ h run => refillInv_closed.step run h

/-! ### The history (O11) -/

namespace HistoryInv

variable {s t : State}

theorem congr (h : HistoryInv s) (ring : t.bmu.ring = s.bmu.ring) (run : t.bmu.cleanRun = s.bmu.cleanRun)
    (span : t.bmu.mode = .gravimetric → s.bmu.mode = .gravimetric ∧
      t.pm.working.rateSpan = s.pm.working.rateSpan ∧ t.bmu.refillMark = s.bmu.refillMark) : HistoryInv t where
  short := ring ▸ h.short
  run := run ▸ h.run
  reach := by rw [ring, run]; exact h.reach
  clean := by rw [ring, run]; exact h.clean
  span n := by
    obtain ⟨mode, same, mark⟩ := span n
    rw [same, run, mark]
    exact h.span mode

/-- The ring and the clean run stand, in a mode other than GRAVIMETRIC. -/
theorem congr_of_ne (h : HistoryInv s) (ring : t.bmu.ring = s.bmu.ring) (run : t.bmu.cleanRun = s.bmu.cleanRun)
    (mode : t.bmu.mode ≠ .gravimetric) : HistoryInv t := h.congr ring run fun n => absurd n mode

theorem of_empty (ring : t.bmu.ring = []) (run : t.bmu.cleanRun = 0) (mode : t.bmu.mode ≠ .gravimetric) :
    HistoryInv t where
  short := by simp [ring]
  run := by simp [run]
  reach := by simp [run]
  clean := by simp [ring]
  span n := absurd n mode

theorem binStands (k : BinStands s t) (h : HistoryInv s) (blind : s.bsc.state = .deferred → s.bmu.mode ≠ .blind) :
    HistoryInv t := by
  have ring : t.bmu.ring = s.bmu.ring := by rw [k.bmu]
  have run : t.bmu.cleanRun = s.bmu.cleanRun := by rw [k.bmu]
  rcases k.refill with ⟨-, mode, mark, -⟩ | ⟨deferred, -, -, mode⟩
  · exact h.congr ring run fun n => ⟨mode ▸ n, by rw [k.working], mark⟩
  · exact h.congr_of_ne ring run (by simp [mode (blind deferred)])

theorem emptied (s : State) : HistoryInv (bmuEmptyHistory s) := by
  rw [bmuEmptyHistory_eq]
  refine of_empty rfl rfl ?_
  dsimp only
  split
  · exact nofun
  · next weighs => exact fun n => weighs (.inl n)

end HistoryInv

/-- A closing of the valve that ends REFILLING (R31). -/
theorem HistoryInv.valveClosed {s : State} (next : RefillState) (h : HistoryInv s)
    (mode : (closeValve next s).bmu.mode = .settling) : HistoryInv (closeValve next s) :=
  h.congr_of_ne (by rw [closeValve_eq]) (by rw [closeValve_eq]) (by simp [mode])

/-- An entry appended leaves the ring the newest entries it had, one place on (R25). -/
theorem appendEntry_eq (ring : List Entry) (e : Entry) :
    appendEntry ring e = ring.drop (if 32 ≤ ring.length then 1 else 0) ++ [e] := by
  unfold appendEntry
  split <;> simp

/-- The newest entries, as far as the clean run and the ring reach, are CLEAN. -/
def CleanRunHolds (ring : List Entry) (run : Nat) : Prop :=
  min run 32 ≤ ring.length ∧ ∀ e ∈ ring.drop (ring.length - min run 32), e.valid = true ∧ e.refill = false ∧
    e.disturbed = false

theorem Entry.clean_iff (e : Entry) : e.clean = true ↔ e.valid = true ∧ e.refill = false ∧ e.disturbed = false := by
  simp [Entry.clean, and_assoc]

theorem length_appendEntry {ring : List Entry} (e : Entry) (h : ring.length ≤ 32) :
    (appendEntry ring e).length = min 32 (ring.length + 1) := by
  rw [appendEntry_eq, List.length_append, List.length_drop, List.length_singleton]
  split <;> omega

/-- The clean run counts the newest CLEAN entries of the ring after a close too (R25, R26). -/
theorem CleanRunHolds.append {ring : List Entry} {run : Nat} (h : CleanRunHolds ring run) (short : ring.length ≤ 32)
    (e : Entry) : CleanRunHolds (appendEntry ring e) (cleanRunAfter run e) := by
  have length := length_appendEntry e short
  unfold cleanRunAfter CleanRunHolds
  rw [length]
  split
  · next clean =>
    obtain ⟨reach, newest⟩ := h
    have run_eq : min (satAdd 255 run 1) 32 = min (run + 1) 32 := by unfold satAdd; omega
    rw [run_eq]
    refine ⟨by omega, fun x hx => ?_⟩
    rw [appendEntry_eq, List.drop_append, List.mem_append, List.drop_drop] at hx
    rcases hx with old | new
    · refine newest x ((List.drop_sublist_drop_left ring ?_).subset old)
      split <;> omega
    · rw [List.mem_singleton.mp (List.mem_of_mem_drop new)]
      exact e.clean_iff.mp clean
  · refine ⟨Nat.zero_le _, fun x hx => ?_⟩
    rw [List.drop_eq_nil_of_le (by rw [length]; omega)] at hx
    cases hx

/-- A mode of GRAVIMETRIC after the mode test rests on the clean run (R30). -/
theorem modeTest_gravimetric {w : Params} {m : Mode} {e : Entry} {run : Nat} (h : modeTest w m e run = .gravimetric) :
    w.rateSpan ≤ run ∨ m = .gravimetric ∧ e.disturbed = false ∧ e.valid = true := by
  cases m
  case unready =>
    simp only [modeTest] at h
    split at h
    · next enough => exact .inl enough
    · cases h
  case gravimetric =>
    simp only [modeTest] at h
    split at h
    · cases h
    · next good =>
      simp at good
      exact .inr ⟨rfl, good⟩
  case settling =>
    simp only [modeTest] at h
    split at h
    · next enough => exact .inl ((Nat.le_max_right _ _).trans enough)
    · cases h
  all_goals cases h

/-- The close of a window keeps the history's invariant (R25, R26, R30). -/
theorem HistoryInv.windowClosed {s : State} (h : HistoryInv s) (m : PerSpout Nat) (flowing : PerSpout Bool) :
    HistoryInv (s.withBmu (bmuCloseWindow (working s) m flowing s.bmu)) := by
  let e := closingEntry (working s) s.bmu m flowing
  have append : CleanRunHolds (appendEntry s.bmu.ring e) (cleanRunAfter s.bmu.cleanRun e) :=
    CleanRunHolds.append ⟨h.reach, h.clean⟩ h.short e
  refine ⟨?short, ?run, append.1, append.2, fun gravimetric => ⟨?span, rfl⟩⟩
  case short => exact (length_appendEntry e h.short).trans_le (Nat.min_le_left _ _)
  case run =>
    show cleanRunAfter s.bmu.cleanRun e ≤ 255
    unfold cleanRunAfter
    split
    · exact Nat.min_le_left _ _
    · exact Nat.zero_le _
  case span =>
    show (working s).rateSpan ≤ cleanRunAfter s.bmu.cleanRun e
    rcases modeTest_gravimetric gravimetric with enough | ⟨mode, disturbed, valid⟩
    · exact enough
    · obtain ⟨span, mark⟩ := h.span mode
      have bounded := h.run
      have clean : e.clean = true := e.clean_iff.mpr ⟨valid, mark, disturbed⟩
      have enough : (working s).rateSpan ≤ s.bmu.cleanRun := span
      rw [cleanRunAfter, if_pos clean, satAdd]
      omega

/-- The history with the refill that it rests on: in GRAVIMETRIC no refill marks the window (R31). -/
def HistoryRests (s : State) : Prop := RefillInv s ∧ HistoryInv s

theorem countPosition_history (w : Params) (refill : Bool) (m : Mark) (b : Bmu) :
    (countPosition w refill m b).cleanRun = b.cleanRun ∧
      (countPosition w refill m b).refillMark = (b.refillMark || refill) := by
  unfold countPosition addBinSample
  dsimp only
  split
  · split <;> exact ⟨rfl, rfl⟩
  · exact ⟨rfl, rfl⟩

theorem HistoryRests.counted {s : State} (h : HistoryRests s) (m : Mark) :
    HistoryInv (s.withBmu (countPosition (working s) s.sli.refillCommand m s.bmu)) := by
  obtain ⟨refill, history⟩ := h
  obtain ⟨-, ring, -, mode⟩ := countPosition_window (working s) s.sli.refillCommand m s.bmu
  obtain ⟨run, mark⟩ := countPosition_history (working s) s.sli.refillCommand m s.bmu
  refine history.congr ring run fun n => ?_
  have gravimetric : s.bmu.mode = .gravimetric := mode ▸ n
  have shut : s.sli.refillCommand = false :=
    Bool.eq_false_iff.mpr fun on => by simpa [gravimetric] using refill.mode.mp on
  exact ⟨gravimetric, rfl, by rw [State.withBmu_bmu, mark, shut, Bool.or_false]⟩

theorem paramSet_rateSpan {p : ParamId} (h : p ≠ .rateSpan) (w : Params) (v : Int) :
    (paramSet w p v).rateSpan = w.rateSpan := by
  cases p
  case rateSpan => exact absurd rfl h
  all_goals rfl

theorem historyRests_closed : BinClosed HistoryRests where
  stands k := fun ⟨refill, history⟩ =>
    ⟨refill.binStands k, history.binStands k fun deferred blind => refill.blind blind deferred⟩
  tail i _ hx := fun ⟨refill, history⟩ => ⟨refillInv_closed.tail i hx refill, { history with }⟩
  gain i _ low high := fun ⟨refill, history⟩ => ⟨refillInv_closed.gain i low high refill, { history with }⟩
  counted hp h := ⟨refillInv_closed.counted hp h.1, h.counted _⟩
  closed m flowing := fun ⟨refill, history⟩ =>
    ⟨refillInv_closed.closed m flowing refill, history.windowClosed m flowing⟩
  marked := fun ⟨refill, history⟩ => ⟨refillInv_closed.marked refill, { history with }⟩
  emptied {s} := fun ⟨refill, _⟩ => ⟨refill.emptied, .emptied s⟩
  zeroUsed hs := fun ⟨refill, history⟩ => ⟨refillInv_closed.zeroUsed hs.1 refill, { history with }⟩
  zeroLearned := fun ⟨refill, history⟩ => ⟨refillInv_closed.zeroLearned refill, { history with }⟩
  zeroSet hz := fun ⟨refill, history⟩ => ⟨refillInv_closed.zeroSet hz refill, { history with }⟩
  shutMove k := fun ⟨refill, history⟩ => ⟨refill.shutMove k, { history with }⟩
  opens {s} hs := fun ⟨refill, history⟩ => by
    refine ⟨refill.openValve hs, ?_⟩
    rw [openValve_eq]
    exact history.congr_of_ne rfl rfl (by dsimp only; split <;> exact nofun)
  shuts hs := fun ⟨refill, history⟩ =>
    ⟨refillInv_closed.shuts hs refill, history.valveClosed .idle (refill.closeValve .idle hs).2.1⟩
  timesOut hs := fun ⟨refill, history⟩ =>
    ⟨refillInv_closed.timesOut hs refill,
      { history.valveClosed .supplyFault (refill.closeValve .supplyFault hs).2.1 with }⟩
  blindEntered {s} hb := fun ⟨refill, _⟩ => by
    refine ⟨refill.enterBlind hb, ?_⟩
    rw [enterBlind_eq hb]
    exact .of_empty rfl rfl nofun
  blindLeft hb := fun ⟨refill, history⟩ => ⟨refill.blindLeft hb, history.congr_of_ne rfl rfl nofun⟩
  changed span accepted := fun ⟨refill, history⟩ =>
    ⟨refillInv_closed.changed span accepted refill, history.congr rfl rfl fun n => ⟨n, paramSet_rateSpan span _ _, rfl⟩⟩
  respanned accepted := fun ⟨refill, _⟩ => ⟨refillInv_closed.respanned accepted refill, .emptied _⟩
  cold service lines s := ⟨refillInv_closed.cold service lines s, .of_empty rfl rfl nofun⟩
  warm lines h := ⟨refillInv_closed.warm lines h.1, .of_empty rfl rfl nofun⟩
  lost s := ⟨refillInv_closed.lost s, .of_empty rfl rfl nofun⟩

/-- Settles O11: the history with the refill's invariant is kept by each single change of the bin. -/
theorem historyInvKept : Obligations.HistoryInvKept := fun _ _ refill history run =>
  (historyRests_closed.step run ⟨refill, history⟩).2

end Sys2Proof.Machine
end

section
/-! The working values under every step (O12): the parameter table read row by row, and the raw sums of the window and of a
running zero, on which a learned BIN_ZERO rests. -/

namespace Sys2Proof.Machine

/-! ### The parameter table -/

theorem mem_paramTable (p : ParamId) : ∃ row ∈ paramTable, row.2 = p := by
  have listed : p ∈ paramTable.map Prod.snd := by
    cases p
    case spoutZero i => cases i <;> decide
    case spoutGain i => cases i <;> decide
    case tailMs i => cases i <;> decide
    all_goals decide
  exact List.mem_map.mp listed

theorem paramsSound_iff (w : Params) :
    paramsSound w = true ↔ (∀ p, paramInRange p (paramGet w p) = true) ∧ levelsOrdered w = true := by
  unfold paramsSound
  rw [Bool.and_eq_true, List.all_eq_true]
  refine and_congr_left fun _ => ⟨fun rows p => ?_, fun all row _ => all row.2⟩
  obtain ⟨row, mem, rfl⟩ := mem_paramTable p
  exact rows row mem

theorem within_iff (lo hi v : Int) : within lo hi v = true ↔ lo ≤ v ∧ v ≤ hi := by
  simp [within]

/-- Only the zeros have a range that goes below 0. -/
theorem nonneg_of_inRange {p : ParamId} {v : Int} (h : paramInRange p v = true) (bin : p ≠ .binZero)
    (spout : ∀ i, p ≠ .spoutZero i) : 0 ≤ v := by
  cases p
  case binZero => exact absurd rfl bin
  case spoutZero i => exact absurd rfl (spout i)
  all_goals
    simp only [paramInRange, within, Bool.or_eq_true, Bool.and_eq_true, decide_eq_true_eq] at h
    omega

/-- A value of the range is read back as it was written (R181, R182). -/
theorem paramGet_paramSet_same {p : ParamId} {v : Int} (h : paramInRange p v = true) (w : Params) :
    paramGet (paramSet w p v) p = v := by
  have nonneg := nonneg_of_inRange h
  cases p
  case binZero => rfl
  case spoutZero i => exact PerSpout.get_set_same _ i v
  case spoutGain i =>
    have natural := Int.toNat_of_nonneg (nonneg nofun nofun)
    simpa [paramGet, paramSet] using natural
  case tailMs i =>
    have natural := Int.toNat_of_nonneg (nonneg nofun nofun)
    simpa [paramGet, paramSet] using natural
  case syncRole =>
    have coded : v = 0 ∨ v = 1 := by rw [paramInRange, within_iff] at h; omega
    rcases coded with rfl | rfl <;> rfl
  case sensorPolicy =>
    have coded : v = 0 ∨ v = 1 := by rw [paramInRange, within_iff] at h; omega
    rcases coded with rfl | rfl <;> rfl
  case learnEnable =>
    have coded : v = 0 ∨ v = 1 := by rw [paramInRange, within_iff] at h; omega
    rcases coded with rfl | rfl <;> rfl
  all_goals exact Int.toNat_of_nonneg (nonneg nofun nofun)

/-- A write to one spout's value of a parameter leaves the other spouts'. -/
theorem get_set_of_paramId_ne {α : Type} {f : Spout → ParamId} (x : PerSpout α) (v : α) {i j : Spout} (h : f j ≠ f i) :
    (x.set i v).get j = x.get j := PerSpout.get_set_other x v fun same => h (same ▸ rfl)

theorem paramGet_paramSet_other {p q : ParamId} (h : q ≠ p) (w : Params) (v : Int) :
    paramGet (paramSet w p v) q = paramGet w q := by
  cases p
  case spoutZero i =>
    cases q
    case spoutZero j => exact get_set_of_paramId_ne (f := .spoutZero) _ _ h
    all_goals rfl
  case spoutGain i =>
    cases q
    case spoutGain j => exact congrArg _ (get_set_of_paramId_ne (f := .spoutGain) _ _ h)
    all_goals rfl
  case tailMs i =>
    cases q
    case tailMs j => exact congrArg _ (get_set_of_paramId_ne (f := .tailMs) _ _ h)
    all_goals rfl
  all_goals
    cases q
    all_goals first | rfl | exact absurd rfl h

theorem levelsOrdered_paramSet {p : ParamId} (h : paramIsLevel p = false) (w : Params) (v : Int) :
    levelsOrdered (paramSet w p v) = levelsOrdered w := by
  cases p
  case lEmpty => cases h
  case lLow => cases h
  case lHigh => cases h
  case binCapacityG => cases h
  all_goals rfl

/-- A value of its range, which leaves the levels in order, keeps the values sound (R182). -/
theorem paramsSound_paramSet {w : Params} {p : ParamId} {v : Int} (range : paramInRange p v = true)
    (levels : paramIsLevel p = true → levelsOrdered (paramSet w p v) = true) (h : paramsSound w = true) :
    paramsSound (paramSet w p v) = true := by
  rw [paramsSound_iff] at h ⊢
  obtain ⟨ranges, ordered⟩ := h
  refine ⟨fun q => ?_, ?_⟩
  · by_cases same : q = p
    · rw [same, paramGet_paramSet_same range]
      exact range
    · rw [paramGet_paramSet_other same]
      exact ranges q
  · cases level : paramIsLevel p with
    | true => exact levels level
    | false => rw [levelsOrdered_paramSet level]; exact ordered

/-- What the checks of R182 let by. -/
theorem paramsSound_of_accepted {s : State} {p : ParamId} {v : Int} (accepted : paramRefusal s p v = none)
    (h : paramsSound (working s) = true) : paramsSound (paramSet (working s) p v) = true := by
  unfold paramRefusal at accepted
  split at accepted
  · cases accepted
  · next range =>
    split at accepted
    · cases accepted
    · next levels =>
      refine paramsSound_paramSet (by simpa using range) (fun level => ?_) h
      simpa [level] using levels

theorem soundValues_paramsSound {x : StoredImage} {w : Params} (h : soundValues x = some w) : paramsSound w = true := by
  unfold soundValues at h
  split at h
  · split at h
    · next sound => cases h; exact sound.2
    · cases h
  · cases h

/-! ### Raw sums -/

/-- A sum that `count` signed 24-bit samples can make (R12, R36). -/
def SumOf (count : Nat) (sum : Int) : Prop := -8388608 * (count : Int) ≤ sum ∧ sum ≤ 8388607 * (count : Int)

theorem SumOf.zero : SumOf 0 0 := ⟨le_rfl, le_rfl⟩

theorem SumOf.add {m n : Nat} {x y : Int} (h : SumOf m x) (k : SumOf n y) : SumOf (m + n) (x + y) := by
  unfold SumOf at *
  push_cast
  omega

theorem SumOf.one {raw : Int} (h : -8388608 ≤ raw ∧ raw ≤ 8388607) : SumOf 1 raw := by
  unfold SumOf
  omega

/-- The mean of 24-bit samples is in 24 bits (R36). -/
theorem SumOf.mean {n : Nat} {x : Int} (h : SumOf n x) : -8388608 ≤ x.tdiv n ∧ x.tdiv n ≤ 8388607 := by
  obtain ⟨low, high⟩ := h
  rcases Nat.eq_zero_or_pos n with rfl | pos
  · simp
  have count : (0 : Int) < n := Int.natCast_pos.mpr pos
  rcases Int.le_total 0 x with up | down
  · rw [Int.tdiv_eq_ediv_of_nonneg up]
    have nonneg : 0 ≤ x / n := Int.ediv_nonneg up count.le
    have bound : x / n ≤ 8388607 := Int.ediv_le_of_le_mul count high
    omega
  · obtain ⟨y, rfl⟩ : ∃ y, x = -y := ⟨-x, by omega⟩
    rw [Int.neg_tdiv, Int.tdiv_eq_ediv_of_nonneg (by omega)]
    have nonneg : 0 ≤ y / n := Int.ediv_nonneg (by omega) count.le
    have bound : y / n ≤ 8388608 := Int.ediv_le_of_le_mul count (by omega)
    omega

/-! ### The single changes (O12) -/

namespace ParamInv

variable {s t : State}

theorem congr (h : ParamInv s) (working : t.pm.working = s.pm.working) (count : t.bmu.goodCount = s.bmu.goodCount)
    (sum : t.bmu.rawSum = s.bmu.rawSum) (zero : t.bmu.zero.sampleCount = s.bmu.zero.sampleCount)
    (zeroSum : t.bmu.zero.rawSum = s.bmu.zero.rawSum) : ParamInv t where
  sound := working ▸ h.sound
  window := by rw [count, sum]; exact h.window
  zero := by rw [zero, zeroSum]; exact h.zero

theorem setParam (h : ParamInv s) {p : ParamId} {v : Int} (range : paramInRange p v = true)
    (level : paramIsLevel p = false) : ParamInv (setWorking s (paramSet (working s) p v)) :=
  { h with sound := paramsSound_paramSet range (by simp [level]) h.sound }

theorem binStands (k : BinStands s t) (h : ParamInv s) : ParamInv t :=
  h.congr k.working (by rw [k.bmu]) (by rw [k.bmu]) (by rw [k.bmu]) (by rw [k.bmu])

theorem emptied (h : ParamInv s) : ParamInv (bmuEmptyHistory s) := by
  rw [bmuEmptyHistory_eq]
  exact { h with window := SumOf.zero }

theorem enterBlind (hb : s.bmu.mode ≠ .blind) (h : ParamInv s) : ParamInv (enterBlind s) := by
  rw [enterBlind_eq hb]
  refine { h with window := SumOf.zero, zero := ?_ }
  dsimp only
  split
  · exact SumOf.zero
  · exact h.zero

theorem counted {p : PositionIn} (hp : p.inRange) (h : ParamInv s) :
    ParamInv (s.withBmu (countPosition (working s) s.sli.refillCommand p.bin s.bmu)) := by
  have stands : ∀ b : Bmu, SumOf b.goodCount b.rawSum → b.zero.sampleCount = s.bmu.zero.sampleCount →
      b.zero.rawSum = s.bmu.zero.rawSum → ParamInv (s.withBmu b) := fun b window count sum =>
    { h with window := window, zero := by rw [State.withBmu_bmu, count, sum]; exact h.zero }
  unfold countPosition addBinSample
  dsimp only
  split
  · next raw good =>
    split
    · exact stands _ (SumOf.add h.window (.one (hp raw good))) rfl rfl
    · exact stands _ h.window rfl rfl
  · exact stands _ h.window rfl rfl

theorem cold (service : Bool) (lines : Lines) (s : State) : ParamInv (coldStart service lines s) := by
  refine ⟨?_, SumOf.zero, SumOf.zero⟩
  show paramsSound ((soundValues (cutOffSave s.pm).image).getD paramDefaults) = true
  cases hs : soundValues (cutOffSave s.pm).image with
  | none => exact paramInv_reset.sound
  | some w => exact soundValues_paramsSound hs

theorem endAllLoads_working (s : State) : (endAllLoads s).pm.working = s.pm.working :=
  (eachSpout_binStands (fun i t => endLoad_binStands i .restart false t) s).working

end ParamInv

theorem paramInv_closed : BinClosed ParamInv where
  stands := ParamInv.binStands
  tail i x hx h := h.setParam (p := .tailMs i) (v := x) ((within_iff _ _ _).mpr (by omega)) rfl
  gain i x low high h := h.setParam (p := .spoutGain i) (v := x) ((within_iff _ _ _).mpr (by omega)) rfl
  counted := ParamInv.counted
  closed _ _ h := { h with window := SumOf.zero }
  marked h := { h with }
  emptied := ParamInv.emptied
  zeroUsed hs h := { h with zero := SumOf.add h.zero hs.window }
  zeroLearned h := h.setParam (p := .binZero) ((within_iff _ _ _).mpr (SumOf.mean h.zero)) rfl
  zeroSet hz h := { h with
    zero := by
      rcases hz with ⟨sum, count⟩ | ⟨sum, count⟩ <;> rw [State.withBmu_bmu, sum, count]
      · exact SumOf.zero
      · exact h.zero }
  shutMove _ h := { h with }
  opens _ h := by rw [openValve_eq]; exact { h with }
  shuts _ h := by rw [closeValve_eq]; exact { h with }
  timesOut _ h := by rw [closeValve_eq]; exact { h with }
  blindEntered := ParamInv.enterBlind
  blindLeft _ h := { h with }
  changed _ accepted h := { h with sound := paramsSound_of_accepted accepted h.sound }
  respanned accepted h := ParamInv.emptied { h with sound := paramsSound_of_accepted accepted h.sound }
  cold := ParamInv.cold
  warm {s} lines h := ⟨(ParamInv.endAllLoads_working s).symm ▸ h.sound, SumOf.zero, SumOf.zero⟩
  lost _ := { paramInv_reset with }

/-- Settles O12: each single change of the bin keeps the values in their ranges, and so every step does. -/
theorem paramInvKept : Obligations.ParamInvKept := fun _ _ h run => paramInv_closed.step run h

end Sys2Proof.Machine
end

section
/-! The refill's two timers (O35), a warm restart (O40), and ZERO_BIN, SET_CUSTODY_LOCK and RESTART (O59), each written as the
record it leaves. -/

namespace Sys2Proof.Machine

/-! ### The refill's timers (O35) -/

theorem deferralDue_iff (s : State) : deferralDue s = true ↔
    ∃ n, s.bsc.deferralTimer = some n ∧ s.pm.working.refillDeferMaxS * 1000 ≤ n := reached_iff _ _

theorem refillDue_iff (s : State) : refillDue s = true ↔
    ∃ n, s.bsc.refillTimer = some n ∧ s.pm.working.refillMaxS * 1000 ≤ n := reached_iff _ _

/-- The valve opens in a mode that a refill ends: the mode and the OAU's record go to REFILLING (R31, R56, R158). -/
theorem openValve_of_weighing {s : State}
    (h : s.bmu.mode = .unready ∨ s.bmu.mode = .gravimetric ∨ s.bmu.mode = .settling) : openValve s = { s with
      bsc := { s.bsc with state := .opened, deferralTimer := none, refillTimer := some 0 }
      sli := { s.sli with refillCommand := true }
      bmu := { s.bmu with mode := .refilling, refillMark := true }
      oau := { s.oau with
        modeRecord := .refilling, carry := if s.oau.modeRecord = .gravimetric then 0 else s.oau.carry } } := by
  rcases h with hm | hm | hm <;>
    simp [openValve, bmuRefillOpened, setRefillCommand, bmuSetMode, oauModeReport, State.withBsc, State.withSli,
      State.withBmu, State.withOau, hm]

/-- The refill times out in REFILLING: the valve closes with the latch set (R31, R56, R161). -/
theorem refillTimesOut_of_refilling {s : State} (h : s.bmu.mode = .refilling) : refillTimesOut s = settle { s with
      bsc := { s.bsc with state := .supplyFault, refillTimer := none, supplyFault := true }
      sli := { s.sli with refillCommand := false }
      bmu := { s.bmu with mode := .settling }
      oau := { s.oau with
        modeRecord := .settling, carry := if s.oau.modeRecord = .gravimetric then 0 else s.oau.carry } } := by
  simp [refillTimesOut, closeValve, bmuRefillClosed, setRefillCommand, bmuSetMode, oauModeReport, State.withBsc,
    State.withSli, State.withBmu, State.withOau, h]

/-- Settles O35: an expiry at its limit is the one record of its valve, and any other does nothing. -/
theorem refillTimersMoveTheValve : Obligations.RefillTimersMoveTheValve := by
  intro s hs due out
  have deferral : exec .deferralTimerExpiry s =
      .next (if s.bsc.state = .deferred ∧ deferralDue s then settle (openValve s) else s) := if_pos hs
  have refill : exec .refillTimerExpiry s =
      .next (if s.bsc.state = .opened ∧ refillDue s then refillTimesOut s else s) := if_pos hs
  have due_iff : s.bsc.state = .deferred ∧ deferralDue s = true ↔ due := and_congr_right fun _ => deferralDue_iff s
  have out_iff : s.bsc.state = .opened ∧ refillDue s = true ↔ out := and_congr_right fun _ => refillDue_iff s
  rw [deferral, refill]
  refine ⟨fun h mode => ?opens, fun h => ?waits, fun h mode => ?closes, fun h => ?runs⟩
  case opens => exact ⟨_, congrArg _ (if_pos (due_iff.mpr h)), openValve_of_weighing mode ▸ settle_runsOn [] _⟩
  case waits => exact congrArg _ (if_neg (mt due_iff.mp h))
  case closes => exact ⟨_, congrArg _ (if_pos (out_iff.mpr h)), refillTimesOut_of_refilling mode ▸ settle_runsOn [] _⟩
  case runs => exact congrArg _ (if_neg (mt out_iff.mp h))

/-! ### The warm restart (O40) -/

/-- The tickets and orders after the end of spout `i`'s load with RESTART, if its slot holds one. -/
def restartEnded (s : State) (i : Spout) (u : State) : State :=
  match loadOf s i with
  | some l => { u with ots := (complete i l .restart u).ots }
  | none => u

/-- What the ends of the loads leave as it was of all that a warm restart keeps, but for the OTS (R188). -/
structure RestartKeeps (s t : State) : Prop where
  power : t.power = s.power
  pm : t.pm = s.pm
  ssu : t.ssu = s.ssu
  supplyFault : t.bsc.supplyFault = s.bsc.supplyFault
  unassigned : t.oau.unassigned = s.oau.unassigned
  counter : t.lm.counter = s.lm.counter
  latch : t.lm.latch = s.lm.latch
  pending : t.pending = s.pending

theorem RestartKeeps.trans {s t u : State} (h : RestartKeeps s t) (k : RestartKeeps t u) : RestartKeeps s u :=
  ⟨k.power.trans h.power, k.pm.trans h.pm, k.ssu.trans h.ssu, k.supplyFault.trans h.supplyFault,
    k.unassigned.trans h.unassigned, k.counter.trans h.counter, k.latch.trans h.latch, k.pending.trans h.pending⟩

theorem endLoad_restartKeeps (i : Spout) (s : State) : RestartKeeps s (endLoad i .restart false s) := by
  cases hl : loadOf s i with
  | none =>
    have still : endLoad i .restart false s = s := by simp only [endLoad, hl]
    rw [still]
    exact ⟨rfl, rfl, rfl, rfl, rfl, rfl, rfl, rfl⟩
  | some l =>
    rw [endLoad_eq .restart hl]
    exact ⟨rfl, rfl, rfl, rfl, rfl, rfl, rfl, rfl⟩

theorem loadOf_endLoad_other {i j : Spout} (s : State) (h : j ≠ i) :
    loadOf (endLoad i .restart false s) j = loadOf s j := by
  cases hl : loadOf s i with
  | none => simp only [endLoad, hl]
  | some l =>
    rw [endLoad_eq .restart hl]
    exact PerSpout.get_set_other _ _ h

/-- An end with RESTART completes the load that the slot held before any end. -/
theorem endLoad_ots {i : Spout} {s t u : State} (load : loadOf t i = loadOf s i) (ots : t.ots = u.ots) :
    (endLoad i .restart false t).ots = (restartEnded s i u).ots := by
  unfold restartEnded
  rw [← load]
  cases hl : loadOf t i with
  | none => simpa only [endLoad, hl] using ots
  | some l =>
    rw [endLoad_eq .restart hl]
    exact complete_ots_congr i l .restart ots

theorem endAllLoads_restartKeeps (s : State) : RestartKeeps s (endAllLoads s) :=
  ((endLoad_restartKeeps .A s).trans (endLoad_restartKeeps .B _)).trans (endLoad_restartKeeps .C _)

theorem endAllLoads_ots (s : State) :
    (endAllLoads s).ots = (restartEnded s .C (restartEnded s .B (restartEnded s .A s))).ots := by
  have a := endLoad_ots (s := s) (t := s) (i := .A) rfl rfl
  have b := endLoad_ots (loadOf_endLoad_other (i := .A) (j := .B) s nofun) a
  exact endLoad_ots ((loadOf_endLoad_other (i := .B) (j := .C) _ nofun).trans
    (loadOf_endLoad_other (i := .A) (j := .C) s nofun)) b

/-- Settles O40: the ends of the loads leave the OTS of R148 and all that the warm values keep. -/
theorem warmRestartEndsTheLoads : Obligations.WarmRestartEndsTheLoads := by
  intro s lines hs ended
  have runs : exec (.warmRestart lines) s = .next (warmRestart lines s) := if_pos hs
  have keeps := endAllLoads_restartKeeps s
  have ots : (endAllLoads s).ots = (ended .C (ended .B (ended .A s))).ots := endAllLoads_ots s
  have budget : effectiveBudget s.pm.working (!lines.aerationOk) false =
      if lines.aerationOk then s.pm.working.budget else 0 := by
    cases lines.aerationOk <;> rfl
  rw [runs, ← ots, ← budget]
  unfold warmRestart
  generalize endAllLoads s = t at keeps
  obtain ⟨power, pm, ssu, supplyFault, unassigned, counter, latch, pending⟩ := keeps
  simp only [working, sensorOf, power, pm, ssu, supplyFault, unassigned, counter, latch, pending]
  rfl

/-! ### ZERO_BIN, SET_CUSTODY_LOCK and RESTART (O59) -/

theorem anyLoad_iff (s : State) : anyLoad s = true ↔ ∃ i, (loadOf s i).isSome := by
  simp only [anyLoad, List.any_eq_true, mem_allSpouts, true_and]

/-- The BUSY check of ZERO BIN (R35). -/
theorem zeroBusy_iff (s : State) : (zeroRunning s || anyLoad s || s.sli.refillCommand) = true ↔
    s.bmu.zero.state = .running ∨ (∃ i, (loadOf s i).isSome) ∨ s.sli.refillCommand = true := by
  simp only [Bool.or_eq_true, anyLoad_iff, zeroRunning, decide_eq_true_eq, or_assoc]

/-- A zero that is accepted is RUNNING from nothing, and the refill control leaves IDLE for SUSPENDED (R35, R36, R162). -/
theorem beginZero_eq (s : State) : beginZero s = { s with
    bmu := { s.bmu with zero :=
      { state := .running, windowCount := 0, rawSum := 0, sampleCount := 0,
        skipWindow := decide (s.bmu.position ≠ 0) } }
    bsc := { s.bsc with
      zeroRecord := true, state := if s.bsc.state = .idle then .suspended else s.bsc.state } } := by
  unfold beginZero bscZeroStarted
  dsimp only
  split
  · next idle =>
    have still : s.bsc.state = .idle := idle
    rw [if_pos still]
    rfl
  · next other =>
    have moves : s.bsc.state ≠ .idle := other
    rw [if_neg moves]
    rfl

/-- Settles O59: the checks of ZERO BIN one by one, and each request's change as one record. -/
theorem zeroLockAndRestartRequests : Obligations.ZeroLockAndRestartRequests := by
  intro s hs z c r busy taken locked
  have zero : ∀ {a : Answer}, taken z → zeroBin (dispatchTaken z s) = a →
      exec z s = .next (answer .dispatch 0x2A a.result a.fields a.state) := by
    rintro _ ht rfl
    exact (if_pos hs).trans (congrArg _ (serveDispatch_of_takes ht))
  have lock : ∀ {a : Answer}, taken c → setCustodyLock (dispatchTaken c s) = a →
      exec c s = .next (answer .dispatch 0x2B a.result a.fields a.state) := by
    rintro _ ht rfl
    exact (if_pos hs).trans (congrArg _ (serveDispatch_of_takes ht))
  have refused : ∀ {x}, zeroRefusal (dispatchTaken z s) = some x →
      zeroBin (dispatchTaken z s) = refuse x (dispatchTaken z s) := fun h => by simp only [zeroBin, h]
  have cleared : s.pm.custodyLock = false →
      setCustodyLock (dispatchTaken c s) = accept (abortZero (dispatchTaken c locked)) := fun h =>
    if_neg (Bool.eq_false_iff.mp h)
  refine ⟨fun set ht => ?locked, fun clear blind ht => ?blind, fun clear sighted hb ht => ?busy,
    fun clear sighted hb ht => ?begins, fun set ht => ?still, fun clear idle ht => ?sets,
    fun clear running ht => ?aborts, fun ht => ?restart⟩
  case locked => exact zero ht (refused (if_pos set))
  case blind => exact zero ht (refused ((if_neg (Bool.eq_false_iff.mp clear)).trans (if_pos blind)))
  case busy =>
    exact zero ht (refused ((if_neg (Bool.eq_false_iff.mp clear)).trans
      ((if_neg sighted).trans (if_pos ((zeroBusy_iff (dispatchTaken z s)).mpr hb)))))
  case begins =>
    have free : zeroRefusal (dispatchTaken z s) = none := (if_neg (Bool.eq_false_iff.mp clear)).trans
      ((if_neg sighted).trans (if_neg (mt (zeroBusy_iff (dispatchTaken z s)).mp hb)))
    have begun : zeroBin (dispatchTaken z s) = accept (beginZero (dispatchTaken z s)) := by simp only [zeroBin, free]
    rw [beginZero_eq] at begun
    exact zero ht begun
  case still => exact lock ht (if_pos set)
  case sets =>
    rw [lock ht (cleared clear), show abortZero (dispatchTaken c locked) = dispatchTaken c locked from if_neg idle]
    rfl
  case aborts =>
    rw [lock ht (cleared clear), abortZero_eq]
    have on : (dispatchTaken c locked).bmu.zero.state = .running := running
    simp only [on, true_and, if_true]
    rfl
  case restart => exact (if_pos hs).trans (congrArg _ (serveDispatch_of_takes ht))

end Sys2Proof.Machine
end

section
/-! What the windows and the tails teach (O27): the gain's and the tail time's corrections, the leak and solo counts, and the
windows of a running zero. -/

namespace Sys2Proof.Machine

/-! ### Corrections -/

/-- A truncated quotient is of the sign of its dividend. -/
theorem tdiv_sign {a b : Int} (hb : 0 ≤ b) : (0 ≤ a → 0 ≤ a.tdiv b) ∧ (a ≤ 0 → a.tdiv b ≤ 0) := by
  refine ⟨fun h => Int.tdiv_nonneg h hb, fun h => ?_⟩
  have up := Int.tdiv_nonneg (Int.neg_nonneg.mpr h) hb
  rw [Int.neg_tdiv] at up
  omega

/-- A quarter of a difference, truncated, lies between 0 and the difference. -/
theorem tdiv_four_between (a : Int) : (0 ≤ a → 0 ≤ a.tdiv 4 ∧ a.tdiv 4 ≤ a) ∧ (a ≤ 0 → a ≤ a.tdiv 4 ∧ a.tdiv 4 ≤ 0) := by
  constructor
  · intro h
    rw [Int.tdiv_eq_ediv_of_nonneg h]
    omega
  · intro h
    obtain ⟨y, rfl⟩ : ∃ y, a = -y := ⟨-a, by omega⟩
    rw [Int.neg_tdiv, Int.tdiv_eq_ediv_of_nonneg (by omega)]
    omega

/-- The correction of a gain, before it is limited (R49). -/
def gainCorrection (g f q : Nat) : Int := ((g : Int) * ((f : Int) - q)).tdiv (16 * q)

theorem correctedGain_eq (g f q : Nat) : (correctedGain g f q : Int) = max 4096 (min 262143 ((g : Int) +
    max (-((g / 64 : Nat) : Int)) (min ((g / 64 : Nat) : Int) (gainCorrection g f q)))) :=
  Int.toNat_of_nonneg (by unfold clamp; omega)

theorem gainCorrection_sign (g f q : Nat) : (q ≤ f → 0 ≤ gainCorrection g f q) ∧ (f ≤ q → gainCorrection g f q ≤ 0) := by
  obtain ⟨up, down⟩ := tdiv_sign (a := (g : Int) * ((f : Int) - q)) (b := 16 * q) (by omega)
  exact ⟨fun h => up (Int.mul_nonneg (by omega) (by omega)),
    fun h => down (Int.mul_nonpos_of_nonneg_of_nonpos (by omega) (by omega))⟩

/-- A gain correction stays within one 64th and within the range, towards the measured rate (R49). -/
theorem correctedGain_bounds {g f q : Nat} (low : 4096 ≤ g) (high : g ≤ 262143) :
    correctedGain g f q ≤ g + g / 64 ∧ g ≤ correctedGain g f q + g / 64 ∧
      (q ≤ f → g ≤ correctedGain g f q) ∧ (f ≤ q → correctedGain g f q ≤ g) := by
  have eq := correctedGain_eq g f q
  obtain ⟨up, down⟩ := gainCorrection_sign g f q
  generalize gainCorrection g f q = d at eq up down
  generalize correctedGain g f q = c at eq
  refine ⟨by omega, by omega, fun h => ?_, fun h => ?_⟩
  · have := up h; omega
  · have := down h; omega

/-- A tail-learning step stays between the tail time and the observed one (R112). -/
theorem learnedTail_between {tau : Nat} {c : CutoffRecord} {d : Nat} (h : tau ≤ 4000) :
    let observed := ((d : Int) - c.dCut).toNat * 1000 / c.qCut
    (tau ≤ observed → tau ≤ learnedTail tau c d ∧ learnedTail tau c d ≤ observed) ∧
      (observed ≤ tau → observed ≤ learnedTail tau c d ∧ learnedTail tau c d ≤ tau) := by
  intro observed
  have eq : learnedTail tau c d = (clamp 0 4000 ((tau : Int) + ((observed : Int) - tau).tdiv 4)).toNat := rfl
  obtain ⟨up, down⟩ := tdiv_four_between ((observed : Int) - tau)
  rw [eq]
  unfold clamp
  generalize ((observed : Int) - tau).tdiv 4 = step at up down
  refine ⟨fun h => ?_, fun h => ?_⟩
  · have := up (by omega); omega
  · have := down (by omega); omega

/-! ### Gain learning (R48 to R50) -/

theorem get_only (i j : Spout) : (only i).get j = decide (j = i) := by
  simp only [only, PerSpout.get_set, PerSpout.get_all]
  by_cases h : j = i <;> simp [h]

theorem eq_only_iff (x : PerSpout Bool) (i : Spout) : x = only i ↔ ∀ j, x.get j = decide (j = i) :=
  ⟨fun h j => h ▸ get_only i j, fun h => PerSpout.ext_get fun j => (h j).trans (get_only i j).symm⟩

/-- The conditions of a learning step and of its span rate, as the statement spells them (R48, R49). -/
theorem learnsAt_iff (mode : Mode) (s : State) (i : Spout) :
    learnsAt mode s i = true ↔ s.pm.working.learnEnable = true ∧ mode = .gravimetric ∧
      (s.pm.working.rateSpan ≤ s.bmu.ring.length ∧
        ∀ e ∈ s.bmu.ring.drop (s.bmu.ring.length - s.pm.working.rateSpan), ∀ j, e.flowing.get j = decide (j = i)) ∧
      s.pm.working.rateSpan ≤ (sensorOf s i).solo ∧ (sensorOf s i).driftSuspended = false := by
  simp only [learnsAt, soloSpan, Bool.and_eq_true, decide_eq_true_eq, List.all_eq_true, Bool.not_eq_true', eq_only_iff,
    and_assoc]
  rfl

/-- A SENSOR DRIFT report on the latch and on the load, written as one record (R50, R135, R136). -/
theorem sensorDrift_eq (i : Spout) (s : State) : sensorDrift i s = { s with
    lm := { s.lm with
      latch := s.lm.latch.set i (latchAfter (s.lm.latch.get i) .sensorDrift (loadOf s i))
      slot := match loadOf s i with
        | some l => s.lm.slot.set i
          (some { l with drift := true, firstFault := some (l.firstFault.getD .sensorDrift) })
        | none => s.lm.slot } } := by
  unfold sensorDrift noteLoadFault
  rw [latchFault_eq, show loadOf (s.withLm { s.lm with
    latch := s.lm.latch.set i (latchAfter (s.lm.latch.get i) .sensorDrift (loadOf s i)) }) i = loadOf s i from rfl]
  cases loadOf s i <;> rfl

/-- A learning step inside the band corrects the gain; outside it, it reports a drift and is suspended (R49, R50). -/
theorem learnGain_of_learns {mode : Mode} {f : Nat} {i : Spout} {s : State}
    (learns : learnsAt mode s i = true ∧ 20000 ≤ spanRate (working s) s.bmu.ring i) :
    let q := spanRate (working s) s.bmu.ring i
    learnGain mode f i s = if 32768 ≤ f * 65536 / q ∧ f * 65536 / q ≤ 131072 then
        setWorking (setSensor s i { sensorOf s i with solo := 0 })
          { working s with spoutGain := (working s).spoutGain.set i (correctedGain ((working s).spoutGain.get i) f q) }
      else sensorDrift i (setSensor s i { sensorOf s i with solo := 0, driftSuspended := true }) := by
  intro q
  have twice : ∀ x y, setSensor (setSensor s i x) i y = setSensor s i y := fun x y => by
    simp only [setSensor, State.withSsu_ssu, PerSpout.set_set]
    rfl
  unfold learnGain
  dsimp only
  rw [if_pos learns, sensorOf_setSensor_same, twice]

/-! ### The leak judgement (R51, R52) -/

theorem leakJudged_of_gap (w : Params) {x : Sensor} (h : x.impactGapMark = true) : leakJudged w x = x := if_pos h

/-- With the alarm clear a judged window counts towards setting it. -/
theorem leakJudged_of_clear (w : Params) {x : Sensor} (gap : x.impactGapMark = false) (alarm : x.leakAlarm = false) :
    leakJudged w x = if x.feedbackOpenMark = false ∧ w.leakFlow ≤ meanRate w x then
      (if 9 ≤ x.leakSet then { x with leakAlarm := true, leakSet := 0, leakClear := 0 }
        else { x with leakSet := x.leakSet + 1 }) else { x with leakSet := 0 } := by
  by_cases leaks : x.feedbackOpenMark = false ∧ w.leakFlow ≤ meanRate w x
  · by_cases tenth : 9 ≤ x.leakSet <;> simp [leakJudged, leakCounts, gap, alarm, leaks, tenth]
  · have quiet : (!x.feedbackOpenMark && decide (w.leakFlow ≤ meanRate w x)) = false := by simpa using leaks
    simp [leakJudged, leakCounts, gap, alarm, leaks, quiet]

/-- With the alarm set a quiet window counts towards clearing it. -/
theorem leakJudged_of_alarm (w : Params) {x : Sensor} (gap : x.impactGapMark = false) (alarm : x.leakAlarm = true) :
    leakJudged w x = if w.leakFlow ≤ meanRate w x then { x with leakClear := 0 }
      else if 9 ≤ x.leakClear then { x with leakAlarm := false, leakSet := 0, leakClear := 0 }
      else { x with leakClear := x.leakClear + 1 } := by
  by_cases flows : w.leakFlow ≤ meanRate w x
  · simp [leakJudged, leakCounts, gap, alarm, flows]
  · by_cases tenth : 9 ≤ x.leakClear <;> simp [leakJudged, leakCounts, gap, alarm, flows, tenth]

theorem leakJudged_solo (w : Params) (x : Sensor) : (leakJudged w x).solo = x.solo := by
  unfold leakJudged leakCounts
  dsimp only
  repeat' split
  all_goals rfl

/-! ### The solo counter (R47) -/

theorem soloWindow_iff (s : State) (i : Spout) : soloWindow s i = true ↔
    (∀ j, (working s).leakFlow ≤ meanRate (working s) (sensorOf s j) ↔ j = i) ∧ (sensorOf s i).count = 10 ∧
      ∀ j, (sensorOf s j).substitutedMark = false := by
  simp only [soloWindow, Bool.and_eq_true, decide_eq_true_eq, List.all_eq_true, mem_allSpouts, true_imp_iff,
    Bool.not_eq_true', eq_only_iff, and_assoc]
  simp only [flowingSet, PerSpout.get_of, decide_eq_decide]

/-! ### A running zero (R36, R37) -/

/-- A zero's operation with a used window's counts added. -/
def ZeroOp.used (z : ZeroOp) (raw : Int) (good : Nat) : ZeroOp :=
  { z with windowCount := z.windowCount + 1, rawSum := z.rawSum + raw, sampleCount := z.sampleCount + good }

theorem zeroWindow_of_unused {e : Entry} (h : ¬ (e.valid = true ∧ e.disturbed = false)) (raw : Int) (good : Nat)
    (s : State) : zeroWindow e raw good s = abortZero s := if_neg (by simpa using h)

theorem zeroWindow_of_used {e : Entry} (h : e.valid = true ∧ e.disturbed = false) (raw : Int) (good : Nat) (s : State) :
    zeroWindow e raw good s = if 20 ≤ s.bmu.zero.windowCount + 1 then
        bscZeroEnded (bmuEmptyHistory ((setWorking s { working s with
          binZero := (s.bmu.zero.rawSum + raw).tdiv (s.bmu.zero.sampleCount + good : Nat) }).withBmu
            { s.bmu with zero := { s.bmu.zero.used raw good with state := .done } }))
      else s.withBmu { s.bmu with zero := s.bmu.zero.used raw good } := if_pos (by simpa using h)

/-- The end of a zero clears its record and, with BLIND gone too, SUSPENDED (R162). -/
theorem bscZeroEnded_eq (s : State) : bscZeroEnded s = s.withBsc { s.bsc with
    zeroRecord := false, state := (bscZeroEnded s).bsc.state } := by
  unfold bscZeroEnded leaveSuspended
  split <;> rfl

/-- Settles O27, from the equations above of each step. -/
theorem learningLeakAndZeroSteps : Obligations.LearningLeakAndZeroSteps := by
  refine ⟨fun g f q low high _ => ?gain, fun mode f i s => ?learning, fun tau c d h _ => ?tail, fun w x => ?leak,
    fun s i => ?completion, fun e raw good s running => ?zero⟩
  case gain =>
    obtain ⟨least, most⟩ := BinClosed.correctedGain_range g f q
    obtain ⟨above, below, up, down⟩ := correctedGain_bounds (f := f) (q := q) low high
    exact ⟨least, most, above, below, up, down, correctedGain_eq g f q⟩
  case learning =>
    intro w x span q learns banded t
    have learns_iff : learnsAt mode s i = true ∧ 20000 ≤ spanRate (working s) s.bmu.ring i ↔ learns := by
      rw [learnsAt_iff]
      exact ⟨fun ⟨⟨on, mode, alone, solo, free⟩, fast⟩ => ⟨on, mode, alone, solo, free, fast⟩,
        fun ⟨on, mode, alone, solo, free, fast⟩ => ⟨⟨on, mode, alone, solo, free⟩, fast⟩⟩
    refine ⟨fun h => if_neg (mt learns_iff.mp h), fun h band => ?_, fun h band => ?_⟩
    · exact (learnGain_of_learns (learns_iff.mpr h)).trans (if_pos band)
    · refine ((learnGain_of_learns (learns_iff.mpr h)).trans (if_neg band)).trans ?_
      rw [sensorDrift_eq]
      rfl
  case tail => exact ⟨GateClosed.learnedTail_le tau c d, learnedTail_between h⟩
  case leak =>
    intro flows
    refine ⟨leakJudged_of_gap w, fun gap alarm => ⟨fun h => ?_, fun h => ?_⟩, fun gap alarm => ⟨fun h => ?_, fun h => ?_⟩⟩
    · exact (leakJudged_of_clear w gap alarm).trans (if_pos h)
    · exact (leakJudged_of_clear w gap alarm).trans (if_neg h)
    · exact (leakJudged_of_alarm w gap alarm).trans (if_neg h)
    · exact (leakJudged_of_alarm w gap alarm).trans (if_pos h)
  case completion =>
    intro w x flows solo cleared t
    have solo_iff : soloWindow s i = true ↔ solo := soloWindow_iff s i
    have completed : sensorOf t i = cleared (if soloWindow s i then satAdd 255 (leakJudged w x).solo 1 else 0) :=
      sensorOf_ssuComplete s i
    rw [completed, leakJudged_solo]
    exact ⟨rfl, fun h => congrArg cleared (if_pos (solo_iff.mpr h)),
      fun h => congrArg cleared (if_neg (mt solo_iff.mp h))⟩
  case zero =>
    intro z used t
    refine ⟨fun h more => ?_, fun h last => ?_, fun h => ?_⟩
    · exact (zeroWindow_of_used h raw good s).trans (if_neg (by show ¬ 20 ≤ z.windowCount + 1; omega))
    · have done := (zeroWindow_of_used h raw good s).trans (if_pos (Nat.succ_le_succ last))
      have ended : t = _ := done
      rw [ended, bscZeroEnded_eq, bmuEmptyHistory_eq]
      exact ⟨rfl, rfl, rfl, rfl, rfl⟩
    · have aborted : t = abortZero s := zeroWindow_of_unused h raw good s
      rw [aborted, abortZero_eq]
      simp only [running, if_true, and_self]

end Sys2Proof.Machine
end

section
/-! The parts of a window's tenth position (R21, R24, R25): the flows and masses beside the close in each of their orders,
and what the close hands on to the OAU, the BSC and the refill (O21). -/

namespace Sys2Proof.Machine

/-! ### The flows and masses beside a close -/

/-- The working values but for a tail time, the BMU and the refill stand, whatever tails end. -/
structure TailStands (s t : State) : Prop where
  working : t.pm.working = { s.pm.working with tailMs := t.pm.working.tailMs }
  bmu : t.bmu = { s.bmu with mode := t.bmu.mode, refillMark := t.bmu.refillMark }
  refill : RefillStands s t

theorem TailStands.trans {s t u : State} (h : TailStands s t) (k : TailStands t u) : TailStands s u where
  working := by rw [k.working, h.working]
  bmu := by rw [k.bmu, h.bmu]
  refill := h.refill.trans k.refill

theorem BinStands.tailStands {s t : State} (h : BinStands s t) : TailStands s t :=
  ⟨by rw [h.working], h.bmu, h.refill⟩

theorem allGateFlows_tailStands (fl : PerSpout Flow) (s : State) : TailStands s (eachSpout (gateFlows fl) s) := by
  have closed : GateClosed (TailStands s) :=
    { stands := fun stands h => h.trans stands.tailStands
      tail := fun i _ _ h => h.trans ⟨rfl, rfl, .refl _⟩ }
  exact closed.allGateFlows fl (BinStands.refl s).tailStands

/-- The reports, the pending parts and the loads they name stand. -/
structure CreditStands (s t : State) : Prop where
  numbers : ∀ i, (loadOf t i).map Load.number = (loadOf s i).map Load.number
  reports : t.oau.reports = s.oau.reports
  pending : t.oau.pending = s.oau.pending

theorem CreditStands.trans {s t u : State} (h : CreditStands s t) (k : CreditStands t u) : CreditStands s u where
  numbers i := (k.numbers i).trans (h.numbers i)
  reports := k.reports.trans h.reports
  pending := k.pending.trans h.pending

/-- Flows and masses of a position beside the close: the open parts take `grams`, and where no tail runs (`still`) the
credits stand. -/
structure FlowStands (still : Prop) (grams : Spout → Nat) (s t : State) : Prop
    extends QuietKeeps grams 0 s t, TailStands s t where
  credit : still → CreditStands s t
  carry : still → s.bsc.state ≠ .deferred → t.oau.carry = s.oau.carry

theorem FlowStands.trans {still : Prop} {g h : Spout → Nat} {s t u : State} (hs : FlowStands still g s t)
    (ht : FlowStands still h t u) : FlowStands still (fun i => g i + h i) s u :=
  { hs.toQuietKeeps.trans ht.toQuietKeeps, hs.toTailStands.trans ht.toTailStands with
    credit := fun n => (hs.credit n).trans (ht.credit n)
    carry := fun n shut => (ht.carry n (hs.refill.state shut ▸ shut)).trans (hs.carry n shut) }

theorem FlowStands.refl (still : Prop) (s : State) : FlowStands still (fun _ => 0) s s :=
  { (GateKeeps.refl [] s).quiet, (BinStands.refl s).tailStands with
    credit := fun _ => ⟨fun _ => rfl, rfl, rfl⟩
    carry := fun _ _ => rfl }

theorem FlowStands.masses (still : Prop) (fl : PerSpout Flow) (s : State) :
    FlowStands still (fun i => (fl.get i).grams) s (oauPosition fl s) :=
  { oauPosition_quiet fl s, (oauPosition_binStands fl s).tailStands with
    credit := fun _ => ⟨fun _ => rfl, rfl, rfl⟩
    carry := fun _ _ => rfl }

theorem gateFlows_windowStands {fl : PerSpout Flow} {i : Spout} {s : State} (tail : (gateOf s i).tail = none) :
    WindowStands s (gateFlows fl i s) := by
  unfold gateFlows
  dsimp only
  rw [tail]
  exact ((setGate_windowStands s i _).trans (.ite (cutoffCheck_windowStands i _ _) (.refl _))).trans
    (blindStep_windowStands i _)

theorem allGateFlows_windowStands {fl : PerSpout Flow} {s : State} (tails : ∀ i, (gateOf s i).tail = none) :
    WindowStands s (eachSpout (gateFlows fl) s) := by
  have other : ∀ {i j} t, j ≠ i → (gateOf t j).tail = none → (gateOf (gateFlows fl i t) j).tail = none :=
    fun t h n => ((gateFlows_gateKeeps fl _ t).stays _ (by simpa using h)).1.trans n
  have first := gateFlows_windowStands (fl := fl) (tails .A)
  have second := gateFlows_windowStands (fl := fl) (i := .B) (s := gateFlows fl .A s) (other s (by decide) (tails .B))
  have third := gateFlows_windowStands (fl := fl) (i := .C) (s := gateFlows fl .B (gateFlows fl .A s))
    (other _ (by decide) (other s (by decide) (tails .C)))
  exact (first.trans second).trans third

theorem FlowStands.gates {still : Prop} (fl : PerSpout Flow) {s : State}
    (tails : still → ∀ i, (gateOf s i).tail = none) :
    FlowStands still (fun _ => 0) s (eachSpout (gateFlows fl) s) :=
  { (eachSpout_gateFlows_gateKeeps fl s).quiet, allGateFlows_tailStands fl s with
    credit := fun n => by
      have stands := allGateFlows_windowStands (fl := fl) (tails n)
      exact ⟨fun i => eachSpout_gateFlows_number (tails n i), by rw [stands.oau], by rw [stands.oau]⟩
    carry := fun n => (allGateFlows_windowStands (tails n)).carry }

/-- In each order of a position's parts some of its flows and masses come before the window's part and the rest after
(R92, R96, R98). -/
theorem pathOrder_flows {still : Prop} (o : Sched) (p : PositionIn) (fl : PerSpout Flow) {s : State}
    (tails : still → ∀ i, (gateOf s i).tail = none) : ∃ g h b, (∀ i, g i + h i = (fl.get i).grams) ∧
      FlowStands still g s b ∧ FlowStands still h (bmuPosition p b) (pathOrder o p fl s) := by
  have kept : ∀ t, (∀ i, (gateOf t i).tail = none) → ∀ i, (gateOf (bmuPosition p t) i).tail = none :=
    fun t n i => ((bmuPosition_blockKeeps p t).stays i List.not_mem_nil).1.trans (n i)
  have masses := FlowStands.masses still fl
  unfold pathOrder
  split
  · exact ⟨_, _, _, fun i => rfl, (masses s).trans (.gates fl tails), .refl still _⟩
  · exact ⟨fun i => 0 + (fl.get i).grams, fun _ => 0, _, fun i => Nat.zero_add _,
      (FlowStands.gates fl tails).trans (masses _), .refl still _⟩
  · exact ⟨_, _, _, fun i => rfl, masses s, .gates fl fun n => kept _ (tails n)⟩
  · exact ⟨fun _ => 0, fun i => 0 + (fl.get i).grams, s, fun i => by simp, .refl still s,
      (FlowStands.gates fl fun n => kept _ (tails n)).trans (masses _)⟩

/-! ### What a close hands on -/

/-- What the parts of a close after the OAU's leave: the SSU's sums, and the OAU but for what a change of mode moves. -/
structure LaterStands (s t : State) : Prop where
  sums : ∀ i, (sensorOf t i).massSum = (sensorOf s i).massSum ∧ (sensorOf t i).count = (sensorOf s i).count
  oau : t.oau = { s.oau with modeRecord := t.oau.modeRecord, carry := t.oau.carry }

theorem LaterStands.refl (s : State) : LaterStands s s := ⟨fun _ => ⟨rfl, rfl⟩, rfl⟩

theorem LaterStands.trans {s t u : State} (h : LaterStands s t) (k : LaterStands t u) : LaterStands s u where
  sums i := ⟨(k.sums i).1.trans (h.sums i).1, (k.sums i).2.trans (h.sums i).2⟩
  oau := by rw [k.oau, h.oau]

theorem WindowStands.later {s t : State} (h : WindowStands s t) : LaterStands s t :=
  ⟨fun i => by rw [h.sensors i]; exact ⟨rfl, rfl⟩, h.oau⟩

theorem eachSpout_later {f : Spout → State → State} (hf : ∀ i t, LaterStands t (f i t)) (s : State) :
    LaterStands s (eachSpout f s) := ((hf .A s).trans (hf .B _)).trans (hf .C _)

theorem setSensor_later (s : State) (i : Spout) {x : Sensor} (sum : x.massSum = (sensorOf s i).massSum)
    (count : x.count = (sensorOf s i).count) : LaterStands s (setSensor s i x) := by
  refine ⟨fun j => ?_, rfl⟩
  by_cases h : j = i
  · subst h; rw [sensorOf_setSensor_same]; exact ⟨sum, count⟩
  · rw [sensorOf_setSensor_other s x h]; exact ⟨rfl, rfl⟩

/-- A learning step moves a gain, or reports a drift (R49, R50). -/
theorem learnGain_later (mode : Mode) (f : Nat) (i : Spout) (s : State) :
    LaterStands s (learnGain mode f i s) ∧ RefillStands s (learnGain mode f i s) := by
  by_cases learns : learnsAt mode s i = true ∧ 20000 ≤ spanRate (working s) s.bmu.ring i
  · have solo := setSensor_later s i (x := { sensorOf s i with solo := 0 }) rfl rfl
    have suspended := setSensor_later s i (x := { sensorOf s i with solo := 0, driftSuspended := true }) rfl rfl
    rw [learnGain_of_learns learns]
    split
    · exact ⟨⟨solo.sums, rfl⟩, .refl s⟩
    · exact ⟨suspended.trans (sensorDrift_windowStands i _).later, (sensorDrift_windowStands i _).refill⟩
  · rw [show learnGain mode f i s = s from if_neg learns]
    exact ⟨.refl s, .refl s⟩

/-- The mode as the valve moves it: its opening to REFILLING, its closing from there to SETTLING (R31). -/
def ValveMoves (s t : State) : Prop :=
  (t.bmu.mode = if t.bsc.state = .opened ∧ s.bsc.state ≠ .opened then .refilling
    else if t.bsc.state ≠ .opened ∧ s.bsc.state = .opened ∧ s.bmu.mode = .refilling then .settling else s.bmu.mode) ∧
  (s.bsc.state = .opened → t.bsc.state ≠ .deferred)

theorem ValveMoves.of_same {s t : State} (mode : t.bmu.mode = s.bmu.mode)
    (state : t.bsc.state = .opened ↔ s.bsc.state = .opened) : ValveMoves s t := by
  refine ⟨?_, fun opened => by simp [state.mpr opened]⟩
  rw [mode, if_neg fun h => h.2 (state.mp h.1), if_neg fun h => h.1 (state.mpr h.2.1)]

theorem ValveMoves.of_opens {s t : State} (mode : t.bmu.mode = .refilling) (before : s.bsc.state ≠ .opened)
    (after : t.bsc.state = .opened) : ValveMoves s t :=
  ⟨by rw [if_pos ⟨after, before⟩, mode], fun opened => absurd opened before⟩

/-- Reports after the valve's move may open a deferred valve (R159). -/
theorem ValveMoves.then {s t u : State} (h : ValveMoves s t) (k : RefillStands t u) (sighted : t.bmu.mode ≠ .blind) :
    ValveMoves s u := by
  rcases k with ⟨-, mode, -, state⟩ | ⟨deferred, opened, -, mode⟩
  · unfold ValveMoves
    rw [mode, state]
    exact h
  · exact .of_opens (mode sighted) (fun before => h.2 before deferred) opened

theorem refillTests_later (w : Params) (level : Int) (s : State) : LaterStands s (refillTests w level s) := by
  have opens : LaterStands s (openValve s) := by rw [openValve_eq]; exact ⟨fun _ => ⟨rfl, rfl⟩, rfl⟩
  have closes : LaterStands s (closeValve .idle s) := by rw [closeValve_eq]; exact ⟨fun _ => ⟨rfl, rfl⟩, rfl⟩
  have waits : ∀ x : Bsc, LaterStands s (s.withBsc x) := fun x => ⟨fun _ => ⟨rfl, rfl⟩, rfl⟩
  unfold refillTests
  split
  · split
    · split
      · exact waits _
      · exact opens
    · exact .refl s
  · split
    · exact opens
    · split
      · exact waits _
      · exact .refl s
  · split
    · exact closes
    · exact .refl s
  · exact .refl s

/-- The level tests move the mode with the valve (R31, R158 to R160). -/
theorem refillTests_valveMoves (w : Params) (level : Int) {s : State} (sighted : s.bmu.mode ≠ .blind) :
    ValveMoves s (refillTests w level s) := by
  have opens : s.bsc.state ≠ .opened → ValveMoves s (openValve s) := fun shut => by
    rw [openValve_eq]
    exact .of_opens (if_neg sighted) shut rfl
  have still : ValveMoves s s := .of_same rfl .rfl
  unfold refillTests
  split
  · next idle =>
    split
    · split
      · exact .of_same rfl (by simp [idle])
      · exact opens (by simp [idle])
    · exact still
  · next deferred =>
    split
    · exact opens (by simp [deferred])
    · split
      · exact .of_same rfl (by simp [deferred])
      · exact still
  · next opened =>
    split
    · rw [closeValve_eq]
      exact ⟨by simp [opened], fun _ => nofun⟩
    · exact still
  · exact still

theorem bscClose_later (s : State) : LaterStands s (bscClose s) := by
  unfold bscClose
  split
  · exact .refl s
  · next level _ =>
    have judged := withBsc_windowStands (s := s)
      (x := { s.bsc with starved := starveAfter (working s) level s.bsc.starved }) rfl rfl
    exact (judged.later.trans (refillTests_later (working s) level _)).trans
      (WindowStands.ite (.refl _) (reportStarve_windowStands _)).later

theorem bscClose_valveMoves {s : State} (sighted : s.bmu.mode ≠ .blind) : ValveMoves s (bscClose s) := by
  unfold bscClose
  split
  · exact .of_same rfl .rfl
  · next level _ =>
    let judged := s.withBsc { s.bsc with starved := starveAfter (working s) level s.bsc.starved }
    have tests : ValveMoves s (refillTests (working s) level judged) :=
      refillTests_valveMoves (s := judged) (working s) level sighted
    have sees := mt (refillTests_closeKeeps (working s) level judged).blind.mp sighted
    exact tests.then (BinStands.ite (.refl _) (reportStarve_windowStands _).bin).refill sees

/-- After the OAU's part a close keeps its credits and the sums. -/
theorem windowHandedOn_later (e : Entry) (s : State) :
    LaterStands (oauClose e s.bmu.mode s.bmu.f s) (windowHandedOn e s) :=
  (((eachSpout_later (fun i t => (learnGain_later s.bmu.mode s.bmu.f i t).1) _).trans
    (eachSpout_windowStands windowStep_windowStands _).later).trans (bscClose_later _)).trans
    (settle_windowStands _).later

/-- The parts of a close move the mode with the valve (R31). -/
theorem windowHandedOn_valveMoves (e : Entry) {s : State} (sighted : s.bmu.mode ≠ .blind)
    (shut : s.bsc.state ≠ .deferred) : ValveMoves s (windowHandedOn e s) := by
  let v := eachSpout windowStep (eachSpout (learnGain s.bmu.mode s.bmu.f) (oauClose e s.bmu.mode s.bmu.f s))
  have learned := fun i t => (learnGain_later s.bmu.mode s.bmu.f i t).2
  have before : RefillStands s v :=
    ((oauClose_binStands e _ _ s).refill.trans (((learned .A _).trans (learned .B _)).trans (learned .C _))).trans
      (eachSpout_windowStands windowStep_windowStands _).refill
  obtain ⟨-, mode, -, state⟩ | ⟨deferred, -⟩ := before
  · have tested := bscClose_valveMoves (s := v) (mode ▸ sighted)
    have moved : ValveMoves s (bscClose v) := by
      unfold ValveMoves at tested ⊢
      rwa [mode, state] at tested
    exact moved.then (settle_windowStands _).refill (mt (bscClose_closeKeeps v).blind.mp (mode ▸ sighted))
  · exact absurd deferred shut

/-! ### The OAU's part of a close -/

/-- The credits of a window: the shares of the quantum where its entry is CLEAN and the mode GRAVIMETRIC, else the masses
(R57, R61). -/
def windowCredits (w : Params) (e : Entry) (mode : Mode) (f carry : Nat) : PerSpout Nat :=
  if e.clean ∧ mode = .gravimetric then
    if totalMass e.m = 0 then .all 0 else gravimetricCredits (quantumNumerator w f carry / 1000000) e.m
  else e.m

/-- A close of the OAU is the report of its credits and the exchange of the parts, after writes to the carry and the
account (R57 to R61, R66). -/
theorem oauClose_parts (e : Entry) (mode : Mode) (f : Nat) (s : State) :
    ∃ x : Oau, x.reports = s.oau.reports ∧ x.openPart = s.oau.openPart ∧
      oauClose e mode f s = oauParts e.m (oauReport (decide (e.clean ∧ mode = .gravimetric))
        (windowCredits (working s) e mode f s.oau.carry) (s.withOau x)) := by
  by_cases weighs : e.clean ∧ mode = .gravimetric
  · have carry : (oauModeReport mode s).oau.carry = s.oau.carry := if_neg fun h => h.2 weighs.2
    let n := quantumNumerator (working s) f s.oau.carry
    let credits := if totalMass e.m = 0 then .all 0 else gravimetricCredits (n / 1000000) e.m
    refine ⟨{ s.oau with
      modeRecord := mode
      carry := n % 1000000
      unassigned := satAdd maxUnassigned s.oau.unassigned (unassignedOf s (n / 1000000) e.m credits) }, rfl, rfl, ?_⟩
    rw [oauClose, if_pos weighs, oauGravimetric, carry, windowCredits, if_pos weighs, decide_eq_true weighs]
    rfl
  · refine ⟨(oauModeReport mode s).oau, rfl, rfl, ?_⟩
    rw [oauClose, if_neg weighs, windowCredits, if_neg weighs, decide_eq_false weighs]
    rfl

theorem creditFor_none_iff (s : State) (credits : PerSpout Nat) :
    PerSpout.of (creditFor s credits) = .all none ↔ ∀ i, loadOf s i = none := by
  constructor
  · intro h i
    have none : creditFor s credits i = none := by rw [← PerSpout.get_of (creditFor s credits) i, h]; cases i <;> rfl
    exact Option.map_eq_none_iff.mp none
  · intro h
    simp only [PerSpout.of, creditFor, h]
    rfl

/-- A report is kept where it names a load (log 16). -/
theorem oauReport_reports (g : Bool) (credits : PerSpout Nat) (s : State) :
    ((∀ i, loadOf s i = none) → (oauReport g credits s).oau.reports = s.oau.reports) ∧
      ((∃ i, loadOf s i ≠ none) → (oauReport g credits s).oau.reports =
        s.oau.reports ++ [{ gravimetric := g, credits := .of (creditFor s credits) }]) := by
  have named := creditFor_none_iff s credits
  refine ⟨fun empty => ?_, fun ⟨i, open_⟩ => ?_⟩
  · rw [oauReport, if_pos (named.mpr empty)]
  · rw [oauReport, if_neg fun h => open_ (named.mp h i)]
    rfl

end Sys2Proof.Machine
end

section
/-! The tenth position of an accepted frame (O21): the credits that a close hands on, the entry of the window it fills, and
the state after the frame that closes it. -/

namespace Sys2Proof.Machine

/-! ### What a close hands on to the loads -/

/-- The parts, the pending parts and the report of a close (R57, R61, R66; log 16). -/
theorem windowHandedOn_credits (e : Entry) (s : State) :
    let t := windowHandedOn e s
    let report : WindowReport := {
      gravimetric := decide (e.clean ∧ s.bmu.mode = .gravimetric)
      credits := .of (creditFor s (windowCredits (working s) e s.bmu.mode s.bmu.f s.oau.carry)) }
    (∀ i, t.oau.openPart.get i = s.oau.openPart.get i - e.m.get i) ∧
    (∀ i, t.oau.pending.get i = (loadOf s i).map fun l => { mass := e.m.get i, load := l.number }) ∧
    ((∀ i, loadOf s i = none) → t.oau.reports = s.oau.reports) ∧
    ((∃ i, loadOf s i ≠ none) → t.oau.reports = s.oau.reports ++ [report]) := by
  intro t report
  obtain ⟨x, reports, openPart, parts⟩ := oauClose_parts e s.bmu.mode s.bmu.f s
  have later := (windowHandedOn_later e s).oau
  obtain ⟨unnamed, named⟩ := oauReport_reports (decide (e.clean ∧ s.bmu.mode = .gravimetric))
    (windowCredits (working s) e s.bmu.mode s.bmu.f s.oau.carry) (s.withOau x)
  rw [parts] at later
  generalize hv : oauReport (decide (e.clean ∧ s.bmu.mode = .gravimetric))
    (windowCredits (working s) e s.bmu.mode s.bmu.f s.oau.carry) (s.withOau x) = v at later unnamed named
  have kept : v.oau.openPart = s.oau.openPart ∧ ∀ i, loadOf v i = loadOf s i := by
    rw [← hv, oauReport]
    split <;> exact ⟨openPart, fun _ => rfl⟩
  refine ⟨fun i => ?_, fun i => ?_, fun n => ?_, fun n => ?_⟩
  · rw [later, ← kept.1]
    exact PerSpout.get_of _ i
  · rw [later, ← kept.2]
    exact PerSpout.get_of _ i
  · rw [later, ← reports]
    exact unnamed n
  · rw [later, ← reports]
    exact named n

theorem windowHandedOn_sums (e : Entry) (s : State) (i : Spout) :
    (sensorOf (windowHandedOn e s) i).massSum = (sensorOf s i).massSum ∧
      (sensorOf (windowHandedOn e s) i).count = (sensorOf s i).count := by
  obtain ⟨x, -, -, parts⟩ := oauClose_parts e s.bmu.mode s.bmu.f s
  have credited : sensorOf (oauClose e s.bmu.mode s.bmu.f s) i = sensorOf s i := by
    rw [parts, oauReport]
    split <;> rfl
  have later := (windowHandedOn_later e s).sums i
  rwa [credited] at later

/-! ### The entry -/

/-- The mass of a bin sample that a window counts (R22, R23). -/
def binCounted (w : Params) (good : Option Int) : Option Int :=
  match good with
  | some raw => if frameBinMass w raw ≤ capacityLimit w then some (frameBinMass w raw) else none
  | none => none

/-- A position's share of the window (R21, R22), written as one record. -/
theorem countPosition_eq (w : Params) (refill : Bool) (c : Channel) (good : Option Int) (b : Bmu) :
    let counted := countPosition w refill (markOf c good) b
    counted = { b with
      position := b.position + 1
      massSum := b.massSum + (binCounted w good).getD 0
      goodCount := b.goodCount + (if (binCounted w good).isSome then 1 else 0)
      refillMark := b.refillMark || refill
      rawSum := counted.rawSum
      zero := { b.zero with skipWindow := counted.zero.skipWindow } } := by
  cases good with
  | some raw =>
    simp only [countPosition, addBinSample, markOf, binCounted]
    split <;> simp
  | none =>
    have skipped : addBinSample w (markOf c none) = id := by
      funext x
      unfold markOf
      cases c.state <;> rfl
    simp [countPosition, skipped, binCounted]

theorem disturbanceCheck_iff (w : Params) (b : Bmu) : disturbanceCheck w b = true ↔
    ∃ f last, b.previous = some (.gravimetric, f) ∧ b.ring.getLast? = some last ∧ 6 ≤ b.goodCount ∧
      w.disturbG < (windowMean b - (last.mean - ((f * windowUs w / 1000000 : Nat) : Int))).natAbs := by
  unfold disturbanceCheck
  split
  · next previous last => simp [previous, last, windowValid]
  · next other =>
    refine ⟨nofun, fun ⟨f, last, previous, newest, _⟩ => absurd newest (other f last previous)⟩

/-- The entry with which the window in progress closes. -/
def windowEntry (s : State) : Entry := closingEntry (working s) s.bmu (windowMasses s) (flowingSet s)

/-! ### The tenth position of a frame -/

/-- The window with the position's bin sample counted in it. -/
def binTaken (p : PositionIn) (s : State) : State :=
  s.withBmu (countPosition (working s) s.sli.refillCommand p.bin s.bmu)

theorem binTaken_mode (p : PositionIn) (s : State) : (binTaken p s).bmu.mode = s.bmu.mode := by
  obtain ⟨-, -, -, mode⟩ := countPosition_window (working s) s.sli.refillCommand p.bin s.bmu
  exact mode

theorem bmuPosition_tenth (p : PositionIn) {s : State} (sighted : s.bmu.mode ≠ .blind) (tenth : s.bmu.position = 9) :
    bmuPosition p s = windowClose (binTaken p s) := by
  rw [bmuPosition_of_sighted p sighted, if_pos (by omega)]
  rfl

theorem GateKeeps.flowStands {still : Prop} {s t : State} (h : GateKeeps [] s t) (k : WindowStands s t) :
    FlowStands still (fun _ => 0) s t :=
  { h.quiet, k.bin.tailStands with
    credit := fun _ => ⟨fun i => (h.stays i List.not_mem_nil).2, by rw [k.oau], by rw [k.oau]⟩
    carry := fun _ => k.carry }

/-- Outside BLIND the hand-on of a frame moves no more than the link's record. -/
theorem frameTaken_flowStands {still : Prop} (f : InFrame) (n : Nat) {s : State} (sighted : s.bmu.mode ≠ .blind) :
    FlowStands still (fun _ => 0) s (frameTaken f n s) := by
  have stays : frameTaken f n s = takeSamples f (takeSequence n s) := if_neg fun left => sighted left.1
  rw [stays]
  exact {
    sensors := fun _ => rfl, openPart := fun i => (Int.add_zero _).symm, position := rfl, ring := rfl
    disturbedMark := rfl, blind := .rfl, blindRecord := rfl, valve := fun _ => ⟨rfl, rfl⟩
    working := rfl, bmu := rfl, refill := .inl ⟨rfl, rfl, rfl, rfl⟩
    credit := fun _ => ⟨fun _ => rfl, rfl, rfl⟩
    carry := fun _ _ => rfl }

theorem frameFormed_flowStands {still : Prop} (f : InFrame) (n : Nat) (o : Sched) {s : State}
    (sighted : s.bmu.mode ≠ .blind) : FlowStands still (fun _ => 0) s (frameFormed f n o s) :=
  ((frameTaken_flowStands f n sighted).trans ((settle_gateKeeps _).flowStands (settle_windowStands _))).trans
    ((flowsFormed_gateKeeps o _ _).flowStands (.ite (.refl _) (feedbackPosition_windowStands _ _)))

/-- The frame mass of spout `i` in an accepted frame (R42). -/
def frameGrams (f : InFrame) (n : Nat) (o : Sched) (s : State) (i : Spout) : Nat :=
  (flowOf (frameFormed f n o s) (positionOf f (settle (frameTaken f n s))) i).grams

theorem frameGrams_of_hold {f : InFrame} {n : Nat} {o : Sched} {s : State} (hold : s.pm.working.sensorPolicy = .hold)
    (i : Spout) :
    frameGrams f n o s i = (frameFlow f s i * s.pm.working.framePeriodUs + (sensorOf s i).carry) / 1000000 := by
  have formed := frameFormed_gateKeeps f n o s
  have carry : (sensorOf (frameFormed f n o s) i).carry = (sensorOf s i).carry := by
    rw [formed.sensors i, show sensorOf (frameTaken f n s) i = sensorOf s i by rw [sensorOf, frameTaken_ssu]; rfl]
  have policy : (frameFormed f n o s).pm.working.sensorPolicy = .hold := by rw [formed.pm, frameTaken_pm]; exact hold
  have period : (frameFormed f n o s).pm.working.framePeriodUs = s.pm.working.framePeriodUs := by
    rw [formed.pm, frameTaken_pm]
  show ((flowOf (frameFormed f n o s) _ i).effective * (working (frameFormed f n o s)).framePeriodUs + _) / _ = _
  rw [flowOf_effective policy, frameFormed_q, working, period, carry]

/-- `b` is `s` as its window's position is taken: the frame masses are in the sums, `taken` of them in the open parts. -/
structure TakenUp (still : Prop) (grams taken : Spout → Nat) (s b : State) : Prop extends TailStands s b where
  sums : ∀ i, (sensorOf b i).massSum = (sensorOf s i).massSum + grams i ∧ (sensorOf b i).count = (sensorOf s i).count + 1
  openPart : ∀ i, b.oau.openPart.get i = s.oau.openPart.get i + (taken i : Int)
  credit : still → CreditStands s b
  carry : still → s.bsc.state ≠ .deferred → b.oau.carry = s.oau.carry

/-- An accepted frame on the tenth place closes the window between the parts of its flows and masses (log 8). -/
theorem acceptFrame_tenth {still : Prop} (f : InFrame) (n : Nat) (o : Sched) {s : State} (sighted : s.bmu.mode ≠ .blind)
    (tenth : s.bmu.position = 9) (tails : still → ∀ i, (gateOf s i).tail = none) : ∃ g h b c,
      (∀ i, g i + h i = frameGrams f n o s i) ∧ TakenUp still (frameGrams f n o s) g s b ∧
      FlowStands still h (windowClose (binTaken (positionOf f c) b)) (acceptFrame f n o s) := by
  let p := positionOf f (settle (frameTaken f n s))
  let x := frameFormed f n o s
  let y := ssuPosition p x
  have formed : FlowStands still (fun _ => 0) s x := frameFormed_flowStands f n o sighted
  have tails' : still → ∀ i, (gateOf y i).tail = none := fun quiet i => by
    have kept := ((frameFormed_gateKeeps f n o s).stays i List.not_mem_nil).1
    rw [show gateOf (frameTaken f n s) i = gateOf s i by rw [gateOf, frameTaken_gate]; rfl] at kept
    exact kept.trans (tails quiet i)
  obtain ⟨g, h, b, split, before, after⟩ := pathOrder_flows o p (.of (flowOf x p)) (s := y) tails'
  have last : FlowStands still (fun _ => 0) (pathOrder o p (.of (flowOf x p)) y) (acceptFrame f n o s) :=
    (feedbackLast_gateKeeps o p _).flowStands (.ite (feedbackPosition_windowStands p _) (.refl _))
  have shut : s.bsc.state ≠ .deferred → y.bsc.state ≠ .deferred := fun n => (formed.refill.state n).symm ▸ n
  have formedCredit : still → CreditStands s y := fun quiet =>
    ⟨(formed.credit quiet).numbers, (formed.credit quiet).reports, (formed.credit quiet).pending⟩
  have sees : b.bmu.mode ≠ .blind := mt before.blind.mp (mt formed.blind.mp sighted)
  have place : b.bmu.position = 9 := (before.position.trans formed.position).trans tenth
  refine ⟨g, fun i => h i + 0, b, settle (frameTaken f n s), fun i => (split i).trans ?grams, ?taken, ?closed⟩
  case grams => rw [PerSpout.get_of]; rfl
  case closed =>
    rw [bmuPosition_tenth p sees place] at after
    exact after.trans last
  case taken =>
    refine { (formed.toTailStands.trans (ssuPosition_binStands p x).tailStands).trans before.toTailStands with
      sums := fun i => ?_
      openPart := fun i => ?_
      credit := fun quiet => (formedCredit quiet).trans (before.credit quiet)
      carry := fun quiet n => (before.carry quiet (shut n)).trans (formed.carry quiet n) }
    · rw [before.sensors i, sensorOf_ssuPosition]
      have mass : (sensorOf x i).massSum = (sensorOf s i).massSum := (congrArg Sensor.massSum (formed.sensors i) :)
      have count : (sensorOf x i).count = (sensorOf s i).count := (congrArg Sensor.count (formed.sensors i) :)
      exact ⟨congrArg (· + frameGrams f n o s i) mass, congrArg (· + 1) count⟩
    · rw [before.openPart i]
      exact congrArg (· + (g i : Int)) ((formed.openPart i).trans (Int.add_zero _))

/-- The BMU's part of the tenth position, as far as the window goes: `b` is the state that takes its sample. -/
theorem binTaken_bmu {f : InFrame} {c b s : State} (h : TailStands s b) :
    let u := binTaken (positionOf f c) b
    let counted := binCounted s.pm.working (sampleOf f.bin)
    u.bmu = { s.bmu with
      position := s.bmu.position + 1
      massSum := s.bmu.massSum + counted.getD 0
      goodCount := s.bmu.goodCount + (if counted.isSome then 1 else 0)
      refillMark := b.bmu.refillMark || b.sli.refillCommand
      mode := b.bmu.mode
      rawSum := u.bmu.rawSum
      zero := { s.bmu.zero with skipWindow := u.bmu.zero.skipWindow } } := by
  intro u counted
  have sample : binCounted (working b) (goodSample f.bin) = counted := by
    rw [goodSample_eq, working, h.working]; rfl
  have eq := countPosition_eq (working b) b.sli.refillCommand c.sli.bin (goodSample f.bin) b.bmu
  have taken : countPosition (working b) b.sli.refillCommand (markOf c.sli.bin (goodSample f.bin)) b.bmu = u.bmu := rfl
  rw [sample, taken] at eq
  clear_value u
  exact eq.trans (by rw [h.bmu])

/-- The entry of the window that a taken frame fills (R22 to R24, R43). -/
theorem windowEntry_of_takenUp {still : Prop} {grams taken : Spout → Nat} {b s : State} (f : InFrame) (c : State)
    (h : TakenUp still grams taken s b) :
    let w := s.pm.working
    let counted := binCounted w (sampleOf f.bin)
    let good := s.bmu.goodCount + (if counted.isSome then 1 else 0)
    let e := windowEntry (binTaken (positionOf f c) b)
    e.mean = (if good = 0 then 0 else (s.bmu.massSum + counted.getD 0).tdiv good) ∧ e.valid = decide (6 ≤ good) ∧
    (e.disturbed = true ↔ s.bmu.disturbedMark = true ∨ ∃ fOld last, s.bmu.previous = some (.gravimetric, fOld) ∧
      s.bmu.ring.getLast? = some last ∧ 6 ≤ good ∧
      w.disturbG < (e.mean - (last.mean - ((fOld * windowUs w / 1000000 : Nat) : Int))).natAbs) ∧
    (∀ i, e.m.get i = (sensorOf s i).massSum + grams i) ∧
    (∀ i, e.flowing.get i = decide
      (w.leakFlow ≤ e.m.get i * 1000000 / (((sensorOf s i).count + 1) * w.framePeriodUs))) := by
  intro w counted good e
  have bmu := binTaken_bmu (f := f) (c := c) h.toTailStands
  have working := h.working
  let u := binTaken (positionOf f c) b
  have mean : e.mean = windowMean u.bmu := rfl
  have disturbed : e.disturbed = (u.bmu.disturbedMark || disturbanceCheck u.pm.working u.bmu) := rfl
  have mass : ∀ i, e.m.get i = (sensorOf b i).massSum := PerSpout.get_of _
  refine ⟨?_, ?_, ?_, fun i => (mass i).trans (h.sums i).1, fun i => ?_⟩
  · rw [mean, bmu]
    rfl
  · show windowValid u.bmu = _
    rw [bmu]
    rfl
  · rw [disturbed, Bool.or_eq_true, disturbanceCheck_iff, mean, show u.pm.working = _ from working, bmu]
    rfl
  · rw [show e.flowing.get i = _ from PerSpout.get_of _ i, mass, ← (h.sums i).2]
    show decide (b.pm.working.leakFlow ≤ meanRate b.pm.working (sensorOf b i)) = _
    rw [working]
    rfl

/-! ### The close -/

theorem windowClose_of_idle {u : State} (idle : u.bmu.zero.state ≠ .running) :
    windowClose u = windowHandedOn (windowEntry u) (windowCompleted u) := by
  rw [windowClose_eq, if_neg fun h => idle h.1]
  rfl

theorem map_of_number {α : Type} {s t : State} {i : Spout}
    (h : (loadOf t i).map Load.number = (loadOf s i).map Load.number) (f : Nat → α) :
    (loadOf t i).map (fun l => f l.number) = (loadOf s i).map (fun l => f l.number) := by
  have same := congrArg (Option.map f) h
  rwa [Option.map_map, Option.map_map] at same

theorem loadOf_none_of_number {s t : State} {i : Spout}
    (h : (loadOf t i).map Load.number = (loadOf s i).map Load.number) : loadOf t i = none ↔ loadOf s i = none := by
  rw [← Option.map_eq_none_iff (f := Load.number), h, Option.map_eq_none_iff]

section
variable {still : Prop} {grams g h : Spout → Nat} {f : InFrame} {b c s t : State}

theorem binTaken_idle (taken : TakenUp still grams g s b) (idle : s.bmu.zero.state ≠ .running) :
    (binTaken (positionOf f c) b).bmu.zero.state ≠ .running := by
  rw [binTaken_bmu taken.toTailStands]
  exact idle

variable (taken : TakenUp still grams g s b) (idle : s.bmu.zero.state ≠ .running)
  (flow : FlowStands still h (windowClose (binTaken (positionOf f c) b)) t)
include taken idle flow

/-- After the frame the window is the completed one, but for the mode and the mark that the refill moves (R31). -/
theorem closed_bmu : t.bmu = { (windowCompleted (binTaken (positionOf f c) b)).bmu with
    mode := t.bmu.mode, refillMark := t.bmu.refillMark } := by
  have bmu := flow.bmu
  rw [windowClose_of_idle (binTaken_idle taken idle), (windowHandedOn_closeKeeps _ _).bmu] at bmu
  exact bmu

theorem closed_history : let e := windowEntry (binTaken (positionOf f c) b)
    t.bmu.ring = appendEntry s.bmu.ring e ∧ t.bmu.cleanRun = cleanRunAfter s.bmu.cleanRun e := by
  intro e
  have bmu := binTaken_bmu (f := f) (c := c) taken.toTailStands
  rw [closed_bmu taken idle flow]
  exact ⟨congrArg (appendEntry · e) (congrArg Bmu.ring bmu :),
    congrArg (cleanRunAfter · e) (congrArg Bmu.cleanRun bmu :)⟩

theorem closed_sums (i : Spout) : (sensorOf t i).massSum = 0 ∧ (sensorOf t i).count = 0 := by
  let u := binTaken (positionOf f c) b
  obtain ⟨sum, count⟩ := windowHandedOn_sums (windowEntry u) (windowCompleted u) i
  rw [flow.sensors i, windowClose_of_idle (binTaken_idle taken idle)]
  rw [windowCompleted, sensorOf_ssuComplete] at sum count
  exact ⟨sum, count⟩

/-- The mode and F of a close that no deferred refill moves beforehand (R26, R30, R32). -/
theorem closed_rate (shut : s.bsc.state ≠ .deferred) :
    let u := binTaken (positionOf f c) b
    let w := s.pm.working
    (windowCompleted u).bmu.mode = modeTest w s.bmu.mode (windowEntry u) t.bmu.cleanRun ∧
      (windowCompleted u).bmu.f = if (windowCompleted u).bmu.mode = .gravimetric then outflowRate w t.bmu.ring
        else s.bmu.f := by
  intro u w
  have working : u.pm.working = { w with tailMs := u.pm.working.tailMs } := taken.working
  have bmu := binTaken_bmu (f := f) (c := c) taken.toTailStands
  obtain ⟨-, kept, -, -⟩ := taken.refill.of_shut shut
  have mode : u.bmu.mode = s.bmu.mode := (binTaken_mode _ b).trans kept
  have rate : u.bmu.f = s.bmu.f := (congrArg Bmu.f bmu :)
  rw [closed_bmu taken idle flow]
  refine ⟨?_, ?_⟩
  · show modeTest u.pm.working u.bmu.mode _ _ = _
    rw [working, mode]
    rfl
  · show (if _ then outflowRate u.pm.working _ else u.bmu.f) = _
    rw [working, rate]
    rfl

/-- After the close the mode and the valve have moved together (R31). -/
theorem closed_valveMoves (sighted : s.bmu.mode ≠ .blind) (shut : s.bsc.state ≠ .deferred) :
    ValveMoves (windowCompleted (binTaken (positionOf f c) b)) t := by
  let u := binTaken (positionOf f c) b
  obtain ⟨-, kept, -, state⟩ := taken.refill.of_shut shut
  have mode : u.bmu.mode = s.bmu.mode := (binTaken_mode _ b).trans kept
  have sees : (windowCompleted u).bmu.mode ≠ .blind := mt (windowCompleted_blockKeeps u).blind.mp (mode ▸ sighted)
  have shut' : (windowCompleted u).bsc.state ≠ .deferred := fun n => shut (state.symm.trans n)
  have moves := windowHandedOn_valveMoves (windowEntry u) sees shut'
  have handed := windowHandedOn_closeKeeps (windowEntry u) (windowCompleted u)
  rw [← windowClose_of_idle (binTaken_idle taken idle)] at moves handed
  exact moves.then flow.refill (mt handed.blind.mp sees)

/-- What the close of a window and the frame about it do to the OAU with no tail running (R55, R57, R61, R66). -/
theorem closed_credits (split : ∀ i, g i + h i = grams i) (quiet : still) (shut : s.bsc.state ≠ .deferred) :
    let u := binTaken (positionOf f c) b
    let e := windowEntry u
    let done := (windowCompleted u).bmu
    let report : WindowReport := {
      gravimetric := decide (e.clean ∧ done.mode = .gravimetric)
      credits := .of (creditFor s (windowCredits s.pm.working e done.mode done.f s.oau.carry)) }
    (∀ i, t.oau.openPart.get i = s.oau.openPart.get i - ((sensorOf s i).massSum : Int)) ∧
    (∀ i, t.oau.pending.get i = (loadOf s i).map fun l => { mass := e.m.get i, load := l.number }) ∧
    ((∀ i, loadOf s i = none) → t.oau.reports = s.oau.reports) ∧
    ((∃ i, loadOf s i ≠ none) → t.oau.reports = s.oau.reports ++ [report]) := by
  intro u e done report
  obtain ⟨openPart, pending, unnamed, named⟩ := windowHandedOn_credits e (windowCompleted u)
  obtain ⟨-, -, -, mass, -⟩ := windowEntry_of_takenUp f c taken
  obtain ⟨numbers, reports, -⟩ := taken.credit quiet
  have after := flow.credit quiet
  have moved := flow.openPart
  have same : windowCredits (working (windowCompleted u)) e done.mode done.f (windowCompleted u).oau.carry =
      windowCredits s.pm.working e done.mode done.f s.oau.carry := by
    rw [show (windowCompleted u).oau.carry = s.oau.carry from taken.carry quiet shut,
      show working (windowCompleted u) = _ from taken.working]
    rfl
  have named_same : ∀ credits, creditFor (windowCompleted u) credits = creditFor s credits := fun credits =>
    funext fun i => map_of_number (numbers i) fun n => Credit.mk n (credits.get i)
  rw [windowClose_of_idle (binTaken_idle taken idle)] at after moved
  refine ⟨fun i => ?_, fun i => ?_, fun unopened => ?_, fun ⟨i, opened⟩ => ?_⟩
  · have before : (windowCompleted u).oau.openPart.get i = s.oau.openPart.get i + (g i : Int) := taken.openPart i
    rw [moved i, openPart i, mass i, before, ← split i]
    push_cast
    ring
  · rw [after.pending, pending i]
    exact map_of_number (numbers i) fun n => Pending.mk (e.m.get i) n
  · rw [after.reports, unnamed fun i => (loadOf_none_of_number (numbers i)).mpr (unopened i)]
    exact reports
  · rw [after.reports, named ⟨i, fun n => opened ((loadOf_none_of_number (numbers i)).mp n)⟩, same, named_same]
    exact congrArg (· ++ [report]) reports

/-- The refill's part of a close, where no deferred refill opens before it (R24, R31, R32). -/
theorem closed_refill (sighted : s.bmu.mode ≠ .blind) (shut : s.bsc.state ≠ .deferred) :
    let e := windowEntry (binTaken (positionOf f c) b)
    let done := (windowCompleted (binTaken (positionOf f c) b)).bmu
    e.refill = (s.bmu.refillMark || s.sli.refillCommand) ∧ t.bmu.previous = some (done.mode, done.f) ∧ t.bmu.f = done.f ∧
      t.bmu.mode = if t.bsc.state = .opened ∧ s.bsc.state ≠ .opened then .refilling
        else if t.bsc.state ≠ .opened ∧ s.bsc.state = .opened ∧ done.mode = .refilling then .settling
        else done.mode := by
  intro e done
  obtain ⟨command, -, mark, state⟩ := taken.refill.of_shut shut
  obtain ⟨mode, -⟩ := closed_valveMoves taken idle flow sighted shut
  have bmu := closed_bmu taken idle flow
  have refill : e.refill = (b.bmu.refillMark || b.sli.refillCommand) :=
    (congrArg Bmu.refillMark (binTaken_bmu (f := f) (c := c) taken.toTailStands) :)
  rw [show (windowCompleted (binTaken (positionOf f c) b)).bsc.state = s.bsc.state from state] at mode
  exact ⟨by rw [refill, mark, command], (congrArg Bmu.previous bmu :), (congrArg Bmu.f bmu :), mode⟩

end

/-- The windows that are credited gravimetrically (R57). -/
theorem Entry.weighs_iff (e : Entry) (mode : Mode) : (e.clean = true ∧ mode = .gravimetric) ↔
    e.valid = true ∧ e.refill = false ∧ e.disturbed = false ∧ mode = .gravimetric := by
  rw [Entry.clean_iff]
  simp only [and_assoc]

/-- Settles O21: the frame's parts come before or after the close (`acceptFrame_tenth`), the entry is that of the filled
window, and the items of the mode and of the OAU follow from the refill and the tails at rest; the last clause is the
close's own definition. -/
theorem tenthFrameClosesTheWindow : Obligations.TenthFrameClosesTheWindow := by
  refine ⟨?frame, ?position, fun s => rfl⟩
  case position =>
    intro p s sighted b
    obtain ⟨position, -⟩ := countPosition_window (working s) s.sli.refillCommand p.bin s.bmu
    refine ⟨position, fun room => ?_, fun full => ?_⟩
    · exact (bmuPosition_of_sighted p sighted).trans (if_neg (by omega))
    · exact (bmuPosition_of_sighted p sighted).trans (if_pos (by omega))
  case frame =>
    rintro f o s _ m hs locked number wf rfl sighted tenth idle mass limit counted sum good
    let arrived := s.withSli { s.sli with frameInProgress := false }
    have runs : exec (.frameArrival f o) s = .next (acceptFrame f ((m + 1) % 256) o arrived) := by
      rw [exec_frameArrival hs, frameArrives_locked wf locked number, lockedFrame_next]
    obtain ⟨g, h, b, c, split, taken, flow⟩ := acceptFrame_tenth (s := arrived)
      (still := ∀ i, (gateOf s i).tail = none) f ((m + 1) % 256) o sighted tenth id
    have hold := frameGrams_of_hold (f := f) (n := (m + 1) % 256) (o := o) (s := arrived)
    generalize acceptFrame f ((m + 1) % 256) o arrived = t at flow runs
    generalize frameGrams f ((m + 1) % 256) o arrived = grams at split taken hold
    have idle' : arrived.bmu.zero.state ≠ .running := idle
    obtain ⟨mean, valid, disturbed, masses, flowing⟩ := windowEntry_of_takenUp f c taken
    obtain ⟨ring, run⟩ := closed_history taken idle' flow
    have bmu := closed_bmu taken idle' flow
    let e := windowEntry (binTaken (positionOf f c) b)
    let done := (windowCompleted (binTaken (positionOf f c) b)).bmu
    refine ⟨t, e, runs, ring, mean, valid, ?run, congrArg Bmu.position bmu, congrArg Bmu.massSum bmu,
      congrArg Bmu.goodCount bmu, congrArg Bmu.rawSum bmu, congrArg Bmu.disturbedMark bmu, ?rest⟩
    case run =>
      rw [run]
      simp only [cleanRunAfter, Entry.clean_iff]
      rfl
    case rest =>
      intro w windowUs strays mode span fall rate
      have modeIs : modeTest w s.bmu.mode e t.bmu.cleanRun = mode := by
        simp only [modeTest, Bool.or_eq_true, Bool.not_eq_true']
        rfl
      have atRest : s.bsc.state ≠ .deferred → done.mode = mode ∧ done.f = rate := fun shut => by
        obtain ⟨doneMode, doneRate⟩ := closed_rate taken idle' flow shut
        exact ⟨doneMode.trans modeIs, doneRate.trans (congrArg
          (fun x : Mode => if x = .gravimetric then outflowRate w t.bmu.ring else s.bmu.f) (doneMode.trans modeIs))⟩
      refine ⟨disturbed, flowing, ?hold, closed_sums taken idle' flow, ?shut, ?credit⟩
      case hold => exact fun policy i => (masses i).trans (congrArg _ (hold policy i))
      case shut =>
        intro shut
        obtain ⟨doneMode, doneRate⟩ := atRest shut
        have refill := closed_refill taken idle' flow sighted shut
        dsimp only at refill
        rwa [show (windowCompleted (binTaken (positionOf f c) b)).bmu.mode = mode from doneMode,
          show (windowCompleted (binTaken (positionOf f c) b)).bmu.f = rate from doneRate] at refill
      case credit =>
        intro shut tails gravimetric quantum credits
        obtain ⟨doneMode, doneRate⟩ := atRest shut
        obtain ⟨openPart, pending, unnamed, named⟩ := closed_credits taken idle' flow split tails shut
        have weighs := e.weighs_iff mode
        have kind : decide (e.clean = true ∧ done.mode = .gravimetric) = gravimetric := by
          rw [doneMode]
          exact decide_eq_decide.mpr weighs
        have shares : windowCredits w e done.mode done.f s.oau.carry = credits := by
          rw [doneMode, doneRate]
          simp only [windowCredits, weighs, credits, gravimetric, decide_eq_true_eq]
          rfl
        refine ⟨openPart, pending, unnamed, fun opened => (named opened).trans ?_⟩
        exact congrArg₂ (fun kind shares => s.oau.reports ++ [WindowReport.mk kind (.of (creditFor s shares))]) kind shares

end Sys2Proof.Machine
end

section
/-! The OAU's closes written as one record of the next state (R56 to R62, R66), the grams of a gravimetric close, which are
the quantum E (R57 to R59, R61, R71), the sensor closes of BLIND (R44); and O24, which reads them. -/

namespace Sys2Proof.Machine

/-! ### The quantum divided -/

/-- Truncated shares are together no more than the quantum (R58). -/
theorem shareOf_sum_le (e : Nat) (m : PerSpout Nat) : shareOf e m .A + shareOf e m .B + shareOf e m .C ≤ e :=
  calc e * m.a / totalMass m + e * m.b / totalMass m + e * m.c / totalMass m
    _ ≤ (e * m.a + e * m.b) / totalMass m + e * m.c / totalMass m :=
        Nat.add_le_add_right Nat.div_add_div_le_add_div _
    _ ≤ (e * m.a + e * m.b + e * m.c) / totalMass m := Nat.div_add_div_le_add_div
    _ = totalMass m * e / totalMass m := by rw [totalMass, ← Nat.mul_add, ← Nat.mul_add, Nat.mul_comm]
    _ ≤ e := Nat.div_le_of_le_mul le_rfl

theorem PerSpout.sum_set_add (x : PerSpout Nat) (i : Spout) (n : Nat) :
    let y := x.set i (x.get i + n)
    y.a + y.b + y.c = x.a + x.b + x.c + n := by
  cases i <;> simp only [PerSpout.set, PerSpout.get] <;> omega

/-- The remainder goes to one participant, so the credits are together the quantum (R59). -/
theorem gravimetricCredits_sum (e : Nat) (m : PerSpout Nat) :
    (gravimetricCredits e m).a + (gravimetricCredits e m).b + (gravimetricCredits e m).c = e :=
  (PerSpout.sum_set_add _ _ _).trans (Nat.add_sub_cancel' (shareOf_sum_le e m))

/-! ### The grams of a close -/

/-- The grams credited to the load of a spout: none where its slot is empty (R61). -/
def creditedGrams (s : State) (credits : PerSpout Nat) (i : Spout) : Nat :=
  ((creditFor s credits i).map Credit.grams).getD 0

theorem creditedGrams_all_zero (s : State) (i : Spout) : creditedGrams s (.all 0) i = 0 := by
  unfold creditedGrams creditFor
  cases loadOf s i <;> simp

/-- A credit goes to the load in the slot or, where the slot is empty, to the account (R61). -/
theorem creditedGrams_add_empty (s : State) (credits : PerSpout Nat) (i : Spout) :
    creditedGrams s credits i + (if (loadOf s i).isNone then credits.get i else 0) = credits.get i := by
  unfold creditedGrams creditFor
  cases loadOf s i <;> simp

/-- The credits of a gravimetric close of quantum `e`: all 0 without a participant (R59). -/
def quantumCredits (e : Nat) (m : PerSpout Nat) : PerSpout Nat :=
  if totalMass m = 0 then .all 0 else gravimetricCredits e m

theorem quantumCredits_get (e : Nat) (m : PerSpout Nat) (i : Spout) :
    (quantumCredits e m).get i = if totalMass m = 0 then 0 else (gravimetricCredits e m).get i := by
  rw [quantumCredits, apply_ite (PerSpout.get · i), PerSpout.get_all]

/-- The account's part of the credits, spout by spout (R59, R61). -/
theorem unassignedOf_eq (s : State) (e : Nat) (m credits : PerSpout Nat) :
    let empty := fun i => if (loadOf s i).isNone then credits.get i else 0
    unassignedOf s e m credits = if totalMass m = 0 then e else empty .A + empty .B + empty .C := by
  simp only [unassignedOf, Spout.all, List.map_cons, List.map_nil, List.sum_cons, List.sum_nil, add_zero, add_assoc]

/-- What a gravimetric close credits to the loads and to the account is the quantum (R57, R59, R61). -/
theorem creditedGrams_add_unassignedOf (s : State) (e : Nat) (m : PerSpout Nat) :
    creditedGrams s (quantumCredits e m) .A + creditedGrams s (quantumCredits e m) .B +
      creditedGrams s (quantumCredits e m) .C + unassignedOf s e m (quantumCredits e m) = e := by
  by_cases empty : totalMass m = 0
  · simp only [quantumCredits, unassignedOf, if_pos empty, creditedGrams_all_zero, Nat.zero_add]
  · have sum := gravimetricCredits_sum e m
    have each := creditedGrams_add_empty s (gravimetricCredits e m)
    have a := each .A
    have b := each .B
    have c := each .C
    simp only [quantumCredits, unassignedOf, if_neg empty, Spout.all, List.map_cons, List.map_nil, List.sum_cons,
      List.sum_nil]
    simp only [PerSpout.get] at a b c ⊢
    omega

/-! ### The record of a close -/

/-- The OAU after the report and the parts of a close (R62, R66; log 16). -/
theorem oauParts_oauReport (gravimetric : Bool) (credits m : PerSpout Nat) (s : State) :
    oauParts m (oauReport gravimetric credits s) = { s with oau := { s.oau with
      openPart := .of fun i => s.oau.openPart.get i - (m.get i : Int)
      pending := .of fun i => (loadOf s i).map fun l => { mass := m.get i, load := l.number }
      reports := if PerSpout.of (creditFor s credits) = .all none then s.oau.reports
        else s.oau.reports ++ [{ gravimetric := gravimetric, credits := .of (creditFor s credits) }] } } := by
  by_cases unnamed : PerSpout.of (creditFor s credits) = .all none
  · rw [oauReport, if_pos unnamed, if_pos unnamed]
    rfl
  · rw [oauReport, if_neg unnamed, if_neg unnamed]
    rfl

/-- A gravimetric close is the report of its credits and the exchange of the parts, after the carry and the account (R57,
R59, R61, R62, R66). -/
theorem oauGravimetric_eq (f : Nat) (m : PerSpout Nat) (s : State) :
    let numerator := quantumNumerator (working s) f s.oau.carry
    let credits := quantumCredits (numerator / 1000000) m
    oauGravimetric f m s = oauParts m (oauReport true credits (s.withOau { s.oau with
      carry := numerator % 1000000
      unassigned := satAdd maxUnassigned s.oau.unassigned (unassignedOf s (numerator / 1000000) m credits) })) := rfl

theorem oauGravimetric_unassigned (f : Nat) (m : PerSpout Nat) (s : State) :
    let e := quantumNumerator (working s) f s.oau.carry / 1000000
    (oauGravimetric f m s).oau.unassigned =
      satAdd maxUnassigned s.oau.unassigned (unassignedOf s e m (quantumCredits e m)) := by
  rw [oauGravimetric_eq, oauParts_oauReport]
  rfl

/-! ### BLIND -/

/-- In BLIND a position brings a sensor close after an entry to BLIND, once a count has come to ten (R44; log 33). -/
theorem bmuPosition_of_blind (p : PositionIn) {s : State} (blind : s.bmu.mode = .blind) :
    let due := s.bmu.blindEntered = true ∧ ∃ i, 10 ≤ (sensorOf s i).count
    (¬ due → bmuPosition p s = s) ∧ (due → bmuPosition p s = sensorClose s) := by
  have due_iff : (s.bmu.blindEntered && Spout.all.any fun i => decide (10 ≤ (sensorOf s i).count)) = true ↔
      s.bmu.blindEntered = true ∧ ∃ i, 10 ≤ (sensorOf s i).count := by
    simp only [Bool.and_eq_true, List.any_eq_true, mem_allSpouts, true_and, decide_eq_true_eq]
  rw [bmuPosition, if_pos blind, ← due_iff]
  exact ⟨fun h => if_neg h, fun h => if_pos h⟩

/-- Settles O24: the record of `oauParts_oauReport` for each kind of close, and `creditedGrams_add_unassignedOf` for E. -/
theorem gravimetricCloseCreditsExactlyE : Obligations.GravimetricCloseCreditsExactlyE := by
  refine ⟨?quantum, ?close, ?blind⟩
  case quantum =>
    intro f m s numerator e total credit empty added t named
    have credits : credit = (quantumCredits e m).get := funext fun i => (quantumCredits_get e m i).symm
    have named_eq : named = .of (creditFor s (quantumCredits e m)) := by simp only [named, credits]; rfl
    have added_eq : added = unassignedOf s e m (quantumCredits e m) := by
      simp only [unassignedOf_eq, ← credits]
      rfl
    have shared : _ + added = e := added_eq ▸ creditedGrams_add_unassignedOf s e m
    have account : t.oau.unassigned = min 999999999999 (s.oau.unassigned + added) :=
      added_eq ▸ oauGravimetric_unassigned f m s
    rw [account, named_eq]
    refine ⟨?record, shared, fun room => ?_⟩
    case record =>
      rw [added_eq]
      exact (oauGravimetric_eq f m s).trans (oauParts_oauReport _ _ _ _)
    · rw [Nat.min_eq_right (by omega)]
      exact (Nat.add_left_comm _ _ _).trans (congrArg (s.oau.unassigned + ·) shared)
  case close =>
    intro e mode f s told gravimetric
    have weighs : (e.clean = true ∧ mode = .gravimetric) ↔ gravimetric := e.weighs_iff mode
    refine ⟨fun h => if_pos (weighs.mpr h), fun h => ?_⟩
    exact (if_neg (mt weighs.mp h)).trans (oauParts_oauReport false e.m e.m told)
  case blind =>
    intro p s blind
    obtain ⟨stands, closes⟩ := bmuPosition_of_blind p blind
    refine ⟨fun early => stands ?_, fun i entered ten => ?_⟩
    · rintro ⟨entered, i, ten⟩
      rcases early with restart | below
      · exact Bool.false_ne_true (restart.symm.trans entered)
      · exact Nat.not_le.mpr (below i) ten
    · exact (closes ⟨entered, i, ten⟩).trans
        (oauParts_oauReport false (windowMasses s) (windowMasses s) (ssuComplete s))

end Sys2Proof.Machine
end

section
/-! The division of a gravimetric quantum (O25): its one remainder, who takes it, and why it is below the number of
participants (R58, R59). -/

namespace Sys2Proof.Machine

/-- A spout's credit is its truncated share, and the remainder besides for the participant with the largest mass. -/
theorem gravimetricCredits_get (e : Nat) (m : PerSpout Nat) (i : Spout) :
    (gravimetricCredits e m).get i = shareOf e m i +
      if i = largest m then e - (shareOf e m .A + shareOf e m .B + shareOf e m .C) else 0 := by
  unfold gravimetricCredits
  dsimp only
  rw [PerSpout.get_set]
  split
  · next h =>
    subst h
    rw [PerSpout.get_of]
    rfl
  · exact PerSpout.get_of _ i

/-- The largest mass is that of the first spout in the order A, B, C that no other exceeds (R59). -/
theorem eq_largest_iff (m : PerSpout Nat) (i : Spout) : i = largest m ↔
    (∀ j, m.get j ≤ m.get i) ∧ (i = .B → m.a < m.b) ∧ (i = .C → m.a < m.c ∧ m.b < m.c) := by
  have each : (∀ j, m.get j ≤ m.get i) ↔ m.a ≤ m.get i ∧ m.b ≤ m.get i ∧ m.c ≤ m.get i :=
    ⟨fun h => ⟨h .A, h .B, h .C⟩, fun ⟨a, b, c⟩ j => by cases j <;> assumption⟩
  rw [each, largest]
  cases i <;> simp only [PerSpout.get] <;> split_ifs <;> simp <;> omega

theorem get_largest_pos {m : PerSpout Nat} (h : 0 < totalMass m) : 0 < m.get (largest m) := by
  have most := ((eq_largest_iff m _).mp rfl).1
  have a : m.a ≤ _ := most .A
  have b : m.b ≤ _ := most .B
  have c : m.c ≤ _ := most .C
  unfold totalMass at h
  omega

theorem shareOf_of_no_mass (e : Nat) {m : PerSpout Nat} {i : Spout} (h : m.get i = 0) : shareOf e m i = 0 := by
  rw [shareOf, h, Nat.mul_zero, Nat.zero_div]

/-! ### The remainder -/

/-- 1 for a participant and 0 for a spout of no mass (R58). -/
def participation (n : Nat) : Nat := if 0 < n then 1 else 0

/-- Truncation takes less than 1 g from a participant and nothing from a spout of no mass. -/
theorem shareOf_truncation (e : Nat) {m : PerSpout Nat} (i : Spout) (h : 0 < totalMass m) :
    e * m.get i + participation (m.get i) ≤ totalMass m * (shareOf e m i + participation (m.get i)) := by
  unfold participation
  split
  · exact Nat.lt_mul_div_succ _ h
  · next none_here =>
    rw [Nat.eq_zero_of_not_pos none_here]
    exact Nat.zero_le _

theorem participants_eq (m : PerSpout Nat) : (Spout.all.filter fun j => decide (0 < m.get j)).length =
    participation m.a + participation m.b + participation m.c := by
  simp only [Spout.all, participation, PerSpout.get]
  by_cases a : 0 < m.a <;> by_cases b : 0 < m.b <;> by_cases c : 0 < m.c <;> simp [a, b, c]

/-- What truncation takes from the quantum is below the number of participants (R59). -/
theorem remainder_lt_participants (e : Nat) {m : PerSpout Nat} (h : 0 < totalMass m) :
    e - (shareOf e m .A + shareOf e m .B + shareOf e m .C) <
      participation m.a + participation m.b + participation m.c := by
  have taken := Nat.add_le_add
    (Nat.add_le_add (shareOf_truncation e .A h) (shareOf_truncation e .B h)) (shareOf_truncation e .C h)
  have some_participant : 0 < participation m.a + participation m.b + participation m.c := by
    unfold totalMass at h
    unfold participation
    split_ifs <;> omega
  have scaled : totalMass m * e < totalMass m * (shareOf e m .A + shareOf e m .B + shareOf e m .C +
      (participation m.a + participation m.b + participation m.c)) := by
    have split_total : totalMass m * e = e * m.a + e * m.b + e * m.c := by rw [totalMass]; ring
    simp only [Nat.mul_add, PerSpout.get] at taken ⊢
    omega
  have below := Nat.lt_of_mul_lt_mul_left scaled
  omega

/-- Settles O25: the sum of the shares, the bound on the remainder, and the credit of each spout. -/
theorem remainderGoesToTheLargest : Obligations.RemainderGoesToTheLargest := by
  intro e m i h total share remainder first participants
  have takes_remainder : first ↔ i = largest m := (eq_largest_iff m i).symm
  refine ⟨shareOf_sum_le e m, ?below, fun no_mass => ?noMass, fun h_first => ?first, fun other => ?other⟩
  case below => exact (remainder_lt_participants e h).trans_eq (participants_eq m).symm
  case noMass =>
    have other : i ≠ largest m := by
      rintro rfl
      exact (get_largest_pos h).ne' no_mass
    rw [gravimetricCredits_get, if_neg other, shareOf_of_no_mass e no_mass]
  case first =>
    have most := takes_remainder.mp h_first
    refine ⟨most ▸ get_largest_pos h, ?_⟩
    rw [gravimetricCredits_get, if_pos most]
    rfl
  case other =>
    rw [gravimetricCredits_get, if_neg (mt takes_remainder.mpr other)]
    rfl

end Sys2Proof.Machine
end

section
/-! CLEAR_UNASSIGNED and CLEAR_SUPPLY_FAULT (O60), each written as the record it leaves (R72, R163). -/

namespace Sys2Proof.Machine

/-- What a dispatch request without field checks comes to, from what its owner answers (R172 to R174). -/
theorem whileRunning_serveDispatch {c : Instr} {kind : Byte} {len : Nat} {act : State → Answer} {s : State} {a : Answer}
    (hs : s.power = .running) (ht : takes .dispatch c s) (ha : act (dispatchTaken c s) = a) :
    whileRunning (serveDispatch c .dispatch kind len len true act) s =
      .next (answer .dispatch kind a.result a.fields a.state) := by
  subst ha
  exact (if_pos hs).trans (congrArg _ (serveDispatch_of_takes ht))

/-- Settles O60: the account's one write, and the latch with the refill state it leaves. -/
theorem clearRequestsClear : Obligations.ClearRequestsClear := by
  intro s hs
  refine ⟨fun ht => ?unassigned, fun ht => ⟨fun clear => ?clear, fun set => ?set⟩⟩
  case unassigned => exact whileRunning_serveDispatch hs ht rfl
  case clear =>
    have accepted : ∀ c, clearSupplyFault (dispatchTaken c s) = accept (dispatchTaken c s) := fun c =>
      if_neg (Bool.eq_false_iff.mp clear)
    exact whileRunning_serveDispatch hs ht (accepted _)
  case set =>
    have cleared : ∀ c, clearSupplyFault (dispatchTaken c s) = accept ((dispatchTaken c s).withBsc { s.bsc with
        supplyFault := false
        state := if s.bsc.blindRecord = true ∨ s.bsc.zeroRecord = true then .suspended else .idle }) := by
      intro c
      simp only [← Bool.or_eq_true]
      exact if_pos set
    exact whileRunning_serveDispatch hs ht (cleared _)

end Sys2Proof.Machine
end

section
/-! The completion of a load (O32): the order, the outcome and the ticket as R142, R148, R150 and R151 spell them. -/

namespace Sys2Proof.Machine

/-- A difference is within the tolerance from both sides, over it, or under it (R151). -/
theorem ticketOutcome_eq (target d tolerance : Nat) : ticketOutcome target d tolerance =
    if -(tolerance : Int) ≤ (d : Int) - target ∧ (d : Int) - target ≤ tolerance then .inTolerance
    else if (tolerance : Int) < (d : Int) - target then .over else .under := by
  unfold ticketOutcome
  congr 1
  · exact propext (by omega)
  · congr 1
    exact propext (by omega)

/-- The filling test moves the state of an order alone (R142). -/
theorem completedOrder_eq (l : Load) (o : Order) : completedOrder l o = { o with
    loaded := o.loaded + l.d, reserved := o.reserved - l.target
    state := if o.state = .opened ∧ (o.ordered : Int) - o.tolerance ≤ ((o.loaded + l.d : Nat) : Int) then .filled
      else o.state } := by
  unfold completedOrder fillingTest
  dsimp only
  split <;> rfl

theorem findOrder_eq_some {s : State} {r : Ref} {o : Order} (h : findOrder s r = some o) :
    o ∈ s.ots.orders ∧ o.ref = r := by
  unfold findOrder at h
  exact ⟨List.mem_of_find?_eq_some h, by simpa using List.find?_some h⟩

/-- With each reference once in the table, a change of the record with a reference is a change of the record found. -/
theorem updateOrder_orders {s : State} {r : Ref} {o : Order} (h : findOrder s r = some o)
    (once : (s.ots.orders.map Order.ref).Nodup) (f : Order → Order) :
    (updateOrder r f s).ots.orders = s.ots.orders.map fun x => if x.ref = r then f o else x := by
  obtain ⟨mem, ref_eq⟩ := findOrder_eq_some h
  refine List.map_congr_left fun x hx => ?_
  by_cases same : x.ref = r
  · rw [if_pos same, if_pos same, List.inj_on_of_nodup_map once hx mem (same.trans ref_eq.symm)]
  · rw [if_neg same, if_neg same]

theorem gravimetricShare_of_pos {l : Load} (h : 0 < l.d) : gravimetricShare l = l.gravimetric * 1000 / l.d :=
  if_neg h.ne'

/-- A load with D above 0 leaves a ticket under the next number; one of no mass leaves none (R148, R150). -/
theorem complete_ots (i : Spout) (l : Load) (cause : EndCause) {s : State} {o : Order}
    (h : findOrder s l.order = some o) : (complete i l cause s).ots =
      { orders := (updateOrder l.order (completedOrder l) s).ots.orders
        tickets := if 0 < l.d then s.ots.tickets ++ [ticketOf s.ots.counter i l o.tolerance cause] else s.ots.tickets
        counter := if 0 < l.d then nextNumber s.ots.counter else s.ots.counter
        placesHeld := s.ots.placesHeld - 1 } := by
  unfold complete
  rw [h]
  dsimp only
  split <;> rfl

/-- Settles O32: the OTS of `complete_ots`, read order, ticket and place by place. -/
theorem completionMakesTheTicket : Obligations.CompletionMakesTheTicket := by
  intro s i l cause o h loaded after difference ticket
  have made : 0 < l.d → ticketOf s.ots.counter i l o.tolerance cause = ticket := by
    intro pos
    simp only [ticketOf, ticketOutcome_eq, gravimetricShare_of_pos pos]
    rfl
  refine ⟨_, complete_eq i l cause s, ?_⟩
  rw [complete_ots i l cause h]
  refine ⟨fun once => ?orders, fun zero => ?none_left, fun pos => ?ticket, rfl⟩
  case orders =>
    rw [updateOrder_orders h once, completedOrder_eq]
  case none_left =>
    rw [zero]
    exact ⟨rfl, rfl⟩
  case ticket =>
    dsimp only
    rw [if_pos pos, if_pos pos, made pos]
    exact ⟨rfl, rfl⟩

end Sys2Proof.Machine
end

section
/-! The status replies and READ_PARAMETER (O53): the layouts of chapter 10 item by item and their lengths, the value field
of a parameter, and the requests that only read. -/

namespace Sys2Proof.Machine

/-! ### Fields -/

@[simp] theorem beBytes_length (n v : Nat) : (beBytes n v).length = n := by
  induction n generalizing v with
  | zero => rfl
  | succ n ih => simp [beBytes, ih]

@[simp] theorem beSigned_length (n : Nat) (v : Int) : (beSigned n v).length = n := beBytes_length n _

@[simp] theorem flagByte_length (v : Nat) : (flagByte v).length = 1 := rfl

theorem beBytes_one (v : Nat) : beBytes 1 v = flagByte v := by
  simp only [beBytes, flagByte, List.nil_append, List.cons.injEq, and_true]
  exact BitVec.eq_of_toNat_eq (by simp)

/-- The value field of a parameter is its value in 32 bits, most significant byte first. -/
theorem field32_eq (v : BitVec 32) : field32 v = beBytes 4 v.toNat := by
  simp only [field32, beBytes, List.nil_append, List.cons_append, List.cons.injEq, and_true]
  refine ⟨?_, ?_, ?_, ?_⟩ <;>
    exact BitVec.eq_of_toNat_eq (by simp [Nat.shiftRight_eq_div_pow, Nat.div_div_eq_div_mul])

theorem beSigned_four (v : Int) : beSigned 4 v = field32 (BitVec.ofInt 32 v) := by
  rw [field32_eq, BitVec.toNat_ofInt]
  rfl

theorem bitAt_eq (k : Nat) (v : Bool) : bitAt k v = 2 ^ k * v.toNat := by
  cases v <;> simp [bitAt]

/-- A flag byte as the sum of its bits (chapter 10, Layouts). -/
theorem flags_eq (bs : List Bool) : flags bs = flagByte (bs.foldr (fun b n => b.toNat + 2 * n) 0) := by
  have bit : ∀ b : Bool, (if b = true then 1 else 0) = b.toNat := by decide
  simp only [flags, flagByte, bit]

theorem flagByte_three (a b c : Bool) : flagByte (bitAt 0 a + bitAt 1 b + bitAt 2 c) = flags [a, b, c] := by
  rw [flags_eq]
  congr 1
  simp only [bitAt_eq, List.foldr_cons, List.foldr_nil]
  omega

theorem flagByte_four (a b c d : Bool) :
    flagByte (bitAt 0 a + bitAt 1 b + bitAt 2 c + bitAt 3 d) = flags [a, b, c, d] := by
  rw [flags_eq]
  congr 1
  simp only [bitAt_eq, List.foldr_cons, List.foldr_nil]
  omega

/-! ### The items of SPOUT STATUS -/

theorem Causes.bits_eq (x : Causes) : beBytes 1 x.bits =
    flags [x.bay, x.interlock, x.link, x.aeration, x.starve, x.sensor, x.sense] := by
  rw [beBytes_one, flags_eq]
  congr 1
  simp only [Causes.bits, bitAt_eq, List.foldr_cons, List.foldr_nil]
  omega

theorem rateOf_eq (d : Dba) (i : Spout) : rateOf d i = ((d.allocation.get i).map Allocation.rate).getD 0 := by
  unfold rateOf
  cases d.allocation.get i <;> rfl

/-- A spout's place counts the places before its first one (R77, R87). -/
theorem queuePlaceOf_eq (d : Dba) (i : Spout) : queuePlaceOf d i =
    if i ∈ d.queue.map QueuePlace.spout
    then ((d.queue.map QueuePlace.spout).takeWhile fun j => decide (j ≠ i)).length + 1 else 0 := by
  unfold queuePlaceOf
  induction d.queue with
  | nil => rfl
  | cons q rest ih =>
    by_cases h : q.spout = i
    · simp [List.findIdx?_cons, h]
    · have elsewhere : i ∈ q.spout :: rest.map QueuePlace.spout ↔ i ∈ rest.map QueuePlace.spout := by
        rw [List.mem_cons, or_iff_right (Ne.symm h)]
      simp only [List.map_cons, elsewhere, List.findIdx?_cons, h, decide_false, Bool.false_eq_true, if_false,
        List.takeWhile_cons, ne_eq, not_false_eq_true, decide_true, if_true, List.length_cons]
      cases hk : rest.findIdx? fun p => decide (p.spout = i) with
      | none =>
        rw [hk] at ih
        split_ifs at ih ⊢
        rfl
      | some k =>
        rw [hk] at ih
        split_ifs at ih ⊢
        simpa using ih

/-- The newest VALID entry is the last of the VALID ones (R155, R176). -/
theorem newestValidMean_eq (s : State) : newestValidMean s.bmu.ring = newestLevel s := by
  rw [newestValidMean, newestLevel, ← List.head?_filter, List.filter_reverse, List.head?_reverse]

theorem loadFields_length (s : State) (i : Spout) (l : Load) : (loadFields s i l).length = 42 + l.order.length := by
  simp [loadFields]
  omega

theorem plantFields_length (s : State) (i : Spout) : (plantFields s i).length = 12 := by simp [plantFields]

theorem latchFields_length (x : FaultLatch) : (latchFields x).length = 8 := by simp [latchFields]

theorem spoutStatusFields_of_empty {s : State} {i : Spout} (h : loadOf s i = none) : spoutStatusFields s i =
    List.replicate 51 0 ++ (plantFields s i ++ latchFields (latchOf s i) ++ beBytes 4 (rateOf s.dba i) ++
      beBytes 1 (queuePlaceOf s.dba i)) := by
  simp only [spoutStatusFields, h, List.append_assoc]

theorem spoutStatusFields_of_load {s : State} {i : Spout} {l : Load} (h : loadOf s i = some l) :
    spoutStatusFields s i = [1] ++ loadFields s i l ++ plantFields s i ++ latchFields (latchOf s i) ++
      beBytes 4 (rateOf s.dba i) ++ beBytes 1 (queuePlaceOf s.dba i) := by
  simp only [spoutStatusFields, h]
  rfl

/-- SPOUT STATUS has 76 bytes, an order reference being eight (chapter 10, Layouts). -/
theorem spoutStatusFields_length {s : State} {i : Spout} (h : ∀ l, loadOf s i = some l → l.order.length = 8) :
    (spoutStatusFields s i).length = 76 := by
  cases hl : loadOf s i with
  | none => simp [spoutStatusFields_of_empty hl, plantFields_length, latchFields_length]
  | some l =>
    simp [spoutStatusFields_of_load hl, loadFields_length, plantFields_length, latchFields_length, h l hl]

/-! ### A parameter's value -/

theorem paramOfId_eq_none {id : Byte} (h : ∀ p, (id.toNat, p) ∉ paramTable) : paramOfId id = none := by
  rw [paramOfId, Option.map_eq_none_iff, List.find?_eq_none]
  rintro ⟨n, p⟩ mem same
  exact h p (of_decide_eq_true same ▸ mem)

/-- Every range of the table lies in a signed field of 32 bits (R181). -/
theorem paramInRange_32 {p : ParamId} {v : Int} (h : paramInRange p v = true) :
    -2147483648 ≤ v ∧ v ≤ 2147483647 := by
  cases p <;> simp only [paramInRange, Bool.or_eq_true, within_iff, decide_eq_true_eq] at h <;> omega

theorem toInt_ofInt_paramGet {w : Params} (h : paramsSound w = true) (p : ParamId) :
    (BitVec.ofInt 32 (paramGet w p)).toInt = paramGet w p := by
  obtain ⟨low, high⟩ := paramInRange_32 (((paramsSound_iff w).mp h).1 p)
  exact BitVec.toInt_ofInt_eq_self (by decide) (by simpa using low) (by simp; omega)

/-! ### A bay's request -/

/-- A bay port with a request in progress, its bytes and its gap timer gone, and its link timer started again (R128,
R172, R173). -/
def bayInProgress (i : Spout) (c : Instr) (s : State) : State :=
  { bayTaken i s with pc := { s.pc with bay := s.pc.bay.set i { s.pc.bay.get i with
    receive := .answering, buffer := [], gapTimer := none, request := some c, reply := none } } }

theorem takeRequest_bay (i : Spout) (c : Instr) (s : State) : takeRequest (.bay i) c s = bayInProgress i c s := by
  unfold takeRequest restartLinkTimer bayInProgress bayTaken
  dsimp only
  split
  · next h =>
    have loaded : (s.lm.slot.get i).isSome = true := h
    rw [if_pos loaded]
    rfl
  · next h =>
    have empty : ¬ (s.lm.slot.get i).isSome = true := h
    rw [if_neg empty]
    rfl

theorem answer_bayInProgress (i : Spout) (c : Instr) (kind : Byte) (r : Result) (fields : List Byte) (s : State) :
    answer (.bay i) kind r fields (bayInProgress i c s) = onBay i c (kind ||| 0x80) r fields (bayTaken i s) := by
  simp only [answer, setPort, portOf, bayInProgress, onBay, answered, State.withPc, PerSpout.get_set_same,
    PerSpout.set_set]
  rfl

/-- What a bay request without field checks comes to, from what the LM answers (R172 to R174). -/
theorem whileRunning_serveBay {c : Instr} {i : Spout} {kind : Byte} {len : Nat} {act : Spout → State → Answer}
    {s : State} {a : Answer} (hs : s.power = .running) (ht : takes (.bay i) c s)
    (ha : act i (bayInProgress i c s) = a) :
    whileRunning (serveBay c (.bay i) kind len len true act) s =
      .next (answer (.bay i) kind a.result a.fields a.state) := by
  subst ha
  refine (if_pos hs).trans (congrArg _ ?_)
  simp [serveBay, withRequest, portTakes_of_takes ht, takeRequest_bay, formRefusal]

theorem plantFields_eq (s : State) (i : Spout) : plantFields s i =
    beBytes 1 (gateOf s i).mode.code ++ beBytes 2 (gateOf s i).command ++ beBytes 4 (sensorOf s i).lastQ ++
    flags [(sensorOf s i).substitution, decide ((s.sli.impact.get i).state ≠ .fresh), (sensorOf s i).driftSuspended,
      (sensorOf s i).leakAlarm] ++
    beBytes 1 (s.sli.impact.get i).state.code ++ beBytes 1 (s.sli.feedback.get i).state.code ++
    beSigned 2 (s.sli.feedback.get i).lastGood := by
  have bits : flagByte (bitAt 0 (sensorOf s i).substitution + bitAt 1 (sensorCondition s i) +
      bitAt 2 (sensorOf s i).driftSuspended + bitAt 3 (sensorOf s i).leakAlarm) =
      flags [(sensorOf s i).substitution, sensorCondition s i, (sensorOf s i).driftSuspended,
        (sensorOf s i).leakAlarm] := by
    rw [flags_eq]
    simp only [bitAt_eq, List.foldr_cons, List.foldr_nil]
    congr 1
    omega
  rw [plantFields, bits]
  rfl

/-! ### The replies -/

theorem binStatusFields_eq (s : State) : binStatusFields s =
    beBytes 1 s.bmu.mode.code ++ beSigned 4 (max (-2147483648) ((newestLevel s).getD 0)) ++ beBytes 4 s.bmu.f ++
    beBytes 1 s.bmu.cleanRun ++ beBytes 1 s.bmu.zero.state.code ++ beBytes 1 s.bsc.state.code ++
    flags [s.bsc.starved, !s.bsc.aerationHigh, (newestLevel s).isSome] ++ beBytes 5 s.oau.unassigned ++
    flags [(sensorOf s .A).leakAlarm, (sensorOf s .B).leakAlarm, (sensorOf s .C).leakAlarm] := by
  simp only [binStatusFields, newestValidMean_eq, spoutBits, flagByte_three]
  rfl

theorem partStatusFields_eq (s : State) : partStatusFields s =
    beBytes 1 s.pm.restartCause.code ++ beBytes 1 s.pm.status.code ++
    flags [s.pm.defaulted, s.pm.custodyLock, decide (s.sli.lock = .locked)] ++
    beBytes 2 s.sli.frameErrors ++ beBytes 2 s.sli.missedFrames ++ beBytes 2 (portOf s (.bay .A)).errors ++
    beBytes 2 (portOf s (.bay .B)).errors ++ beBytes 2 (portOf s (.bay .C)).errors ++
    beBytes 2 (portOf s .dispatch).errors := by
  simp only [partStatusFields, flagByte_three]
  rfl

/-- READ PARAMETER answers the id and the value (R181). -/
theorem readParameter_of_mem {id : Byte} {p : ParamId} (h : (id.toNat, p) ∈ paramTable) (s : State) :
    readParameter id s =
      { state := s, result := .ok, fields := id :: field32 (BitVec.ofInt 32 (paramGet s.pm.working p)) } := by
  simp only [readParameter, paramOfId_of_mem h, beSigned_four]
  rfl

theorem readParameter_of_not_mem {id : Byte} (h : ∀ p, (id.toNat, p) ∉ paramTable) (s : State) :
    readParameter id s = refuse .outOfRange s := by
  simp only [readParameter, paramOfId_eq_none h]

/-- Settles O53: each request reads one state, and its fields are the layout's, block by block. -/
theorem statusRepliesChangeNothing : Obligations.StatusRepliesChangeNothing := by
  intro s hs
  refine ⟨fun i => ⟨fun ht => ?spout, spoutStatusFields_length, fun empty => ?zeros⟩, fun ht => ?bin, ?binLength,
    fun ht => ?part, ?partLength, fun i => ?spoutItems, binStatusFields_eq s, partStatusFields_eq s,
    fun id => ?reads⟩
  case spout => exact (whileRunning_serveBay hs ht rfl).trans (congrArg _ (answer_bayInProgress i _ _ _ _ s))
  case zeros =>
    rw [spoutStatusFields_of_empty empty]
    exact List.take_left' (List.length_replicate ..)
  case bin => exact whileRunning_serveDispatch hs ht rfl
  case binLength => simp [binStatusFields]
  case part => exact whileRunning_serveDispatch hs ht rfl
  case partLength => simp [partStatusFields]
  case spoutItems =>
    intro g x k
    cases hl : loadOf s i with
    | none =>
      simp only [spoutStatusFields_of_empty hl, plantFields_eq, latchFields, rateOf_eq, queuePlaceOf_eq,
        List.append_assoc]
      rfl
    | some l =>
      simp only [spoutStatusFields_of_load hl, loadFields, Causes.bits_eq, flagByte_four, plantFields_eq, latchFields,
        rateOf_eq, queuePlaceOf_eq, List.append_assoc]
      rfl
  case reads =>
    intro c ht
    refine ⟨fun p mem => ⟨_, fun sound => toInt_ofInt_paramGet sound p, ?_⟩, fun absent => ?_⟩
    · exact whileRunning_serveDispatch hs ht (readParameter_of_mem mem (dispatchTaken c s))
    · exact whileRunning_serveDispatch hs ht (readParameter_of_not_mem absent (dispatchTaken c s))

end Sys2Proof.Machine
end

section
/-! A load and the gate of its spout (O10): what the two keep of one another, and what each change of the one or the other
needs. A load goes to TAILING only from DISCHARGING, since only such a load has an open gate (R62, R89, R107, R121,
R122). -/

namespace Sys2Proof.Machine

/-! ### One spout -/

/-- What is said of every load: HELD exactly with a cause, and no more gravimetric mass than D (R62, R121, R122). -/
structure Load.Sound (l : Load) : Prop where
  held : l.state = .held ↔ l.causes ≠ .none
  credited : l.gravimetric ≤ l.d
  bounded : l.d ≤ 4294967295

/-- A sound load whose gate is open, or waits for a grant, only while it is DISCHARGING, and has a tail only while it is
TAILING (R89, R91, R107). -/
structure SpoutAgrees (l : Option Load) (g : Gate) : Prop where
  sound : ∀ x, l = some x → x.Sound
  pendingCloses : g.pendingGrant.isSome → g.mode = .closing
  opened : g.mode.discharging = true ∨ g.pendingGrant.isSome → ∃ x, l = some x ∧ x.state = .discharging
  tailing : g.tail.isSome → ∃ x, l = some x ∧ x.state = .tailing

/-- A gate that is not open, waits for no grant and judges no tail. -/
structure Gate.Rests (g : Gate) : Prop where
  shut : g.mode.discharging = false
  ungranted : g.pendingGrant = none
  untailed : g.tail = none

theorem Load.Sound.congr {l x : Load} (h : l.Sound) (state : x.state = l.state) (causes : x.causes = l.causes)
    (gravimetric : x.gravimetric = l.gravimetric) (d : x.d = l.d) : x.Sound where
  held := by rw [state, causes]; exact h.held
  credited := by rw [gravimetric, d]; exact h.credited
  bounded := d ▸ h.bounded

theorem Load.Sound.causes_eq_none {l : Load} (h : l.Sound) (unheld : l.state ≠ .held) : l.causes = .none :=
  Decidable.byContradiction fun n => unheld (h.held.mpr n)

/-- A load that is not HELD moves to another such state. -/
theorem Load.Sound.moves {l x : Load} (h : l.Sound) (before : l.state ≠ .held) (after : x.state ≠ .held)
    (causes : x.causes = l.causes) (gravimetric : x.gravimetric = l.gravimetric) (d : x.d = l.d) : x.Sound where
  held := ⟨fun n => absurd n after, fun n => absurd (causes.trans (h.causes_eq_none before)) n⟩
  credited := by rw [gravimetric, d]; exact h.credited
  bounded := d ▸ h.bounded

theorem Gate.Rests.agrees {g : Gate} (hg : g.Rests) {l : Option Load} (sound : ∀ x, l = some x → x.Sound) :
    SpoutAgrees l g where
  sound := sound
  pendingCloses n := by simp [hg.ungranted] at n
  opened n := by simp [hg.shut, hg.ungranted] at n
  tailing n := by simp [hg.untailed] at n

namespace SpoutAgrees

variable {l : Option Load} {x y : Load} {g g' : Gate}

/-- A gate is open, or waits for a grant, for a DISCHARGING load alone. -/
theorem shut (h : SpoutAgrees l g) (still : ∀ x, l = some x → x.state ≠ .discharging) :
    g.mode.discharging = false ∧ g.pendingGrant = none := by
  have closed : ¬ (g.mode.discharging = true ∨ g.pendingGrant.isSome) := fun n =>
    let ⟨x, hx, discharging⟩ := h.opened n
    still x hx discharging
  simpa using closed

theorem untailed (h : SpoutAgrees l g) (still : ∀ x, l = some x → x.state ≠ .tailing) : g.tail = none := by
  have none_judged : ¬ g.tail.isSome := fun n =>
    let ⟨x, hx, tailing⟩ := h.tailing n
    still x hx tailing
  simpa using none_judged

theorem rests (h : SpoutAgrees l g) (still : ∀ x, l = some x → x.state ≠ .discharging ∧ x.state ≠ .tailing) :
    g.Rests := by
  obtain ⟨shut, ungranted⟩ := h.shut fun x hx => (still x hx).1
  exact ⟨shut, ungranted, h.untailed fun x hx => (still x hx).2⟩

theorem rests_of_state (h : SpoutAgrees (some x) g) (discharging : x.state ≠ .discharging)
    (tailing : x.state ≠ .tailing) : g.Rests := h.rests fun _ hx => by cases hx; exact ⟨discharging, tailing⟩

theorem rests_of_empty (h : SpoutAgrees none g) : g.Rests := h.rests fun _ hx => by cases hx

/-- An open gate waits for no grant. -/
theorem ungranted (h : SpoutAgrees l g) (hd : g.mode.discharging = true) : g.pendingGrant = none := by
  by_contra n
  have closing := h.pendingCloses (Option.isSome_iff_ne_none.mpr n)
  rw [closing] at hd
  cases hd

/-- A gate that opens no further, takes no grant and begins no tail. -/
theorem gate (h : SpoutAgrees l g) (mode : g'.mode.discharging = true → g.mode.discharging = true)
    (closing : g.mode = .closing → g'.mode = .closing ∨ g'.pendingGrant = none)
    (pending : g'.pendingGrant = g.pendingGrant ∨ g'.pendingGrant = none)
    (tail : g'.tail.isSome → g.tail.isSome) : SpoutAgrees l g' where
  sound := h.sound
  pendingCloses n := by
    have stood : g'.pendingGrant = g.pendingGrant := pending.resolve_right (Option.isSome_iff_ne_none.mp n)
    exact (closing (h.pendingCloses (stood ▸ n))).resolve_right (Option.isSome_iff_ne_none.mp n)
  opened n := by
    refine h.opened (n.imp mode fun m => ?_)
    exact pending.resolve_right (Option.isSome_iff_ne_none.mp m) ▸ m
  tailing n := h.tailing (tail n)

/-- A change of a load that keeps its state. -/
theorem load (h : SpoutAgrees (some x) g) (state : y.state = x.state) (sound : y.Sound) : SpoutAgrees (some y) g where
  sound := fun _ hz => by cases hz; exact sound
  pendingCloses := h.pendingCloses
  opened n := by
    obtain ⟨_, hz, discharging⟩ := h.opened n
    cases hz
    exact ⟨y, rfl, state.trans discharging⟩
  tailing n := by
    obtain ⟨_, hz, tailing⟩ := h.tailing n
    cases hz
    exact ⟨y, rfl, state.trans tailing⟩

/-- The gate of a DISCHARGING load may be open or wait for a grant. -/
theorem of_discharging (sound : x.Sound) (state : x.state = .discharging)
    (pending : g.pendingGrant.isSome → g.mode = .closing) (tail : g.tail = none) : SpoutAgrees (some x) g where
  sound := fun _ hz => by cases hz; exact sound
  pendingCloses := pending
  opened _ := ⟨x, rfl, state⟩
  tailing n := by simp [tail] at n

/-- The gate of a TAILING load is shut, and may judge a tail. -/
theorem of_tailing (sound : x.Sound) (state : x.state = .tailing) (mode : g.mode.discharging = false)
    (pending : g.pendingGrant = none) : SpoutAgrees (some x) g where
  sound := fun _ hz => by cases hz; exact sound
  pendingCloses n := by simp [pending] at n
  opened n := by simp [mode, pending] at n
  tailing _ := ⟨x, rfl, state⟩

end SpoutAgrees

/-! ### A hold -/

theorem Causes.add_ne_none {cs : List Cause} (h : cs ≠ []) (x : Causes) : x.add cs ≠ .none := by
  obtain ⟨c, hc⟩ := List.exists_mem_of_ne_nil cs h
  intro n
  have added := x.add_has cs c
  rw [n] at added
  cases c <;> simp [Causes.none, Causes.has, hc] at added

theorem Load.Sound.heldBy {l : Load} (h : l.Sound) {cs : List Cause} (hcs : cs ≠ []) : (l.heldBy cs).Sound := by
  unfold Load.heldBy
  split
  · exact ⟨iff_of_true rfl (Causes.add_ne_none hcs _), h.credited, h.bounded⟩
  · exact h

theorem closedGate_rests {g : Gate} (pending : g.pendingGrant.isSome → g.mode = .closing) (tail : g.tail = none) :
    (closedGate g).Rests := by
  unfold closedGate
  split
  · next open_ =>
    refine ⟨rfl, ?_, tail⟩
    by_contra n
    rw [pending (Option.isSome_iff_ne_none.mpr n)] at open_
    cases open_
  · next shut =>
    split
    · exact ⟨by simpa using shut, rfl, tail⟩
    · next other =>
      exact ⟨by simpa using shut, by simpa using mt pending other, tail⟩

/-- A hold leaves a sound load, and the gate of a DISCHARGING one closed (R122). -/
theorem SpoutAgrees.heldBy {l : Load} {g : Gate} (h : SpoutAgrees (some l) g) {cs : List Cause} (hcs : cs ≠ []) :
    SpoutAgrees (some (l.heldBy cs)) (if l.state = .discharging then closedGate g else g) := by
  have sound : ∀ x, some (l.heldBy cs) = some x → x.Sound := fun x hx => by
    cases hx; exact (h.sound l rfl).heldBy hcs
  by_cases hd : l.state = .discharging
  · rw [if_pos hd]
    exact (closedGate_rests h.pendingCloses (h.untailed fun x hx => by cases hx; rw [hd]; exact nofun)).agrees sound
  · rw [if_neg hd]
    by_cases ht : l.state = .tailing
    · exact h.load (by simp [Load.heldBy, LoadState.records, ht]) (sound _ rfl)
    · exact (h.rests_of_state hd ht).agrees sound

end Sys2Proof.Machine
end

section
/-! The loads and the gates under the shared operations (O10): every write to a spout is one of `SpoutAgrees`, and every
other write leaves all spouts as they were. -/

namespace Sys2Proof.Machine

/-! ### The views -/

/-- Each load and the gate of its spout agree. -/
def SpoutsAgree (s : State) : Prop := ∀ i, SpoutAgrees (loadOf s i) (gateOf s i)

theorem spoutsAgree_of_invariants {s : State} (gate : GateInv s) (load : LoadInv s) : SpoutsAgree s := fun i =>
  { sound := fun x hx => ⟨load.held i x hx, (load.credited i x hx).1, (load.credited i x hx).2⟩
    pendingCloses := gate.pendingCloses i
    opened := gate.opened i
    tailing := gate.tailing i }

theorem SpoutsAgree.loadInv {s : State} (h : SpoutsAgree s) : LoadInv s where
  held i l hl := ((h i).sound l hl).held
  credited i l hl := ⟨((h i).sound l hl).credited, ((h i).sound l hl).bounded⟩

/-- Every load and every gate is as it was. -/
structure SpoutsStand (s t : State) : Prop where
  slot : t.lm.slot = s.lm.slot
  gate : t.gate = s.gate

theorem SpoutsStand.refl (s : State) : SpoutsStand s s := ⟨rfl, rfl⟩

theorem SpoutsStand.trans {s t u : State} (h : SpoutsStand s t) (k : SpoutsStand t u) : SpoutsStand s u :=
  ⟨k.slot.trans h.slot, k.gate.trans h.gate⟩

theorem SpoutsStand.loadOf {s t : State} (h : SpoutsStand s t) (i : Spout) : loadOf t i = loadOf s i :=
  congrArg (PerSpout.get · i) h.slot

theorem SpoutsStand.gateOf {s t : State} (h : SpoutsStand s t) (i : Spout) : gateOf t i = gateOf s i :=
  congrArg (PerSpout.get · i) h.gate

/-- The loads and gates of the other spouts are as they were. -/
def OnlyAt (i : Spout) (s t : State) : Prop := ∀ j ≠ i, loadOf t j = loadOf s j ∧ gateOf t j = gateOf s j

theorem OnlyAt.trans {i : Spout} {s t u : State} (h : OnlyAt i s t) (k : OnlyAt i t u) : OnlyAt i s u :=
  fun j hj => ⟨(k j hj).1.trans (h j hj).1, (k j hj).2.trans (h j hj).2⟩

theorem Confined.onlyAt {i : Spout} {s t : State} (h : Confined i s t) : OnlyAt i s t :=
  fun j hj => ⟨(h.others j hj).load, (h.others j hj).gate⟩

theorem SpoutsStand.onlyAt {s t : State} (h : SpoutsStand s t) (i : Spout) : OnlyAt i s t :=
  fun j _ => ⟨h.loadOf j, h.gateOf j⟩

/-! ### What some operations leave of the spouts -/

theorem openValve_stands (s : State) : SpoutsStand s (openValve s) := by
  rw [openValve_eq]
  exact ⟨rfl, rfl⟩

theorem closeValve_stands (next : RefillState) (s : State) : SpoutsStand s (closeValve next s) := by
  rw [closeValve_eq]
  exact ⟨rfl, rfl⟩

theorem leftDribble_stands (i : Spout) (m : GateMode) (s : State) : SpoutsStand s (leftDribble i m s) := by
  rw [leftDribble_eq]
  exact ⟨rfl, rfl⟩

theorem gateOf_gateToClosing (i : Spout) (s : State) :
    gateOf (gateToClosing i s) i = { gateOf s i with mode := .closing, command := 0, closeTimer := some 0 } := by
  simp [gateToClosing, gateOf_leftDribble]

theorem gateOf_dropPending (i : Spout) (s : State) :
    gateOf (dropPending i s) i = { gateOf s i with pendingGrant := none } := by
  unfold dropPending
  split
  · simp
  · next h =>
    have ungranted : (gateOf s i).pendingGrant = none := by simpa using h
    rw [← ungranted]

theorem loadOf_dropPending (i j : Spout) (s : State) : loadOf (dropPending i s) j = loadOf s j := by
  unfold dropPending
  split <;> rfl

/-- An opening of a gate neither gives it a grant nor begins a tail. -/
theorem gateOf_gateOpen (i : Spout) (s : State) :
    (gateOf (gateOpen i s) i).pendingGrant = (gateOf s i).pendingGrant ∧
      (gateOf (gateOpen i s) i).tail = (gateOf s i).tail := by
  unfold gateOpen
  split
  · exact ⟨rfl, rfl⟩
  · dsimp only
    split
    · simp
    · have entered : ∀ t, gateOf (dribbleEntered i t) i = gateOf t i := fun _ => rfl
      simp [entered]

theorem loadOf_gateOpen (i j : Spout) (s : State) : loadOf (gateOpen i s) j = loadOf s j := by
  unfold gateOpen
  split
  · rfl
  · dsimp only
    split <;> rfl

theorem setLoad_setLoad (s : State) (i : Spout) (l x : Option Load) : setLoad (setLoad s i l) i x = setLoad s i x := by
  simp only [setLoad, State.withLm, PerSpout.set_set]

namespace SpoutsAgree

variable {s : State}

/-! ### Single changes -/

theorem stands (h : SpoutsAgree s) {t : State} (k : SpoutsStand s t) : SpoutsAgree t := fun i => by
  rw [k.loadOf, k.gateOf]
  exact h i

/-- An operation of one spout is judged at that spout. -/
theorem at_spout (h : SpoutsAgree s) {i : Spout} {t : State} (only : OnlyAt i s t)
    (at_i : SpoutAgrees (loadOf t i) (gateOf t i)) : SpoutsAgree t := fun j => by
  by_cases hj : j = i
  · exact hj ▸ at_i
  · rw [(only j hj).1, (only j hj).2]
    exact h j

theorem setLoad (h : SpoutsAgree s) (i : Spout) {l : Option Load} (hl : SpoutAgrees l (gateOf s i)) :
    SpoutsAgree (setLoad s i l) :=
  h.at_spout (setLoad_confined s i l).onlyAt (by rw [loadOf_setLoad_same, gateOf_setLoad]; exact hl)

/-- A change of a load that keeps its state, its causes and its masses. -/
theorem setLoad_congr (h : SpoutsAgree s) {i : Spout} {l x : Load} (hl : loadOf s i = some l) (state : x.state = l.state)
    (causes : x.causes = l.causes) (gravimetric : x.gravimetric = l.gravimetric) (d : x.d = l.d) :
    SpoutsAgree (Machine.setLoad s i (some x)) := by
  have before := h i
  rw [hl] at before
  exact h.setLoad i (before.load state ((before.sound l rfl).congr state causes gravimetric d))

theorem setGate (h : SpoutsAgree s) (i : Spout) {g : Gate} (hg : SpoutAgrees (loadOf s i) g) :
    SpoutsAgree (setGate s i g) :=
  h.at_spout (setGate_confined s i g).onlyAt (by rw [gateOf_setGate_same, loadOf_setGate]; exact hg)

/-- A change of a gate that keeps its mode, its pending grant and whether it judges a tail. -/
theorem setGate_congr (h : SpoutsAgree s) (i : Spout) {g : Gate} (mode : g.mode = (gateOf s i).mode)
    (pending : g.pendingGrant = (gateOf s i).pendingGrant) (tail : g.tail.isSome → (gateOf s i).tail.isSome) :
    SpoutsAgree (Machine.setGate s i g) :=
  h.setGate i ((h i).gate (fun n => mode ▸ n) (fun n => .inl (mode.trans n)) (.inl pending) tail)

theorem setCommand (h : SpoutsAgree s) (i : Spout) (c : Nat) : SpoutsAgree (setCommand i c s) :=
  (h.setGate_congr i (g := { gateOf s i with command := c }) rfl rfl id).stands ⟨rfl, rfl⟩

theorem eachSpout (h : SpoutsAgree s) {f : Spout → State → State}
    (hf : ∀ i t, SpoutsAgree t → SpoutsAgree (f i t)) : SpoutsAgree (eachSpout f s) :=
  eachSpout_preserves (P := SpoutsAgree) hf h

/-! ### Holds and releases -/

theorem lmHold (h : SpoutsAgree s) (cs : List Cause) (i : Spout) : SpoutsAgree (lmHold cs i s) := by
  by_cases hcs : cs = []
  · rw [Machine.lmHold, if_pos hcs]
    exact h
  refine h.at_spout (lmHold_confined cs i s).onlyAt ?_
  obtain ⟨closes, leaves⟩ := gateOf_lmHold hcs i s
  rw [loadOf_lmHold hcs]
  have before := h i
  cases hl : loadOf s i with
  | none =>
    rw [(leaves fun l n => by rw [hl] at n; cases n).1]
    rwa [hl] at before
  | some l =>
    rw [hl] at before
    have held := before.heldBy hcs
    by_cases hd : l.state = .discharging
    · rw [(closes l hl hd).1]
      rwa [if_pos hd] at held
    · rw [(leaves fun x n => by rw [hl] at n; cases n; exact hd).1]
      rwa [if_neg hd] at held

theorem dbaRequest (h : SpoutsAgree s) (i : Spout) (l : Load) : SpoutsAgree (dbaRequest i l s) := by
  unfold Machine.dbaRequest
  split
  · exact h
  · split
    · exact h.lmHold _ i
    · exact h.stands ⟨rfl, rfl⟩

/-- A load left without a cause enters WAITING, its gate at rest (R121). -/
theorem enterWaiting (h : SpoutsAgree s) {i : Spout} {l x : Load} (hl : loadOf s i = some l) (rests : (gateOf s i).Rests)
    (clear : x.causes = .none) (gravimetric : x.gravimetric = l.gravimetric) (d : x.d = l.d) :
    SpoutsAgree (enterWaiting i (Machine.setLoad s i (some x))) := by
  have sound := ((h i).sound l hl).congr (x := { l with gravimetric := x.gravimetric, d := x.d }) rfl rfl gravimetric d
  have waiting : SpoutsAgree (Machine.setLoad s i (some { x with state := .waiting })) := by
    refine h.setLoad i (rests.agrees fun y hy => ?_)
    cases hy
    exact ⟨iff_of_false nofun (not_not.mpr clear), sound.credited, sound.bounded⟩
  unfold Machine.enterWaiting
  rw [loadOf_setLoad_same]
  dsimp only
  rw [setLoad_setLoad]
  exact waiting.dbaRequest i _

/-- A HELD load's gate is at rest, and the load stays HELD with the causes that are left. -/
theorem setCauses (h : SpoutsAgree s) {i : Spout} {l : Load} (hl : loadOf s i = some l) (held : l.state = .held) :
    (gateOf s i).Rests ∧
      ∀ c : Causes, c ≠ .none → SpoutsAgree (Machine.setLoad s i (some { l with causes := c })) := by
  have before := h i
  rw [hl] at before
  have rests := before.rests_of_state (by rw [held]; exact nofun) (by rw [held]; exact nofun)
  refine ⟨rests, fun c left => h.setLoad i (rests.agrees fun y hy => ?_)⟩
  cases hy
  exact ⟨iff_of_true held left, (before.sound l rfl).credited, (before.sound l rfl).bounded⟩

theorem lmLift (h : SpoutsAgree s) (c : Cause) (i : Spout) : SpoutsAgree (lmLift c i s) := by
  unfold Machine.lmLift
  split
  · exact h
  · next l hl =>
    split
    · next lifted =>
      obtain ⟨rests, stays⟩ := h.setCauses hl lifted.1
      dsimp only
      split
      · next clear => exact h.enterWaiting hl rests clear rfl rfl
      · next left => exact stays _ left
    · exact h

/-! ### Grants, demands and `settle` -/

/-- A gate that takes a grant for a DISCHARGING load (R90, R91). -/
theorem gateTakeGrant (h : SpoutsAgree s) {i : Spout} {l : Load} (hl : loadOf s i = some l)
    (discharging : l.state = .discharging) (a : Allocation) (ungranted : (gateOf s i).pendingGrant = none) :
    SpoutsAgree (gateTakeGrant i a s) := by
  have before := h i
  rw [hl] at before
  have untailed := before.untailed fun x hx => by cases hx; rw [discharging]; exact nofun
  have sound := before.sound l rfl
  unfold Machine.gateTakeGrant
  split
  · obtain ⟨pending, tail⟩ := gateOf_gateOpen i s
    refine h.at_spout (gateOpen_confined i s).onlyAt ?_
    rw [loadOf_gateOpen, hl]
    exact .of_discharging sound discharging (fun n => by simp [pending, ungranted] at n) (tail.trans untailed)
  · next closing =>
    refine h.setGate i ?_
    rw [hl]
    exact .of_discharging sound discharging (fun _ => closing) untailed
  · exact h

theorem grantTaken (h : SpoutsAgree s) (q : QueuePlace) (a : Allocation) : SpoutsAgree (grantTaken q a s) := by
  unfold Machine.grantTaken
  split
  · exact h
  · next l hl =>
    split
    · next reaches =>
      have before := h q.spout
      rw [hl] at before
      have unheld : l.state ≠ .held := by rw [reaches.2]; exact nofun
      have rests := before.rests_of_state (by rw [reaches.2]; exact nofun) (by rw [reaches.2]; exact nofun)
      have sound : Load.Sound { l with state := .discharging } := (before.sound l rfl).moves unheld nofun rfl rfl rfl
      have granted := h.setLoad q.spout (l := some { l with state := .discharging })
        (rests.agrees fun y hy => by cases hy; exact sound)
      exact granted.gateTakeGrant (loadOf_setLoad_same _ _ _) rfl a rests.ungranted
    · exact h

theorem grant (h : SpoutsAgree s) (q : QueuePlace) (rest : List QueuePlace) : SpoutsAgree (grant q rest s) := by
  have recorded : ∀ x, SpoutsAgree (s.withDba x) := fun x => h.stands ⟨rfl, rfl⟩
  exact (recorded _).grantTaken q { load := q.load, rate := headRate (working s) q }

theorem examine (h : SpoutsAgree s) : SpoutsAgree (examine s) :=
  examine_preserves (fun q rest _ ht _ _ => ht.grant q rest) h

theorem rejudge (h : SpoutsAgree s) : SpoutsAgree (rejudge s) := by
  have recorded := h.stands (t := recordDemands (.of (demandOf s)) s) ⟨rfl, rfl⟩
  refine recorded.eachSpout fun i t ht => ?_
  unfold demandChanged
  split
  · exact ht.lmHold _ i
  · split
    · exact ht.lmLift _ i
    · exact ht

theorem settle (h : SpoutsAgree s) : SpoutsAgree (settle s) :=
  settle_preserves (fun _ ht => ht.examine) (fun _ ht => ht.rejudge) h

/-! ### Conditions of the whole bin -/

theorem lmSense (h : SpoutsAgree s) (seeking : Bool) : SpoutsAgree (lmSense seeking s) := by
  have recorded := h.stands (t := recordSeeking seeking s) ⟨rfl, rfl⟩
  unfold Machine.lmSense
  dsimp only
  split
  · exact recorded.eachSpout fun i _ ht => ht.lmHold _ i
  · exact recorded.eachSpout fun i _ ht => ht.lmLift _ i

theorem lmStarve (h : SpoutsAgree s) (on : Bool) : SpoutsAgree (lmStarve on s) := by
  have recorded := h.stands (t := s.withLm { s.lm with starved := on }) ⟨rfl, rfl⟩
  unfold Machine.lmStarve
  dsimp only
  split
  · exact recorded.eachSpout fun i _ ht => ht.lmHold _ i
  · exact recorded.eachSpout fun i _ ht => ht.lmLift _ i

theorem lmAeration (h : SpoutsAgree s) (low : Bool) : SpoutsAgree (lmAeration low s) := by
  have recorded := h.stands (t := s.withLm { s.lm with aerationLow := low }) ⟨rfl, rfl⟩
  unfold Machine.lmAeration
  dsimp only
  split
  · exact recorded.eachSpout fun i _ ht => ht.lmHold _ i
  · exact recorded.eachSpout fun i _ ht => ht.lmLift _ i

theorem lmBudgetRise (h : SpoutsAgree s) : SpoutsAgree (lmBudgetRise s) := by
  have lifts : ∀ c {t}, SpoutsAgree t → SpoutsAgree (Machine.eachSpout (Machine.lmLift c) t) :=
    fun c {_} ht => ht.eachSpout fun i _ hu => hu.lmLift c i
  unfold Machine.lmBudgetRise
  dsimp only
  split <;> split
  · exact h
  · exact lifts _ h
  · exact lifts _ h
  · exact lifts _ (lifts _ h)

theorem recomputeBudget (h : SpoutsAgree s) : SpoutsAgree (recomputeBudget s) := by
  have recomputed : ∀ x, SpoutsAgree (s.withDba x) := fun x => h.stands ⟨rfl, rfl⟩
  unfold Machine.recomputeBudget
  dsimp only
  split
  · exact (recomputed _).lmBudgetRise
  · exact recomputed _

theorem revoke (h : SpoutsAgree s) : SpoutsAgree (revoke s) := by
  have emptied : ∀ x, SpoutsAgree (s.withDba x) := fun x => h.stands ⟨rfl, rfl⟩
  refine (emptied _).eachSpout fun i t ht => ?_
  split
  · exact ht.lmHold _ i
  · exact ht

theorem dbaSupply (h : SpoutsAgree s) (aerationLow starved : Bool) : SpoutsAgree (dbaSupply aerationLow starved s) := by
  have told : ∀ x, SpoutsAgree (Machine.recomputeBudget (s.withDba x)) := fun x =>
    (h.stands (t := s.withDba x) ⟨rfl, rfl⟩).recomputeBudget
  unfold Machine.dbaSupply
  dsimp only
  split
  · exact (told _).revoke
  · exact told _

end SpoutsAgree

end Sys2Proof.Machine
end

section
/-! The Gate Controllers, the ends of loads and the frame path (O10), in the views of the sections before. -/

namespace Sys2Proof.Machine

/-! ### What these operations leave of the spouts -/

/-- A window step moves a gate among the discharging modes alone (R92 to R96). -/
theorem steppedGate_mode (w : Params) (a : Nat) (g : Gate) :
    (steppedGate w a g).mode.discharging = g.mode.discharging ∧
      (g.mode = .closing → (steppedGate w a g).mode = .closing) ∧
      (steppedGate w a g).pendingGrant = g.pendingGrant := by
  unfold steppedGate
  dsimp only
  split
  · next opening =>
    unfold openingStep
    dsimp only at opening ⊢
    rw [opening]
    split
    · exact ⟨rfl, nofun, rfl⟩
    · refine ⟨?_, nofun, rfl⟩
      dsimp only
      split <;> rfl
  · unfold regulatingStep; split <;> exact ⟨rfl, id, rfl⟩
  · unfold dribbleStep; split <;> exact ⟨rfl, id, rfl⟩
  · exact ⟨rfl, id, rfl⟩

/-- The gate after the end of its load: with a tail's end it stands, with any other it loses its tail and its grant
(R110, R133). -/
def gatesAfterEnd (i : Spout) (tailEnd : Bool) (s : State) : PerSpout Gate :=
  if tailEnd then s.gate
  else s.gate.set i { gateOf s i with tail := none, cutoff := none, pendingGrant := none }

theorem endLoad_spouts {i : Spout} {l : Load} (cause : EndCause) (tailEnd : Bool) {s : State}
    (hl : loadOf s i = some l) : (endLoad i cause tailEnd s).lm.slot = s.lm.slot.set i none ∧
      (endLoad i cause tailEnd s).gate = gatesAfterEnd i tailEnd s := by
  cases tailEnd with
  | false => rw [endLoad_eq cause hl]; exact ⟨rfl, rfl⟩
  | true =>
    have unfolded : endLoad i cause true s =
        emptySlot i (complete i l cause (oauLoadEnded i l.number (removedClaim i l s))) := by
      simp only [endLoad, hl, removedClaim, if_true]
    rw [unfolded, complete_eq, oauLoadEnded_eq, removedClaim_eq]
    exact ⟨rfl, rfl⟩

theorem endLoad_of_none {i : Spout} (cause : EndCause) (tailEnd : Bool) {s : State} (hl : loadOf s i = none) :
    endLoad i cause tailEnd s = s := by
  simp only [endLoad, hl]

theorem latchFault_stands (i : Spout) (kind : FaultKind) (s : State) : SpoutsStand s (latchFault i kind s) := by
  rw [latchFault_eq]
  exact ⟨rfl, rfl⟩

theorem gateOf_noteLoadFault (i j : Spout) (f : Load → Load) (s : State) :
    gateOf (noteLoadFault i f s) j = gateOf s j := by
  unfold noteLoadFault
  split <;> rfl

/-- A gate that enters FAULT is shut and waits for no grant; the load and the tail stand until the load's end (R106). -/
theorem gateToFault_spouts (i : Spout) (s : State) : (gateToFault i s).lm.slot = s.lm.slot ∧
    (gateToFault i s).gate = (gateFaulted i s).gate := by
  obtain ⟨lm, gate, -⟩ := faultReleased_parts i s
  have left := leftDribble_stands i (gateOf s i).mode (faultReleased i s)
  rw [gateToFault_eq]
  exact ⟨left.slot.trans (congrArg Lm.slot lm), left.gate.trans gate⟩

theorem learnTail_stands (i : Spout) (l : Load) (s : State) : SpoutsStand s (learnTail i l s) := by
  obtain ⟨x, learned⟩ := learnTail_eq i l s
  rw [learned]
  exact ⟨rfl, rfl⟩

theorem oauReport_stands (gravimetric : Bool) (credits : PerSpout Nat) (s : State) :
    SpoutsStand s (oauReport gravimetric credits s) := by
  unfold oauReport
  dsimp only
  split <;> exact ⟨rfl, rfl⟩

theorem oauVolumetric_stands (m : PerSpout Nat) (s : State) : SpoutsStand s (oauVolumetric m s) :=
  (oauReport_stands false m s).trans ⟨rfl, rfl⟩

theorem oauGravimetric_stands (f : Nat) (m : PerSpout Nat) (s : State) : SpoutsStand s (oauGravimetric f m s) := by
  have accounted : ∀ g x, SpoutsStand s (addUnassigned g (s.withOau x)) := fun _ _ => ⟨rfl, rfl⟩
  exact ((accounted _ _).trans (oauReport_stands true _ _)).trans ⟨rfl, rfl⟩

theorem oauClose_stands (e : Entry) (mode : Mode) (f : Nat) (s : State) : SpoutsStand s (oauClose e mode f s) := by
  have reported : SpoutsStand s (oauModeReport mode s) := ⟨rfl, rfl⟩
  unfold oauClose
  dsimp only
  split
  · exact reported.trans (oauGravimetric_stands f e.m _)
  · exact reported.trans (oauVolumetric_stands e.m _)

theorem refillTests_stands (w : Params) (level : Int) (s : State) : SpoutsStand s (refillTests w level s) := by
  unfold refillTests
  split
  · split
    · split
      · exact ⟨rfl, rfl⟩
      · exact openValve_stands s
    · exact .refl s
  · split
    · exact openValve_stands s
    · split
      · exact ⟨rfl, rfl⟩
      · exact .refl s
  · split
    · exact closeValve_stands .idle s
    · exact .refl s
  · exact .refl s

theorem abortZero_stands (s : State) : SpoutsStand s (abortZero s) := by
  rw [abortZero_eq]
  exact ⟨rfl, rfl⟩

theorem zeroWindow_stands (e : Entry) (raw : Int) (good : Nat) (s : State) :
    SpoutsStand s (zeroWindow e raw good s) := by
  unfold zeroWindow
  dsimp only
  split
  · split
    · rw [bscZeroEnded_eq, bmuEmptyHistory_eq]
      exact ⟨rfl, rfl⟩
    · exact ⟨rfl, rfl⟩
  · exact abortZero_stands s

theorem enterBlind_stands (s : State) : SpoutsStand s (enterBlind s) :=
  ⟨congrArg Lm.slot (enterBlind_frame s).lm, (enterBlind_frame s).gate⟩

theorem frameTaken_stands (f : InFrame) (n : Nat) (s : State) : SpoutsStand s (frameTaken f n s) :=
  ⟨congrArg Lm.slot (frameTaken_lm f n s), frameTaken_gate f n s⟩

theorem bmuMarkDisturbed_stands (s : State) : SpoutsStand s (bmuMarkDisturbed s) := by
  rw [bmuMarkDisturbed_eq]
  exact ⟨rfl, rfl⟩

namespace SpoutsAgree

variable {s : State}

/-! ### The Gate Controllers -/

theorem reportAeration (h : SpoutsAgree s) : SpoutsAgree (reportAeration s) := (h.dbaSupply _ _).lmAeration _

theorem reportStarve (h : SpoutsAgree s) : SpoutsAgree (reportStarve s) := (h.dbaSupply _ _).lmStarve _

theorem windowStep (h : SpoutsAgree s) (i : Spout) : SpoutsAgree (windowStep i s) := by
  obtain ⟨discharging, closing, pending⟩ := steppedGate_mode (working s) (rateOf s.dba i) (gateOf s i)
  have tail := steppedGate_tail (working s) (rateOf s.dba i) (gateOf s i)
  exact (h.setGate i ((h i).gate (fun n => discharging ▸ n) (fun n => .inl (closing n)) (.inl pending)
    (fun n => tail ▸ n))).setCommand i _

theorem blindStep (h : SpoutsAgree s) (i : Spout) : SpoutsAgree (blindStep i s) := by
  unfold Machine.blindStep
  split
  · exact h.windowStep i
  · exact h

theorem dribbleTest (h : SpoutsAgree s) (i : Spout) (l : Load) : SpoutsAgree (dribbleTest i l s) := by
  unfold Machine.dribbleTest
  split
  · next dribbles =>
    have open_ : (gateOf s i).mode.discharging = true := by
      rcases dribbles.1 with mode | mode <;> rw [mode] <;> rfl
    exact (h.setGate i (g := { gateOf s i with mode := .dribble })
      ((h i).gate (fun _ => open_) (fun _ => .inr ((h i).ungranted open_)) (.inl rfl) id)).stands ⟨rfl, rfl⟩
  · exact h

/-- A grant that waited for the close is taken by the gate of a DISCHARGING load (R91, R103). -/
theorem gateFeedback (h : SpoutsAgree s) (i : Spout) (m : Mark) : SpoutsAgree (gateFeedback i m s) := by
  unfold Machine.gateFeedback
  split
  · split
    · have shut := h.setGate i (g := { gateOf s i with mode := .closed, closeTimer := none, pendingGrant := none })
        ((h i).gate nofun (fun _ => .inr rfl) (.inr rfl) id)
      dsimp only
      split
      · next waits =>
        obtain ⟨l, hl, discharging⟩ := (h i).opened (.inr waits)
        obtain ⟨pending, tail⟩ := gateOf_gateOpen i
          (Machine.setGate s i { gateOf s i with mode := .closed, closeTimer := none, pendingGrant := none })
        rw [gateOf_setGate_same] at pending tail
        refine shut.at_spout (gateOpen_confined i _).onlyAt ?_
        rw [loadOf_gateOpen, loadOf_setGate, hl]
        exact .of_discharging ((h i).sound l hl) discharging (fun n => by simp [pending] at n)
          (tail.trans ((h i).untailed fun x hx => by rw [hl] at hx; cases hx; rw [discharging]; exact nofun))
      · exact shut
    · exact h
  · exact h

theorem feedbackPosition (h : SpoutsAgree s) (p : PositionIn) : SpoutsAgree (feedbackPosition p s) := by
  unfold Machine.feedbackPosition
  split
  · exact h
  · exact h.eachSpout fun i _ ht => ht.gateFeedback i _

/-! ### The ends of loads -/

/-- An end leaves the slot empty, so the gate must be shut before it; a tail's end keeps the gate, which must then be at
rest. -/
theorem endLoad (h : SpoutsAgree s) (i : Spout) (cause : EndCause) {tailEnd : Bool}
    (shut : (gateOf s i).mode.discharging = false) (ends : tailEnd = true → (gateOf s i).Rests) :
    SpoutsAgree (endLoad i cause tailEnd s) := by
  cases hl : loadOf s i with
  | none => rw [endLoad_of_none cause tailEnd hl]; exact h
  | some l =>
    obtain ⟨slot, gates⟩ := endLoad_spouts cause tailEnd hl
    refine h.at_spout (i := i) (fun j hj => ⟨?_, ?_⟩) ?_
    · rw [Machine.loadOf, slot]
      exact PerSpout.get_set_other _ _ hj
    · rw [Machine.gateOf, gates, gatesAfterEnd]
      split
      · rfl
      · exact PerSpout.get_set_other _ _ hj
    · have rests : (gateOf (Machine.endLoad i cause tailEnd s) i).Rests := by
        rw [Machine.gateOf, gates, gatesAfterEnd]
        split
        · next byTail => exact ends byTail
        · rw [PerSpout.get_set_same]
          exact ⟨shut, rfl, rfl⟩
      rw [show Machine.loadOf (Machine.endLoad i cause tailEnd s) i = none from
        (congrArg (PerSpout.get · i) slot).trans (PerSpout.get_set_same _ _ _)]
      exact rests.agrees fun _ hx => by cases hx

/-- A load that is not DISCHARGING ends by another cause than its tail. -/
theorem endStill (h : SpoutsAgree s) (i : Spout) (cause : EndCause)
    (still : ∀ l, loadOf s i = some l → l.state ≠ .discharging) : SpoutsAgree (Machine.endLoad i cause false s) :=
  h.endLoad i cause ((h i).shut still).1 nofun

theorem clearTail (h : SpoutsAgree s) (i : Spout) : SpoutsAgree (clearTail i s) :=
  h.setGate_congr i rfl rfl nofun

/-- A tail ends the TAILING load that it belongs to, whose gate is shut (R109, R131). -/
theorem tailEnds (h : SpoutsAgree s) {i : Spout} (judged : (gateOf s i).tail.isSome) : SpoutsAgree (tailEnds i s) := by
  obtain ⟨l, hl, tailing⟩ := (h i).tailing judged
  obtain ⟨shut, ungranted⟩ := (h i).shut fun x hx => by rw [hl] at hx; cases hx; rw [tailing]; exact nofun
  have learned := learnTail_stands i l s
  have rests : (gateOf (Machine.clearTail i (learnTail i l s)) i).Rests := by
    simp only [Machine.clearTail, gateOf_setGate_same, learned.gateOf]
    exact ⟨shut, ungranted, rfl⟩
  simp only [Machine.tailEnds, hl]
  exact (((h.stands learned).clearTail i).endLoad i _ rests.shut fun _ => rests).settle

theorem tailPosition (h : SpoutsAgree s) {i : Spout} (judged : (gateOf s i).tail.isSome) (t : Tail) (fl : Flow) :
    SpoutsAgree (tailPosition i t fl s) := by
  have taken : ∀ x : Tail, SpoutsAgree (if 5 ≤ x.lowCount then
      Machine.tailEnds i (Machine.setGate s i { gateOf s i with tail := some x })
      else Machine.setGate s i { gateOf s i with tail := some x }) := by
    intro x
    have counted := h.setGate_congr i (g := { gateOf s i with tail := some x }) rfl rfl fun _ => judged
    split
    · exact counted.tailEnds (by rw [gateOf_setGate_same]; rfl)
    · exact counted
  exact taken _

/-- A cutoff shuts the gate of a load that goes to TAILING (R99, R131). -/
theorem cutOff (h : SpoutsAgree s) {i : Spout} {l : Load} (hl : loadOf s i = some l)
    (open_ : (gateOf s i).mode.discharging = true) (fl : Flow) : SpoutsAgree (cutOff i l fl s) := by
  obtain ⟨x, hx, discharging⟩ := (h i).opened (.inl open_)
  rw [hl] at hx
  cases hx
  have shut : ∀ c t f, SpoutAgrees (some { l with state := .tailing, cutoff := c })
      { gateOf (gateToClosing i s) i with cutoff := f, tail := t } := fun c t f => by
    rw [gateOf_gateToClosing]
    exact .of_tailing (((h i).sound l hl).moves (by rw [discharging]; exact nofun) nofun rfl rfl rfl) rfl rfl
      ((h i).ungranted open_)
  unfold Machine.cutOff beginTail
  refine SpoutsAgree.settle (h.at_spout (i := i) ?_ ?_)
  · exact ((gateToClosing_confined i s).trans ((setGate_confined _ i _).trans ((setGate_confined _ i _).trans
      (setLoad_confined _ i _)))).onlyAt
  · rw [loadOf_setLoad_same, gateOf_setLoad, gateOf_setGate_same, gateOf_setGate_same]
    exact shut _ _ _

theorem cutoffCheck (h : SpoutsAgree s) {i : Spout} (open_ : (gateOf s i).mode.discharging = true) (fl : Flow) :
    SpoutsAgree (cutoffCheck i fl s) := by
  unfold Machine.cutoffCheck
  split
  · exact h
  · next l hl =>
    split
    · exact h.cutOff hl open_ fl
    · exact h.dribbleTest i l

theorem gateFlows (h : SpoutsAgree s) (fl : PerSpout Flow) (i : Spout) : SpoutsAgree (gateFlows fl i s) := by
  have counted := h.setGate_congr i (g := { gateOf s i with
    flowSum := (gateOf s i).flowSum + (fl.get i).effective, flowCount := (gateOf s i).flowCount + 1 }) rfl rfl id
  unfold Machine.gateFlows
  refine SpoutsAgree.blindStep ?_ i
  split
  · next t judged => exact counted.tailPosition (by rw [gateOf_setGate_same, judged]; rfl) t _
  · split
    · next open_ => exact counted.cutoffCheck (by rw [gateOf_setGate_same]; exact open_) _
    · exact counted

/-! ### Faults -/

theorem noteLoadFault (h : SpoutsAgree s) (i : Spout) (f : Load → Load)
    (kept : ∀ l, (f l).state = l.state ∧ (f l).causes = l.causes ∧ (f l).gravimetric = l.gravimetric ∧
      (f l).d = l.d) : SpoutsAgree (noteLoadFault i f s) := by
  unfold Machine.noteLoadFault
  split
  · next l hl =>
    obtain ⟨state, causes, gravimetric, d⟩ := kept l
    exact h.setLoad_congr hl state causes gravimetric d
  · exact h

theorem gateToFault (h : SpoutsAgree s) (i : Spout) : SpoutsAgree (gateToFault i s) := by
  obtain ⟨slot, gates⟩ := gateToFault_spouts i s
  have faulted := h.setGate i (g := { gateOf s i with
      mode := .fault, command := 0, closeTimer := none, pendingGrant := none, flowSum := 0, flowCount := 0 })
    ((h i).gate nofun (fun _ => .inr rfl) (.inr rfl) id)
  exact faulted.stands ⟨slot, gates⟩

/-- The gate is in FAULT when the load ends (R106, R135). -/
theorem gateFault (h : SpoutsAgree s) (i : Spout) (kind : FaultKind) : SpoutsAgree (gateFault i kind s) := by
  have noted := ((h.gateToFault i).stands (latchFault_stands i kind _)).noteLoadFault i (·.noteFault kind)
    fun _ => ⟨rfl, rfl, rfl, rfl⟩
  refine (noted.endLoad i .spoutFault (tailEnd := false) ?_ nofun).settle
  rw [gateOf_noteLoadFault, (latchFault_stands i kind _).gateOf, Machine.gateOf, (gateToFault_spouts i s).2, gateFaulted,
    PerSpout.get_set_same]
  rfl

theorem sensorDrift (h : SpoutsAgree s) (i : Spout) : SpoutsAgree (sensorDrift i s) :=
  (h.stands (latchFault_stands i .sensorDrift s)).noteLoadFault i _ fun _ => ⟨rfl, rfl, rfl, rfl⟩

/-! ### The window close and the position -/

theorem learnGain (h : SpoutsAgree s) (mode : Mode) (f : Nat) (i : Spout) : SpoutsAgree (learnGain mode f i s) := by
  have learned : ∀ w x, SpoutsAgree (setWorking (setSensor s i x) w) := fun _ _ => h.stands ⟨rfl, rfl⟩
  have suspended : ∀ x y, SpoutsAgree (setSensor (setSensor s i x) i y) := fun _ _ => h.stands ⟨rfl, rfl⟩
  unfold Machine.learnGain
  dsimp only
  split
  · split
    · exact learned _ _
    · exact (suspended _ _).sensorDrift i
  · exact h

theorem bscClose (h : SpoutsAgree s) : SpoutsAgree (bscClose s) := by
  unfold Machine.bscClose
  split
  · exact h
  · have tested : ∀ w level x, SpoutsAgree (refillTests w level (s.withBsc x)) := fun w level x =>
      (h.stands (t := s.withBsc x) ⟨rfl, rfl⟩).stands (refillTests_stands w level _)
    dsimp only
    split
    · exact tested _ _ _
    · exact (tested _ _ _).reportStarve

theorem windowHandedOn (h : SpoutsAgree s) (e : Entry) : SpoutsAgree (windowHandedOn e s) := by
  have learned := (h.stands (oauClose_stands e s.bmu.mode s.bmu.f s)).eachSpout fun i _ ht =>
    ht.learnGain s.bmu.mode s.bmu.f i
  have stepped := learned.eachSpout fun i _ ht => ht.windowStep i
  exact stepped.bscClose.settle

theorem windowClose (h : SpoutsAgree s) : SpoutsAgree (windowClose s) := by
  have handed : ∀ e, SpoutsAgree (Machine.windowHandedOn e (windowCompleted s)) := fun e =>
    (h.stands (t := windowCompleted s) ⟨rfl, rfl⟩).windowHandedOn e
  rw [windowClose_eq]
  split
  · exact ((handed _).stands (zeroWindow_stands _ _ _ _)).settle
  · exact handed _

theorem bmuPosition (h : SpoutsAgree s) (p : PositionIn) : SpoutsAgree (bmuPosition p s) := by
  have counted : ∀ x, SpoutsAgree (s.withBmu x) := fun _ => h.stands ⟨rfl, rfl⟩
  unfold Machine.bmuPosition
  split
  · split
    · exact (h.stands (t := ssuComplete s) ⟨rfl, rfl⟩).stands (oauVolumetric_stands _ _)
    · exact h
  · dsimp only
    split
    · exact (counted _).windowClose
    · exact counted _

theorem pathOrder (h : SpoutsAgree s) (o : Sched) (p : PositionIn) (fl : PerSpout Flow) :
    SpoutsAgree (pathOrder o p fl s) := by
  have masses : ∀ {t}, SpoutsAgree t → SpoutsAgree (oauPosition fl t) := fun ht => ht.stands ⟨rfl, rfl⟩
  have flows : ∀ {t}, SpoutsAgree t → SpoutsAgree (Machine.eachSpout (Machine.gateFlows fl) t) := fun ht =>
    ht.eachSpout fun i _ hu => hu.gateFlows fl i
  unfold Machine.pathOrder
  split
  · exact (flows (masses h)).bmuPosition p
  · exact (masses (flows h)).bmuPosition p
  · exact flows ((masses h).bmuPosition p)
  · exact masses (flows (h.bmuPosition p))

theorem framePosition (h : SpoutsAgree s) (o : Sched) (p : PositionIn) : SpoutsAgree (framePosition o p s) := by
  have formed : SpoutsAgree (flowsFormed o p s) := by
    unfold flowsFormed
    split
    · exact h
    · exact h.feedbackPosition p
  have followed : ∀ fl, SpoutsAgree (Machine.pathOrder o p fl (ssuPosition p (flowsFormed o p s))) := fun fl =>
    (formed.stands (t := ssuPosition p _) ⟨rfl, rfl⟩).pathOrder o p fl
  rw [framePosition_eq]
  unfold feedbackLast
  split
  · exact (followed _).feedbackPosition p
  · exact followed _

theorem missedPositions (h : SpoutsAgree s) (o : Sched) (n : Nat) : SpoutsAgree (missedPositions o n s) := by
  induction n generalizing s with
  | zero => exact h
  | succ n ih => exact ih (h.framePosition o missedPosition)

end SpoutsAgree

end Sys2Proof.Machine
end

section
/-! The loads are sound under every command and on an empty queue (O10), on the sections before. -/

namespace Sys2Proof.Machine

/-- D takes every credit that the gravimetric mass takes (R62, R132). -/
theorem Load.Sound.takesCredit {l : Load} (h : l.Sound) (gravimetric : Bool) (g : Nat) :
    (l.credited gravimetric g).Sound where
  held := h.held
  credited := by
    have mass := h.credited
    have d := h.bounded
    unfold Load.credited satAdd maxU32
    dsimp only
    split <;> omega
  bounded := Nat.min_le_left _ _

theorem tail_of_tailDue {s : State} {i : Spout} (due : tailDue s i = true) : (gateOf s i).tail.isSome := by
  obtain ⟨x, hx, -⟩ := (tailDue_iff s i).mp due
  simp [hx]

theorem held_of_holdDue {s : State} {i : Spout} (due : holdDue s i = true) {l : Load} (hl : loadOf s i = some l) :
    l.state = .held := by
  obtain ⟨x, hx, held, -⟩ := (holdDue_iff s i).mp due
  rw [hl] at hx
  cases hx
  exact held

theorem closeWithTail_confined (i : Spout) (s : State) : Confined i s (closeWithTail i s) := by
  unfold closeWithTail
  split
  · exact (gateToClosing_confined i s).trans (setGate_confined _ i _)
  · split
    · exact (dropPending_confined i s).trans (setGate_confined _ i _)
    · exact .refl i s

namespace SpoutsAgree

variable {s : State}

/-! ### The link -/

theorem enterSeeking (h : SpoutsAgree s) : SpoutsAgree (enterSeeking s) := by
  have base : SpoutsAgree (seekingBase s) := fun i => by
    rw [loadOf_seekingBase, gateOf_seekingBase]
    exact (h i).gate id .inl (.inl rfl) (by rw [Option.isSome_map]; exact id)
  exact (base.settle.lmSense true).settle

theorem linkRestart (h : SpoutsAgree s) : SpoutsAgree (linkRestart s) :=
  (h.stands (t := s.withSli { s.sli with frameInProgress := false, syncClockUs := 0 }) ⟨rfl, rfl⟩).enterSeeking

theorem takeSequence (h : SpoutsAgree s) (n : Nat) : SpoutsAgree (takeSequence n s) := h.stands ⟨rfl, rfl⟩

theorem acceptFrame (h : SpoutsAgree s) (f : InFrame) (n : Nat) (o : Sched) : SpoutsAgree (acceptFrame f n o s) := by
  rw [acceptFrame_eq]
  exact (h.stands (frameTaken_stands f n s)).settle.framePosition o _

theorem enterLocked (h : SpoutsAgree s) : SpoutsAgree (enterLocked s) :=
  ((h.stands (t := s.withSli { s.sli with lock := .locked }) ⟨rfl, rfl⟩).lmSense false).settle

theorem seekingFrame (h : SpoutsAgree s) (f : InFrame) (n : Nat) (o : Sched) : SpoutsAgree (seekingFrame f n o s) := by
  unfold Machine.seekingFrame
  split
  · exact h.takeSequence n
  · split
    · exact (h.takeSequence n).enterLocked.acceptFrame f n o
    · exact h.takeSequence n

theorem countMissed (h : SpoutsAgree s) (k : Nat) : SpoutsAgree (countMissed k s) := h.stands ⟨rfl, rfl⟩

theorem lockedFrame (h : SpoutsAgree s) (f : InFrame) (n m : Nat) (o : Sched) :
    SpoutsAgree (lockedFrame f n m o s) := by
  unfold Machine.lockedFrame
  dsimp only
  split
  · exact h.countMissed 1
  · split
    · exact h.acceptFrame f n o
    · split
      · exact ((h.countMissed _).missedPositions o _).acceptFrame f n o
      · exact (((h.stands (bmuMarkDisturbed_stands s)).countMissed _).missedPositions o 3).acceptFrame f n o

theorem frameArrives (h : SpoutsAgree s) (f : InFrame) (o : Sched) : SpoutsAgree (frameArrives f o s) := by
  have arrived := h.stands (t := s.withSli { s.sli with frameInProgress := false }) ⟨rfl, rfl⟩
  unfold Machine.frameArrives
  dsimp only
  split
  · exact arrived.stands ⟨rfl, rfl⟩
  · split
    · exact arrived.seekingFrame f _ o
    · split
      · exact arrived.lockedFrame f _ _ o
      · exact arrived.acceptFrame f _ o

theorem earlySync (h : SpoutsAgree s) : SpoutsAgree (earlySync s) := by
  rw [earlySync_eq]
  exact h.stands ⟨rfl, rfl⟩

theorem lockExpires (h : SpoutsAgree s) : SpoutsAgree (lockExpires s) := by
  unfold Machine.lockExpires
  split
  · split
    · exact h.enterSeeking
    · exact h.stands ⟨rfl, rfl⟩
  · exact h

theorem setChannel (h : SpoutsAgree s) (c : Chan) (x : Channel) : SpoutsAgree (setChannel s c x) := by
  cases c <;> exact h.stands ⟨rfl, rfl⟩

theorem staleExpires (h : SpoutsAgree s) (c : Chan) : SpoutsAgree (staleExpires c s) := by
  have stale := h.setChannel c (channelOf s c).goStale
  unfold Machine.staleExpires staleReport
  dsimp only
  split
  · split
    · exact (stale.stands (enterBlind_stands _)).settle
    · exact stale.settle
    · split
      · exact stale.gateFault _ .gateFeedback
      · exact stale
  · exact h

theorem linkExpires (h : SpoutsAgree s) (i : Spout) : SpoutsAgree (linkExpires i s) := by
  have stopped := h.stands (t := s.withLm { s.lm with linkTimer := s.lm.linkTimer.set i none }) ⟨rfl, rfl⟩
  exact (stopped.lmHold [.link] i).settle

/-! ### The lines, the window report, the restarts and the time base -/

theorem countTrip (h : SpoutsAgree s) (i : Spout) : SpoutsAgree (countTrip i s) := by
  unfold Machine.countTrip
  split
  · next l hl =>
    split
    · exact h.setLoad_congr hl rfl rfl rfl rfl
    · exact h
  · exact h

theorem applyCredit (h : SpoutsAgree s) (r : WindowReport) (i : Spout) : SpoutsAgree (applyCredit r i s) := by
  have returned : ∀ g, SpoutsAgree (addUnassigned g s) := fun _ => h.stands ⟨rfl, rfl⟩
  unfold Machine.applyCredit
  split
  · exact h
  · split
    · next l hl =>
      split
      · have before := h i
        rw [hl] at before
        exact h.setLoad i (before.load rfl ((before.sound l rfl).takesCredit _ _))
      · split
        · exact returned _
        · exact h
    · split
      · exact returned _
      · exact h

theorem applyReport (h : SpoutsAgree s) : SpoutsAgree (applyReport s) := by
  unfold Machine.applyReport
  split
  · exact h
  · next r rest _ =>
    have taken := h.stands (t := s.withOau { s.oau with reports := rest }) ⟨rfl, rfl⟩
    refine (taken.eachSpout fun i _ ht => ht.applyCredit r i).eachSpout fun i t ht => ?_
    rw [oauApplied_eq]
    exact ht.stands ⟨rfl, rfl⟩

/-- Every restart, and a loss of power, leaves the slots empty and the gates at rest. -/
theorem of_reset (slot : s.lm.slot = .all none) (gate : s.gate = .all .reset) : SpoutsAgree s := fun i => by
  have rests : Gate.reset.Rests := ⟨rfl, rfl, rfl⟩
  rw [loadOf, gateOf, slot, gate, PerSpout.get_all, PerSpout.get_all]
  exact rests.agrees fun _ hx => by cases hx

/-- A millisecond keeps the states, causes and masses, and begins no tail. -/
theorem tick (h : SpoutsAgree s) : SpoutsAgree (tick s) := fun i => by
  have gate : SpoutAgrees (loadOf s i) (gateOf (Machine.tick s) i) := by
    rw [gateOf_tick]
    exact (h i).gate id .inl (.inl rfl) (by unfold Gate.tick; rw [Option.isSome_map]; exact id)
  rw [loadOf_tick]
  cases hl : loadOf s i with
  | none => rwa [hl] at gate
  | some l =>
    rw [hl] at gate
    have sound := gate.sound l rfl
    rw [Option.map_some]
    unfold Load.tick
    split
    · exact gate.load rfl (sound.congr rfl rfl rfl rfl)
    · exact gate

theorem idle (h : SpoutsAgree s) : SpoutsAgree (idle s) := by
  unfold Machine.idle
  split
  · split
    · exact h.tick
    · exact h.stands ⟨rfl, rfl⟩
  · exact h

/-! ### The ports -/

theorem replyEnds (h : SpoutsAgree s) (p : Port) (r : Reply) : SpoutsAgree (replyEnds p r s) := by
  have ended : ∀ q x, SpoutsAgree (setPort s q x) := fun q x => h.stands (by cases q <;> exact ⟨rfl, rfl⟩)
  unfold Machine.replyEnds
  split
  · exact ended _ _
  · dsimp only
    split
    · exact (ended _ _).stands ⟨rfl, rfl⟩
    · exact ended _ _

theorem setPort (h : SpoutsAgree s) (p : Port) (x : PortState) : SpoutsAgree (setPort s p x) :=
  h.stands (by cases p <;> exact ⟨rfl, rfl⟩)

theorem takeRequest (h : SpoutsAgree s) (p : Port) (c : Instr) : SpoutsAgree (takeRequest p c s) := by
  have taken := h.setPort p { portOf s p with
    receive := .answering, buffer := [], gapTimer := none, request := some c, reply := none }
  unfold Machine.takeRequest restartLinkTimer
  dsimp only
  split
  · split
    · exact taken.stands ⟨rfl, rfl⟩
    · exact taken
  · exact taken

theorem answer (h : SpoutsAgree s) (p : Port) (kind : Byte) (r : Result) (fields : List Byte) :
    SpoutsAgree (answer p kind r fields s) := h.setPort p _

theorem withRequest (h : SpoutsAgree s) (p : Port) (c : Instr) {serve : State → State}
    (hs : ∀ t, SpoutsAgree t → SpoutsAgree (serve t)) : SpoutsAgree (withRequest p c serve s) := by
  unfold Machine.withRequest
  split
  · exact hs _ (h.takeRequest p c)
  · exact h

/-- A bay request's act decides (R173). -/
theorem serveBay (h : SpoutsAgree s) (c : Instr) (p : Port) (kind : Byte) (len want : Nat) (formats : Bool)
    {act : Spout → State → Answer} (ha : ∀ i t, SpoutsAgree t → SpoutsAgree (act i t).state) :
    SpoutsAgree (serveBay c p kind len want formats act s) := by
  refine h.withRequest p c fun t ht => ?_
  split
  · exact ht.answer _ _ _ _
  · split
    · exact ht.answer _ _ _ _
    · exact (ha _ t ht).answer _ _ _ _

theorem serveDispatch (h : SpoutsAgree s) (c : Instr) (p : Port) (kind : Byte) (len want : Nat) (formats : Bool)
    {act : State → Answer} (ha : ∀ t, SpoutsAgree t → SpoutsAgree (act t).state) :
    SpoutsAgree (serveDispatch c p kind len want formats act s) := by
  refine h.withRequest p c fun t ht => ?_
  split
  · exact ht.answer _ _ _ _
  · split
    · exact ht.answer _ _ _ _
    · exact (ha t ht).answer _ _ _ _

/-! ### The bay requests -/

/-- A new load, ARMED and of no mass, fills a slot whose gate is at rest (R116, R119). -/
theorem openLoad (h : SpoutsAgree s) (ref : Ref) (requested rate : Nat) (i : Spout) :
    SpoutsAgree (openLoad ref requested rate i s).state := by
  unfold Machine.openLoad
  split
  · exact h
  · next passes =>
    have empty : loadOf s i = none := by
      unfold openRefusal at passes
      split at passes
      · cases passes
      · next n => simpa using n
    have filled : ∀ target rate, SpoutsAgree (fillSlot i (newLoad s ref target rate) (reserve ref target s)) := by
      intro target rate
      have at_i := h i
      rw [empty] at at_i
      have loaded := h.setLoad i (l := some (newLoad s ref target rate)) (at_i.rests_of_empty.agrees fun x hx => by
        cases hx; exact ⟨⟨nofun, fun n => absurd rfl n⟩, le_rfl, Nat.zero_le _⟩)
      exact loaded.stands ⟨rfl, rfl⟩
    split
    · exact h
    · dsimp only
      split
      · exact h
      · exact (filled _ _).settle

theorem startLoad (h : SpoutsAgree s) (i : Spout) : SpoutsAgree (startLoad i s).state := by
  unfold Machine.startLoad
  split
  · exact h
  · next l hl =>
    split
    · next armed =>
      have at_i := h i
      rw [hl] at at_i
      have rests := at_i.rests_of_state (by rw [armed]; exact nofun) (by rw [armed]; exact nofun)
      have clear := (at_i.sound l rfl).causes_eq_none (by rw [armed]; exact nofun)
      have waiting := h.enterWaiting hl rests clear rfl rfl
      rw [← hl, setLoad_loadOf] at waiting
      split
      · exact waiting.settle
      · exact h
    · exact h

theorem holdLoad (h : SpoutsAgree s) (i : Spout) : SpoutsAgree (holdLoad i s).state := by
  unfold Machine.holdLoad
  split
  · exact h
  · split
    · exact h
    · exact h
    · exact (h.lmHold _ i).settle

theorem resumeLoad (h : SpoutsAgree s) (i : Spout) : SpoutsAgree (resumeLoad i s).state := by
  unfold Machine.resumeLoad
  split
  · exact h
  · next l hl =>
    split
    · next held =>
      obtain ⟨rests, stays⟩ := h.setCauses hl held
      dsimp only
      split
      · next clear =>
        exact (h.enterWaiting (x := { l with causes := resumedCauses _ l.causes }) hl rests clear rfl rfl).settle
      · next left => exact stays _ left
    · exact h

/-- FINISH closes the gate of a load that goes from DISCHARGING to TAILING (R102, R130). -/
theorem finishDischarging (h : SpoutsAgree s) {i : Spout} {l : Load} (hl : loadOf s i = some l)
    (discharging : l.state = .discharging) :
    SpoutsAgree (closeWithTail i (Machine.setLoad s i (some { l with state := .tailing, finished := true }))) := by
  let x : Load := { l with state := .tailing, finished := true }
  let t := Machine.setLoad s i (some x)
  have sound : x.Sound := ((h i).sound l hl).moves (by rw [discharging]; exact nofun) nofun rfl rfl rfl
  have load : loadOf t i = some x := loadOf_setLoad_same _ _ _
  have gate : gateOf t i = gateOf s i := gateOf_setLoad _ _ _ _
  refine h.at_spout ((setLoad_confined s i (some x)).trans (closeWithTail_confined i t)).onlyAt ?_
  show SpoutAgrees (loadOf (closeWithTail i t) i) (gateOf (closeWithTail i t) i)
  unfold closeWithTail beginTail
  split
  · next open_ =>
    rw [loadOf_setGate, loadOf_gateToClosing, load, gateOf_setGate_same, gateOf_gateToClosing, gate]
    exact .of_tailing sound rfl rfl ((h i).ungranted (gate ▸ open_))
  · next shut =>
    rw [gate] at shut
    split
    · rw [loadOf_setGate, loadOf_dropPending, load, gateOf_setGate_same, gateOf_dropPending, gate]
      exact .of_tailing sound rfl (by simpa using shut) rfl
    · next unpended =>
      rw [load, gate]
      rw [gate] at unpended
      refine .of_tailing sound rfl (by simpa using shut) ?_
      by_contra n
      have waits := Option.isSome_iff_ne_none.mpr n
      exact unpended ⟨(h i).pendingCloses waits, waits⟩

theorem finishLoad (h : SpoutsAgree s) (i : Spout) : SpoutsAgree (finishLoad i s).state := by
  unfold Machine.finishLoad
  split
  · exact h
  · next l hl =>
    split
    · exact h
    · next discharging => exact (h.finishDischarging hl discharging).settle
    · next _ still => exact (h.endStill i .finished fun x hx => by rw [hl] at hx; cases hx; exact still).settle

theorem clearFault (h : SpoutsAgree s) (i : Spout) : SpoutsAgree (clearFault i s).state := by
  have cleared : ∀ x y, SpoutsAgree (setSensor (setLatch s i x) i y) := fun _ _ => h.stands ⟨rfl, rfl⟩
  unfold Machine.clearFault
  split
  · show SpoutsAgree (unfault i _)
    unfold unfault
    split
    · next fault =>
      exact (cleared _ _).setGate i ((cleared _ _ i).gate nofun (fun n => by rw [fault] at n; cases n) (.inl rfl) id)
    · exact cleared _ _
  · exact h

/-! ### The dispatch requests -/

theorem postOrder (h : SpoutsAgree s) (ref : Ref) (mass : Nat) (bays : PerSpout Bool) (tolerance : Nat) :
    SpoutsAgree (postOrder ref mass bays tolerance s).state := by
  unfold Machine.postOrder
  split
  · exact h
  · split
    · exact h
    · split
      · exact h
      · exact h.stands ⟨rfl, rfl⟩

theorem cancelOrder (h : SpoutsAgree s) (ref : Ref) : SpoutsAgree (cancelOrder ref s).state := by
  unfold Machine.cancelOrder
  split
  · exact h
  · exact h.stands ⟨rfl, rfl⟩

theorem removeOrder (h : SpoutsAgree s) (ref : Ref) : SpoutsAgree (removeOrder ref s).state := by
  unfold Machine.removeOrder
  split
  · exact h
  · split
    · exact h
    · exact h.stands ⟨rfl, rfl⟩

theorem takeTicket (h : SpoutsAgree s) (n : Nat) : SpoutsAgree (takeTicket n s).state := by
  unfold Machine.takeTicket
  split
  · exact h
  · split
    · exact h.stands ⟨rfl, rfl⟩
    · exact h

theorem paramEffect (h : SpoutsAgree s) (p : ParamId) : SpoutsAgree (paramEffect p s) := by
  have emptied : SpoutsAgree (bmuEmptyHistory s) := h.stands (by rw [bmuEmptyHistory_eq]; exact ⟨rfl, rfl⟩)
  have solo : ∀ i, SpoutsAgree (clearSolo i s) := fun _ => h.stands ⟨rfl, rfl⟩
  unfold Machine.paramEffect
  split
  · exact h.linkRestart
  · exact h.linkRestart
  · exact emptied.settle
  · exact emptied.settle
  · exact emptied.settle
  · exact solo _
  · exact solo _
  · exact h.settle
  · exact h.recomputeBudget.settle
  · exact h

theorem changeParam (h : SpoutsAgree s) (id : Byte) (v : Int) : SpoutsAgree (changeParam id v s).state := by
  have changed : ∀ w, SpoutsAgree (setWorking s w) := fun _ => h.stands ⟨rfl, rfl⟩
  unfold Machine.changeParam
  split
  · exact h
  · split
    · exact h
    · exact (changed _).paramEffect _

theorem saveParameters (h : SpoutsAgree s) : SpoutsAgree (saveParameters s).state := by
  unfold Machine.saveParameters
  split
  · exact h
  · exact h.stands ⟨rfl, rfl⟩

theorem setCustodyLock (h : SpoutsAgree s) : SpoutsAgree (setCustodyLock s).state := by
  have locked : ∀ x, SpoutsAgree (s.withPm x) := fun _ => h.stands ⟨rfl, rfl⟩
  unfold Machine.setCustodyLock
  split
  · exact h
  · exact (locked _).stands (abortZero_stands _)

theorem zeroBin (h : SpoutsAgree s) : SpoutsAgree (zeroBin s).state := by
  unfold Machine.zeroBin
  split
  · exact h
  · exact h.stands (by rw [beginZero_eq]; exact ⟨rfl, rfl⟩)

theorem clearSupplyFault (h : SpoutsAgree s) : SpoutsAgree (clearSupplyFault s).state := by
  unfold Machine.clearSupplyFault
  split
  · exact h.stands ⟨rfl, rfl⟩
  · exact h

/-! ### Every command -/

/-- A command that acts on a running part alone. -/
theorem whileRunning (h : SpoutsAgree s) {f : State → State} {t : State} (run : whileRunning f s = .next t)
    (hf : SpoutsAgree (f s)) : SpoutsAgree t := by
  unfold Machine.whileRunning at run
  split at run
  · cases run; exact hf
  · cases run; exact h

/-- A command that acts under a condition, which it may use. -/
theorem ite (h : SpoutsAgree s) {p : Prop} [Decidable p] {u : State} (hu : p → SpoutsAgree u) :
    SpoutsAgree (if p then u else s) := by
  split
  · next hp => exact hu hp
  · exact h

theorem exec (h : SpoutsAgree s) (c : Instr) {t : State} (run : exec c s = .next t) : SpoutsAgree t := by
  cases c with
  | frameSync =>
    unfold Machine.exec execFrameSync at run
    refine h.whileRunning run ?_
    split
    · exact h.earlySync
    · exact h.stands ⟨rfl, rfl⟩
  | frameArrival f o => exact h.whileRunning run (h.frameArrives f o)
  | earlySync => exact h.whileRunning run (h.ite fun _ => h.earlySync)
  | lockTimerExpiry => exact h.whileRunning run h.lockExpires
  | stalenessTimerExpiry c => exact h.whileRunning run (h.staleExpires c)
  | closeTimerExpiry i => exact h.whileRunning run (h.ite fun _ => h.gateFault i .gateStuck)
  | tailTimerExpiry i =>
    unfold Machine.exec execTailTimerExpiry at run
    exact h.whileRunning run (h.ite fun due => h.tailEnds (tail_of_tailDue due))
  | linkTimerExpiry i => exact h.whileRunning run (h.ite fun _ => h.linkExpires i)
  | holdExpired i =>
    unfold Machine.exec execHoldExpired at run
    refine h.whileRunning run (h.ite fun due => (h.endStill i .holdExpired fun l hl => ?_).settle)
    rw [held_of_holdDue due hl]
    exact nofun
  | deferralTimerExpiry => exact h.whileRunning run (h.ite fun _ => (h.stands (openValve_stands s)).settle)
  | refillTimerExpiry =>
    have shut : ∀ x, SpoutsAgree ((closeValve .supplyFault s).withBsc x) := fun _ =>
      (h.stands (closeValve_stands .supplyFault s)).stands ⟨rfl, rfl⟩
    exact h.whileRunning run (h.ite fun _ => (shut _).settle)
  | gapTimerExpiry p => exact h.whileRunning run (h.ite fun _ => h.setPort p _)
  | saveTimerExpiry x => exact h.whileRunning run (h.ite fun _ => h.stands ⟨rfl, rfl⟩)
  | saveWriteCompletion x =>
    unfold Machine.exec execSaveWriteCompletion at run
    exact h.whileRunning run (h.stands ⟨rfl, rfl⟩)
  | interlockFallingEdge i =>
    unfold Machine.exec execInterlockFallingEdge at run
    have sampled : SpoutsAgree (setInterlock i false s) := h.stands ⟨rfl, rfl⟩
    exact h.whileRunning run ((sampled.countTrip i).lmHold [.interlock] i).settle
  | interlockRisingEdge i => exact h.whileRunning run (h.stands ⟨rfl, rfl⟩)
  | aerationOkChange high =>
    unfold Machine.exec execAerationOkChange at run
    have line : ∀ x, SpoutsAgree (s.withBsc x) := fun _ => h.stands ⟨rfl, rfl⟩
    refine h.whileRunning run ?_
    dsimp only
    split
    · exact h
    · exact (line _).reportAeration.settle
  | coldStart service lines => cases run; exact of_reset rfl rfl
  | warmRestart lines => exact h.whileRunning run (of_reset rfl rfl)
  | portByteReceived p b stopHigh =>
    unfold Machine.exec execPortByteReceived at run
    exact h.whileRunning run (h.setPort p _)
  | replySent p =>
    unfold Machine.exec execReplySent at run
    refine h.whileRunning run ?_
    split
    · exact h.replyEnds p _
    · exact h
  | portBaudTakenUp p => exact h.whileRunning run (h.ite fun _ => h.setPort p _)
  | applyWindowReport => exact h.whileRunning run h.applyReport
  | unknownRequest p kind len =>
    unfold Machine.exec execUnknownRequest at run
    refine h.whileRunning run ?_
    split
    · exact h
    · exact h.withRequest p _ fun u hu => hu.answer _ _ _ _
  | openLoad p len ref target rate => exact h.whileRunning run (h.serveBay _ _ _ _ _ _ fun i u hu => hu.openLoad _ _ _ i)
  | start p len => exact h.whileRunning run (h.serveBay _ _ _ _ _ _ fun i u hu => hu.startLoad i)
  | hold p len => exact h.whileRunning run (h.serveBay _ _ _ _ _ _ fun i u hu => hu.holdLoad i)
  | resume p len => exact h.whileRunning run (h.serveBay _ _ _ _ _ _ fun i u hu => hu.resumeLoad i)
  | finish p len => exact h.whileRunning run (h.serveBay _ _ _ _ _ _ fun i u hu => hu.finishLoad i)
  | spoutStatus p len => exact h.whileRunning run (h.serveBay _ _ _ _ _ _ fun _ _ hu => hu)
  | clearFault p len => exact h.whileRunning run (h.serveBay _ _ _ _ _ _ fun i u hu => hu.clearFault i)
  | postOrder p len ref mass bays tolerance =>
    exact h.whileRunning run (h.serveDispatch _ _ _ _ _ _ fun u hu => hu.postOrder _ _ _ _)
  | cancelOrder p len ref => exact h.whileRunning run (h.serveDispatch _ _ _ _ _ _ fun u hu => hu.cancelOrder ref)
  | removeOrder p len ref => exact h.whileRunning run (h.serveDispatch _ _ _ _ _ _ fun u hu => hu.removeOrder ref)
  | orderStatus p len ref =>
    exact h.whileRunning run (h.serveDispatch _ _ _ _ _ _ fun u hu => (orderStatus_state ref u).symm ▸ hu)
  | readTicket p len =>
    exact h.whileRunning run (h.serveDispatch _ _ _ _ _ _ fun u hu => (readTicket_state u).symm ▸ hu)
  | takeTicket p len n => exact h.whileRunning run (h.serveDispatch _ _ _ _ _ _ fun u hu => hu.takeTicket _)
  | binStatus p len => exact h.whileRunning run (h.serveDispatch _ _ _ _ _ _ fun _ hu => hu)
  | setParameter p len id v => exact h.whileRunning run (h.serveDispatch _ _ _ _ _ _ fun u hu => hu.changeParam id _)
  | readParameter p len id =>
    exact h.whileRunning run (h.serveDispatch _ _ _ _ _ _ fun u hu => (readParameter_state id u).symm ▸ hu)
  | saveParameters p len => exact h.whileRunning run (h.serveDispatch _ _ _ _ _ _ fun u hu => hu.saveParameters)
  | zeroBin p len => exact h.whileRunning run (h.serveDispatch _ _ _ _ _ _ fun u hu => hu.zeroBin)
  | setCustodyLock p len => exact h.whileRunning run (h.serveDispatch _ _ _ _ _ _ fun u hu => hu.setCustodyLock)
  | clearUnassigned p len => exact h.whileRunning run (h.serveDispatch _ _ _ _ _ _ fun _ hu => hu.stands ⟨rfl, rfl⟩)
  | clearSupplyFault p len => exact h.whileRunning run (h.serveDispatch _ _ _ _ _ _ fun u hu => hu.clearSupplyFault)
  | restart p len => exact h.whileRunning run (h.serveDispatch _ _ _ _ _ _ fun _ hu => hu)
  | partStatus p len => exact h.whileRunning run (h.serveDispatch _ _ _ _ _ _ fun _ hu => hu)
  | resetLineRaised => exact h.whileRunning run (h.stands ⟨rfl, rfl⟩)
  | powerLost => cases run; exact of_reset rfl rfl

end SpoutsAgree

/-- Settles O10: a DISCHARGING or TAILING load keeps its gate as R89, R91 and R107 have it, so that only a load that is
not HELD comes to TAILING; `SpoutsAgree` is kept by every command and by the part's own events. -/
theorem loadInvKept : Obligations.LoadInvKept := by
  intro s t gate load run
  have before := spoutsAgree_of_invariants gate load
  unfold step at run
  refine SpoutsAgree.loadInv ?_
  split at run
  · cases run
    exact before.idle
  · next c rest _ =>
    have taken : SpoutsAgree (s.withPending rest) := before.stands ⟨rfl, rfl⟩
    exact taken.exec c run

end Sys2Proof.Machine
end

section
/-! One walk through the commands for every invariant of the discharges: a property that the single changes of the loads,
the gates and the DBA keep (`DischargeClosed`) is kept by every command and on an empty queue. O5, O6 and O7 are three such
properties. -/

namespace Sys2Proof.Machine

/-! ### The view -/

/-- The loads, the gates with their commands, the DBA and BUDGET are as they were. -/
structure DischargeStands (s t : State) : Prop where
  slot : t.lm.slot = s.lm.slot := by rfl
  gate : t.gate = s.gate := by rfl
  command : t.sli.gateCommand = s.sli.gateCommand := by rfl
  dba : t.dba = s.dba := by rfl
  budget : t.pm.working.budget = s.pm.working.budget := by rfl

namespace DischargeStands

variable {s t u : State}

theorem refl (s : State) : DischargeStands s s := {}

theorem trans (h : DischargeStands s t) (k : DischargeStands t u) : DischargeStands s u where
  slot := k.slot.trans h.slot
  gate := k.gate.trans h.gate
  command := k.command.trans h.command
  dba := k.dba.trans h.dba
  budget := k.budget.trans h.budget

theorem loadOf (h : DischargeStands s t) (i : Spout) : loadOf t i = loadOf s i := congrArg (PerSpout.get · i) h.slot

theorem gateOf (h : DischargeStands s t) (i : Spout) : gateOf t i = gateOf s i := congrArg (PerSpout.get · i) h.gate

theorem ite {p : Prop} [Decidable p] (ht : DischargeStands s t) (hu : DischargeStands s u) :
    DischargeStands s (if p then t else u) := by
  split
  · exact ht
  · exact hu

end DischargeStands

/-! ### What the operations away from the discharges leave -/

theorem paramSet_budget {p : ParamId} (other : p ≠ .budget) (w : Params) (v : Int) :
    (paramSet w p v).budget = w.budget := by
  cases p <;> first | rfl | exact absurd rfl other

theorem setPort_dischargeStands (s : State) (p : Port) (x : PortState) : DischargeStands s (setPort s p x) := by
  cases p <;> exact {}

theorem setChannel_dischargeStands (s : State) (c : Chan) (x : Channel) : DischargeStands s (setChannel s c x) := by
  cases c <;> exact {}

theorem takeRequest_dischargeStands (p : Port) (c : Instr) (s : State) : DischargeStands s (takeRequest p c s) := by
  have timed : ∀ t, DischargeStands t (restartLinkTimer p t) := by
    intro t
    unfold restartLinkTimer
    split
    · exact .ite {} {}
    · exact {}
  exact (setPort_dischargeStands s p _).trans (timed _)

theorem replyEnds_dischargeStands (p : Port) (r : Reply) (s : State) : DischargeStands s (replyEnds p r s) := by
  unfold replyEnds
  split
  · exact setPort_dischargeStands s _ _
  · exact (setPort_dischargeStands s _ _).trans (.ite {} {})

theorem openValve_dischargeStands (s : State) : DischargeStands s (openValve s) := by
  rw [openValve_eq]
  exact {}

theorem closeValve_dischargeStands (next : RefillState) (s : State) : DischargeStands s (closeValve next s) := by
  rw [closeValve_eq]
  exact {}

theorem leftDribble_dischargeStands (i : Spout) (m : GateMode) (s : State) :
    DischargeStands s (leftDribble i m s) := by
  rw [leftDribble_eq]
  exact {}

theorem abortZero_dischargeStands (s : State) : DischargeStands s (abortZero s) := by
  rw [abortZero_eq]
  exact {}

theorem bmuEmptyHistory_dischargeStands (s : State) : DischargeStands s (bmuEmptyHistory s) := by
  rw [bmuEmptyHistory_eq]
  exact {}

theorem enterBlind_dischargeStands (s : State) : DischargeStands s (enterBlind s) := by
  have frame := enterBlind_frame s
  exact ⟨by rw [frame.lm], frame.gate, by rw [frame.sli], frame.dba, by rw [frame.pm]⟩

theorem frameTaken_dischargeStands (f : InFrame) (n : Nat) (s : State) : DischargeStands s (frameTaken f n s) := by
  rw [frameTaken_eq, frameTaken_sli]
  exact {}

theorem bmuMarkDisturbed_dischargeStands (s : State) : DischargeStands s (bmuMarkDisturbed s) := by
  rw [bmuMarkDisturbed_eq]
  exact {}

theorem latchFault_dischargeStands (i : Spout) (kind : FaultKind) (s : State) :
    DischargeStands s (latchFault i kind s) := by
  rw [latchFault_eq]
  exact {}

theorem learnTail_dischargeStands (i : Spout) (l : Load) (s : State) : DischargeStands s (learnTail i l s) := by
  obtain ⟨x, learned⟩ := learnTail_eq i l s
  rw [learned]
  exact {}

theorem oauReport_dischargeStands (gravimetric : Bool) (credits : PerSpout Nat) (s : State) :
    DischargeStands s (oauReport gravimetric credits s) := .ite {} {}

theorem oauVolumetric_dischargeStands (m : PerSpout Nat) (s : State) : DischargeStands s (oauVolumetric m s) :=
  (oauReport_dischargeStands false m s).trans {}

theorem oauGravimetric_dischargeStands (f : Nat) (m : PerSpout Nat) (s : State) :
    DischargeStands s (oauGravimetric f m s) := by
  have accounted : ∀ g x, DischargeStands s (addUnassigned g (s.withOau x)) := fun _ _ => {}
  exact (accounted _ _).trans ((oauReport_dischargeStands true _ _).trans {})

theorem oauClose_dischargeStands (e : Entry) (mode : Mode) (f : Nat) (s : State) :
    DischargeStands s (oauClose e mode f s) := by
  have reported : DischargeStands s (oauModeReport mode s) := {}
  exact reported.trans (.ite (oauGravimetric_dischargeStands f e.m _) (oauVolumetric_dischargeStands e.m _))

theorem refillTests_dischargeStands (w : Params) (level : Int) (s : State) :
    DischargeStands s (refillTests w level s) := by
  unfold refillTests
  split
  · exact .ite (.ite {} (openValve_dischargeStands s)) {}
  · exact .ite (openValve_dischargeStands s) (.ite {} {})
  · exact .ite (closeValve_dischargeStands .idle s) {}
  · exact {}

theorem zeroWindow_dischargeStands (e : Entry) (raw : Int) (good : Nat) (s : State) :
    DischargeStands s (zeroWindow e raw good s) := by
  by_cases used : e.valid = true ∧ e.disturbed = false
  · rw [zeroWindow_of_used used]
    refine .ite ?_ {}
    rw [bscZeroEnded_eq, bmuEmptyHistory_eq]
    exact {}
  · rw [zeroWindow_of_unused used]
    exact abortZero_dischargeStands s

/-! ### The single changes of the discharges -/

/-- A property that every single change of the loads, the gates and the DBA keeps. -/
structure DischargeClosed (P : State → Prop) : Prop where
  stands : ∀ {s t}, DischargeStands s t → P s → P t
  /-- A load keeps its state, its number and its rate. -/
  load : ∀ {s i l x}, loadOf s i = some l → x.state = l.state → x.number = l.number → x.rate = l.rate → P s →
    P (setLoad s i (some x))
  /-- A gate keeps its mode, its command and its pending grant, and begins no tail. -/
  gate : ∀ {s i g}, g.mode = (gateOf s i).mode → g.command = (gateOf s i).command →
    g.pendingGrant = (gateOf s i).pendingGrant → (g.tail.isSome → (gateOf s i).tail.isSome) → P s → P (setGate s i g)
  hold : ∀ {s} cs i, P s → P (lmHold cs i s)
  lift : ∀ {s} c i, P s → P (lmLift c i s)
  /-- An ARMED or HELD load enters WAITING (R121). -/
  asks : ∀ {s i l x}, loadOf s i = some l → l.state = .armed ∨ l.state = .held → P s →
    P (enterWaiting i (setLoad s i (some x)))
  grants : ∀ {s q rest}, s.dba.queue = q :: rest → headFits s q = true → P s → P (grant q rest s)
  supply : ∀ {s} aerationLow starved, P s → P (dbaSupply aerationLow starved s)
  /-- A new BUDGET, which is taken only while nothing is granted (R85, R86). -/
  rebudgets : ∀ {s w}, (∀ i, s.dba.allocation.get i = none) → P s → P (recomputeBudget (setWorking s w))
  steps : ∀ {s} i, P s → P (windowStep i s)
  dribbles : ∀ {s} i l, P s → P (dribbleTest i l s)
  feedback : ∀ {s} i m, P s → P (gateFeedback i m s)
  /-- A cutoff: the open gate closes, with a tail, and its load goes to TAILING (R99, R131). -/
  cuts : ∀ {s i l x c t}, loadOf s i = some l → (gateOf s i).mode.discharging = true → x.state = .tailing → P s →
    P (setLoad (setGate (gateToClosing i s) i { gateOf (gateToClosing i s) i with cutoff := c, tail := t }) i (some x))
  /-- FINISH of a DISCHARGING load: a close with tail (R102, R130). -/
  finishes : ∀ {s i l x}, loadOf s i = some l → l.state = .discharging → x.state = .tailing → P s →
    P (closeWithTail i (setLoad s i (some x)))
  ends : ∀ {s i cause}, (∀ l, loadOf s i = some l → l.state ≠ .discharging) → P s → P (endLoad i cause false s)
  tailEnds : ∀ {s i cause}, (gateOf s i).tail.isSome → P s → P (endLoad i cause true (clearTail i s))
  faults : ∀ {s} i kind, P s → P (gateFaultEnds i kind s)
  unfaults : ∀ {s} i, P s → P (unfault i s)
  /-- A new load, ARMED, fills an empty slot whose gate is not in FAULT (R118, R119). -/
  fills : ∀ {s i x}, loadOf s i = none → (gateOf s i).mode ≠ .fault → x.state = .armed → P s →
    P (setLoad s i (some x))
  /-- The values after a restart and after a loss of power (R88, R115, R139). -/
  resets : ∀ {s}, s.lm.slot = .all none → s.gate = .all .reset → s.sli.gateCommand = .all 0 →
    s.dba.allocation = .all none → s.dba.queue = [] →
    s.dba.effectiveBudget = effectiveBudget s.pm.working s.dba.aerationLow s.dba.starved → P s

namespace DischargeClosed

variable {P : State → Prop} {s : State}

/-! ### Demands and `settle` -/

theorem examine (hP : DischargeClosed P) (h : P s) : P (examine s) :=
  examine_preserves (fun _ _ _ ht queue fits => hP.grants queue fits ht) h

theorem rejudge (hP : DischargeClosed P) (h : P s) : P (rejudge s) := by
  have recorded : P (recordDemands (.of (demandOf s)) s) := hP.stands {} h
  unfold Machine.rejudge
  refine eachSpout_preserves (P := P) (fun i t ht => ?_) recorded
  unfold demandChanged
  split
  · exact hP.hold _ i ht
  · split
    · exact hP.lift _ i ht
    · exact ht

theorem settle (hP : DischargeClosed P) (h : P s) : P (settle s) :=
  settle_preserves (Q := P) (fun _ => hP.examine) (fun _ => hP.rejudge) h

/-! ### Conditions of the whole bin -/

theorem eachHold (hP : DischargeClosed P) (cs : List Cause) (h : P s) : P (eachSpout (lmHold cs) s) :=
  eachSpout_preserves (fun i _ => hP.hold cs i) h

theorem eachLift (hP : DischargeClosed P) (c : Cause) (h : P s) : P (eachSpout (lmLift c) s) :=
  eachSpout_preserves (fun i _ => hP.lift c i) h

theorem lmAeration (hP : DischargeClosed P) (low : Bool) (h : P s) : P (lmAeration low s) := by
  have recorded : P (s.withLm { s.lm with aerationLow := low }) := hP.stands {} h
  unfold Machine.lmAeration
  dsimp only
  split
  · exact hP.eachHold _ recorded
  · exact hP.eachLift _ recorded

theorem lmStarve (hP : DischargeClosed P) (on : Bool) (h : P s) : P (lmStarve on s) := by
  have recorded : P (s.withLm { s.lm with starved := on }) := hP.stands {} h
  unfold Machine.lmStarve
  dsimp only
  split
  · exact hP.eachHold _ recorded
  · exact hP.eachLift _ recorded

theorem lmSense (hP : DischargeClosed P) (seeking : Bool) (h : P s) : P (lmSense seeking s) := by
  have recorded : P (recordSeeking seeking s) := hP.stands {} h
  unfold Machine.lmSense
  dsimp only
  split
  · exact hP.eachHold _ recorded
  · exact hP.eachLift _ recorded

theorem reportAeration (hP : DischargeClosed P) (h : P s) : P (reportAeration s) :=
  hP.lmAeration _ (hP.supply _ _ h)

theorem reportStarve (hP : DischargeClosed P) (h : P s) : P (reportStarve s) := hP.lmStarve _ (hP.supply _ _ h)

/-! ### The Gate Controllers -/

theorem blindStep (hP : DischargeClosed P) (i : Spout) (h : P s) : P (blindStep i s) := by
  unfold Machine.blindStep
  split
  · exact hP.steps i h
  · exact h

theorem feedbackPosition (hP : DischargeClosed P) (p : PositionIn) (h : P s) : P (feedbackPosition p s) := by
  unfold Machine.feedbackPosition
  split
  · exact h
  · exact eachSpout_preserves (fun i _ => hP.feedback i _) h

theorem clearTail (hP : DischargeClosed P) (i : Spout) (h : P s) : P (clearTail i s) :=
  hP.gate rfl rfl rfl nofun h

theorem endOfTail (hP : DischargeClosed P) {i : Spout} (judged : (gateOf s i).tail.isSome) (h : P s) :
    P (Machine.tailEnds i s) := by
  unfold Machine.tailEnds
  split
  · exact hP.clearTail i h
  · next l _ =>
    have learned := learnTail_dischargeStands i l s
    exact hP.settle (hP.tailEnds (by rw [learned.gateOf]; exact judged) (hP.stands learned h))

theorem tailPosition (hP : DischargeClosed P) {i : Spout} (judged : (gateOf s i).tail.isSome) (t : Tail) (fl : Flow)
    (h : P s) : P (tailPosition i t fl s) := by
  have taken : ∀ x : Tail, P (if 5 ≤ x.lowCount then
      Machine.tailEnds i (setGate s i { gateOf s i with tail := some x })
      else setGate s i { gateOf s i with tail := some x }) := by
    intro x
    have counted : P (setGate s i { gateOf s i with tail := some x }) := hP.gate rfl rfl rfl (fun _ => judged) h
    split
    · exact hP.endOfTail (by rw [gateOf_setGate_same]; rfl) counted
    · exact counted
  exact taken _

theorem cutOff (hP : DischargeClosed P) {i : Spout} {l : Load} (hl : loadOf s i = some l)
    (open_ : (gateOf s i).mode.discharging = true) (fl : Flow) (h : P s) : P (cutOff i l fl s) := by
  have cut := fun c t => hP.cuts (x := { l with state := .tailing, cutoff := c }) (c := c) (t := t) hl open_ rfl h
  refine hP.settle ?_
  unfold beginTail
  rw [setGate_setGate, gateOf_setGate_same]
  exact cut _ _

theorem cutoffCheck (hP : DischargeClosed P) {i : Spout} (open_ : (gateOf s i).mode.discharging = true) (fl : Flow)
    (h : P s) : P (cutoffCheck i fl s) := by
  unfold Machine.cutoffCheck
  split
  · exact h
  · next l hl =>
    split
    · exact hP.cutOff hl open_ fl h
    · exact hP.dribbles i l h

theorem gateFlows (hP : DischargeClosed P) (fl : PerSpout Flow) (i : Spout) (h : P s) : P (gateFlows fl i s) := by
  have counted : P (setGate s i { gateOf s i with
      flowSum := (gateOf s i).flowSum + (fl.get i).effective, flowCount := (gateOf s i).flowCount + 1 }) :=
    hP.gate rfl rfl rfl id h
  unfold Machine.gateFlows
  refine hP.blindStep i ?_
  split
  · next t judged => exact hP.tailPosition (by rw [gateOf_setGate_same, judged]; rfl) t _ counted
  · split
    · next open_ => exact hP.cutoffCheck (by rw [gateOf_setGate_same]; exact open_) _ counted
    · exact counted

theorem gateFault (hP : DischargeClosed P) (i : Spout) (kind : FaultKind) (h : P s) : P (gateFault i kind s) := by
  rw [gateFault_eq]
  exact hP.settle (hP.faults i kind h)

/-! ### The window close and the position -/

theorem sensorDrift (hP : DischargeClosed P) (i : Spout) (h : P s) : P (sensorDrift i s) := by
  have latched := hP.stands (latchFault_dischargeStands i .sensorDrift s) h
  unfold Machine.sensorDrift noteLoadFault
  split
  · next l hl => exact hP.load hl rfl rfl rfl latched
  · exact latched

theorem learnGain (hP : DischargeClosed P) (mode : Mode) (f : Nat) (i : Spout) (h : P s) : P (learnGain mode f i s) := by
  have suspended : ∀ x y, P (setSensor (setSensor s i x) i y) := fun _ _ => hP.stands {} h
  unfold Machine.learnGain
  dsimp only
  split
  · split
    · exact hP.stands {} h
    · exact hP.sensorDrift i (suspended _ _)
  · exact h

theorem bscClose (hP : DischargeClosed P) (h : P s) : P (bscClose s) := by
  unfold Machine.bscClose
  split
  · exact h
  · have tested : ∀ w level x, P (refillTests w level (s.withBsc x)) := fun w level x =>
      hP.stands (refillTests_dischargeStands w level _) (hP.stands (t := s.withBsc x) {} h)
    dsimp only
    split
    · exact tested _ _ _
    · exact hP.reportStarve (tested _ _ _)

theorem windowHandedOn (hP : DischargeClosed P) (e : Entry) (h : P s) : P (windowHandedOn e s) := by
  have learned := eachSpout_preserves (fun i _ => hP.learnGain s.bmu.mode s.bmu.f i)
    (hP.stands (oauClose_dischargeStands e s.bmu.mode s.bmu.f s) h)
  have stepped := eachSpout_preserves (fun i _ => hP.steps i) learned
  exact hP.settle (hP.bscClose stepped)

theorem windowClose (hP : DischargeClosed P) (h : P s) : P (windowClose s) := by
  have handed : ∀ e, P (Machine.windowHandedOn e (windowCompleted s)) := fun e =>
    hP.windowHandedOn e (hP.stands {} h)
  rw [windowClose_eq]
  split
  · exact hP.settle (hP.stands (zeroWindow_dischargeStands _ _ _ _) (handed _))
  · exact handed _

theorem bmuPosition (hP : DischargeClosed P) (p : PositionIn) (h : P s) : P (bmuPosition p s) := by
  have counted : ∀ x, P (s.withBmu x) := fun _ => hP.stands {} h
  have completed : P (ssuComplete s) := hP.stands {} h
  unfold Machine.bmuPosition
  split
  · split
    · exact hP.stands (oauVolumetric_dischargeStands _ _) completed
    · exact h
  · dsimp only
    split
    · exact hP.windowClose (counted _)
    · exact counted _

theorem pathOrder (hP : DischargeClosed P) (o : Sched) (p : PositionIn) (fl : PerSpout Flow) (h : P s) :
    P (pathOrder o p fl s) := by
  have masses : ∀ {t}, P t → P (oauPosition fl t) := fun {t} => hP.stands {}
  have flows : ∀ {t}, P t → P (eachSpout (Machine.gateFlows fl) t) := fun {t} =>
    eachSpout_preserves fun i _ => hP.gateFlows fl i
  unfold Machine.pathOrder
  split
  · exact hP.bmuPosition p (flows (masses h))
  · exact hP.bmuPosition p (masses (flows h))
  · exact flows (hP.bmuPosition p (masses h))
  · exact masses (flows (hP.bmuPosition p h))

theorem framePosition (hP : DischargeClosed P) (o : Sched) (p : PositionIn) (h : P s) : P (framePosition o p s) := by
  have formed : P (flowsFormed o p s) := by
    unfold flowsFormed
    split
    · exact h
    · exact hP.feedbackPosition p h
  have followed : ∀ fl, P (Machine.pathOrder o p fl (ssuPosition p (flowsFormed o p s))) := fun fl =>
    hP.pathOrder o p fl (hP.stands {} formed)
  rw [framePosition_eq]
  unfold feedbackLast
  split
  · exact hP.feedbackPosition p (followed _)
  · exact followed _

theorem missedPositions (hP : DischargeClosed P) (o : Sched) (n : Nat) (h : P s) : P (missedPositions o n s) := by
  induction n generalizing s with
  | zero => exact h
  | succ n ih => exact ih (hP.framePosition o missedPosition h)

/-! ### The link -/

theorem spoilTail (hP : DischargeClosed P) (i : Spout) (h : P s) : P (spoilTail i s) := by
  unfold Machine.spoilTail
  split
  · next judged => exact hP.gate rfl rfl rfl (fun _ => by rw [judged]; rfl) h
  · exact h

theorem enterSeeking (hP : DischargeClosed P) (h : P s) : P (enterSeeking s) := by
  have sought : P (sliSeek s) := hP.stands {} h
  have spoiled := eachSpout_preserves (fun i _ => hP.spoilTail i) (hP.stands (enterBlind_dischargeStands _) sought)
  exact hP.settle (hP.lmSense true (hP.settle spoiled))

theorem linkRestart (hP : DischargeClosed P) (h : P s) : P (linkRestart s) := hP.enterSeeking (hP.stands {} h)

theorem acceptFrame (hP : DischargeClosed P) (f : InFrame) (n : Nat) (o : Sched) (h : P s) : P (acceptFrame f n o s) := by
  rw [acceptFrame_eq]
  exact hP.framePosition o _ (hP.settle (hP.stands (frameTaken_dischargeStands f n s) h))

theorem enterLocked (hP : DischargeClosed P) (h : P s) : P (enterLocked s) := by
  have locked : P (s.withSli { s.sli with lock := .locked }) := hP.stands {} h
  exact hP.settle (hP.lmSense false locked)

theorem seekingFrame (hP : DischargeClosed P) (f : InFrame) (n : Nat) (o : Sched) (h : P s) :
    P (seekingFrame f n o s) := by
  have taken : P (takeSequence n s) := hP.stands {} h
  unfold Machine.seekingFrame
  split
  · exact taken
  · split
    · exact hP.acceptFrame f n o (hP.enterLocked taken)
    · exact taken

theorem lockedFrame (hP : DischargeClosed P) (f : InFrame) (n m : Nat) (o : Sched) (h : P s) :
    P (lockedFrame f n m o s) := by
  have counts : ∀ k {t}, P t → P (countMissed k t) := fun k {t} => hP.stands {}
  unfold Machine.lockedFrame
  dsimp only
  split
  · exact counts 1 h
  · split
    · exact hP.acceptFrame f n o h
    · split
      · exact hP.acceptFrame f n o (hP.missedPositions o _ (counts _ h))
      · exact hP.acceptFrame f n o
          (hP.missedPositions o 3 (counts _ (hP.stands (bmuMarkDisturbed_dischargeStands s) h)))

theorem frameArrives (hP : DischargeClosed P) (f : InFrame) (o : Sched) (h : P s) : P (frameArrives f o s) := by
  have arrived : P (s.withSli { s.sli with frameInProgress := false }) := hP.stands {} h
  unfold Machine.frameArrives
  dsimp only
  split
  · exact hP.stands {} arrived
  · split
    · exact hP.seekingFrame f _ o arrived
    · split
      · exact hP.lockedFrame f _ _ o arrived
      · exact hP.acceptFrame f _ o arrived

theorem earlySync (hP : DischargeClosed P) (h : P s) : P (earlySync s) := by
  rw [earlySync_eq]
  exact hP.stands {} h

theorem lockExpires (hP : DischargeClosed P) (h : P s) : P (lockExpires s) := by
  unfold Machine.lockExpires
  split
  · split
    · exact hP.enterSeeking h
    · exact hP.stands {} h
  · exact h

theorem staleExpires (hP : DischargeClosed P) (c : Chan) (h : P s) : P (staleExpires c s) := by
  have stale := hP.stands (setChannel_dischargeStands s c (channelOf s c).goStale) h
  unfold Machine.staleExpires staleReport
  dsimp only
  split
  · split
    · exact hP.settle (hP.stands (enterBlind_dischargeStands _) stale)
    · exact hP.settle stale
    · split
      · exact hP.gateFault _ .gateFeedback stale
      · exact stale
  · exact h

/-! ### The lines, the window report and the time base -/

theorem countTrip (hP : DischargeClosed P) (i : Spout) (h : P s) : P (countTrip i s) := by
  unfold Machine.countTrip
  split
  · next l hl =>
    split
    · exact hP.load hl rfl rfl rfl h
    · exact h
  · exact h

theorem applyCredit (hP : DischargeClosed P) (r : WindowReport) (i : Spout) (h : P s) : P (applyCredit r i s) := by
  have returned : ∀ g, P (addUnassigned g s) := fun _ => hP.stands {} h
  unfold Machine.applyCredit
  split
  · exact h
  · split
    · next l hl =>
      split
      · exact hP.load hl rfl rfl rfl h
      · split
        · exact returned _
        · exact h
    · split
      · exact returned _
      · exact h

theorem applyReport (hP : DischargeClosed P) (h : P s) : P (applyReport s) := by
  unfold Machine.applyReport
  split
  · exact h
  · next r rest _ =>
    have taken : P (s.withOau { s.oau with reports := rest }) := hP.stands {} h
    refine eachSpout_preserves (fun i t ht => ?_) (eachSpout_preserves (fun i _ => hP.applyCredit r i) taken)
    rw [oauApplied_eq]
    exact hP.stands {} ht

/-- Every load and every gate counts a millisecond: each is a change that keeps what the discharges rest on. -/
theorem tick (hP : DischargeClosed P) (h : P s) : P (tick s) := by
  have gates : P (eachSpout (fun i t => setGate t i ((gateOf t i).tick (s.sli.feedback.get i))) s) := by
    refine eachSpout_preserves (P := P) (fun i t ht => ?_) h
    exact hP.gate rfl rfl rfl (fun judged => by rwa [Gate.tick, Option.isSome_map] at judged) ht
  have loads : P (eachSpout (fun i t => setLoad t i ((loadOf t i).map Load.tick))
      (eachSpout (fun i t => setGate t i ((gateOf t i).tick (s.sli.feedback.get i))) s)) := by
    refine eachSpout_preserves (P := P) (fun i t ht => ?_) gates
    cases hl : loadOf t i with
    | none =>
      rw [Option.map_none, ← hl, setLoad_loadOf]
      exact ht
    | some l =>
      have kept : l.tick.state = l.state ∧ l.tick.number = l.number ∧ l.tick.rate = l.rate := by
        unfold Load.tick
        split <;> exact ⟨rfl, rfl, rfl⟩
      obtain ⟨state, number, rate⟩ := kept
      exact hP.load hl state number rate ht
  exact hP.stands {} loads

theorem idle (hP : DischargeClosed P) (h : P s) : P (idle s) := by
  unfold Machine.idle
  split
  · split
    · exact hP.tick h
    · exact hP.stands {} h
  · exact h

/-! ### The ports -/

theorem answer (hP : DischargeClosed P) (p : Port) (kind : Byte) (r : Result) (fields : List Byte) (h : P s) :
    P (answer p kind r fields s) := hP.stands (setPort_dischargeStands s p _) h

theorem withRequest (hP : DischargeClosed P) (p : Port) (c : Instr) {serve : State → State}
    (hs : ∀ t, P t → P (serve t)) (h : P s) : P (withRequest p c serve s) := by
  unfold Machine.withRequest
  split
  · exact hs _ (hP.stands (takeRequest_dischargeStands p c s) h)
  · exact h

/-- A bay request's act decides (R173). -/
theorem serveBay (hP : DischargeClosed P) (c : Instr) (p : Port) (kind : Byte) (len want : Nat) (formats : Bool)
    {act : Spout → State → Answer} (ha : ∀ i t, P t → P (act i t).state) (h : P s) :
    P (serveBay c p kind len want formats act s) := by
  refine hP.withRequest p c (fun t ht => ?_) h
  split
  · exact hP.answer _ _ _ _ ht
  · split
    · exact hP.answer _ _ _ _ ht
    · exact hP.answer _ _ _ _ (ha _ t ht)

theorem serveDispatch (hP : DischargeClosed P) (c : Instr) (p : Port) (kind : Byte) (len want : Nat) (formats : Bool)
    {act : State → Answer} (ha : ∀ t, P t → P (act t).state) (h : P s) :
    P (serveDispatch c p kind len want formats act s) := by
  refine hP.withRequest p c (fun t ht => ?_) h
  split
  · exact hP.answer _ _ _ _ ht
  · split
    · exact hP.answer _ _ _ _ ht
    · exact hP.answer _ _ _ _ (ha t ht)

/-! ### The bay requests -/

theorem openLoad (hP : DischargeClosed P) (ref : Ref) (requested rate : Nat) (i : Spout) (h : P s) :
    P (openLoad ref requested rate i s).state := by
  unfold Machine.openLoad
  split
  · exact h
  · next passes =>
    have free : loadOf s i = none ∧ (gateOf s i).mode ≠ .fault := by
      unfold openRefusal at passes
      split at passes
      · cases passes
      · next empty =>
        split at passes
        · cases passes
        · next sound => exact ⟨by simpa using empty, sound⟩
    have filled : ∀ target rate, P (fillSlot i (newLoad s ref target rate) (reserve ref target s)) := by
      intro target rate
      have loaded := hP.fills (x := newLoad s ref target rate) free.1 free.2 rfl h
      exact hP.stands {} loaded
    split
    · exact h
    · dsimp only
      split
      · exact h
      · exact hP.settle (filled _ _)

theorem startLoad (hP : DischargeClosed P) (i : Spout) (h : P s) : P (startLoad i s).state := by
  unfold Machine.startLoad
  split
  · exact h
  · next l hl =>
    split
    · next armed =>
      have asked := hP.asks (x := l) hl (.inl armed) h
      rw [← hl, setLoad_loadOf] at asked
      split
      · exact hP.settle asked
      · exact h
    · exact h

theorem holdLoad (hP : DischargeClosed P) (i : Spout) (h : P s) : P (holdLoad i s).state := by
  unfold Machine.holdLoad
  split
  · exact h
  · split
    · exact h
    · exact h
    · exact hP.settle (hP.hold _ i h)

theorem resumeLoad (hP : DischargeClosed P) (i : Spout) (h : P s) : P (resumeLoad i s).state := by
  unfold Machine.resumeLoad
  split
  · exact h
  · next l hl =>
    dsimp only
    split
    · next held =>
      split
      · exact hP.settle (hP.asks hl (.inr held) h)
      · exact hP.load hl rfl rfl rfl h
    · exact h

theorem finishLoad (hP : DischargeClosed P) (i : Spout) (h : P s) : P (finishLoad i s).state := by
  unfold Machine.finishLoad
  split
  · exact h
  · next l hl =>
    split
    · exact h
    · next discharging => exact hP.settle (hP.finishes hl discharging rfl h)
    · next _ still => exact hP.settle (hP.ends (fun x hx => by rw [hl] at hx; cases hx; exact still) h)

theorem clearFault (hP : DischargeClosed P) (i : Spout) (h : P s) : P (clearFault i s).state := by
  unfold Machine.clearFault
  split
  · exact hP.unfaults i (hP.stands {} h)
  · exact h

/-! ### The dispatch requests -/

theorem postOrder (hP : DischargeClosed P) (ref : Ref) (mass : Nat) (bays : PerSpout Bool) (tolerance : Nat) (h : P s) :
    P (postOrder ref mass bays tolerance s).state := by
  unfold Machine.postOrder
  split
  · exact h
  · split
    · exact h
    · split
      · exact h
      · exact hP.stands {} h

theorem cancelOrder (hP : DischargeClosed P) (ref : Ref) (h : P s) : P (cancelOrder ref s).state := by
  unfold Machine.cancelOrder
  split
  · exact h
  · exact hP.stands {} h

theorem removeOrder (hP : DischargeClosed P) (ref : Ref) (h : P s) : P (removeOrder ref s).state := by
  unfold Machine.removeOrder
  split
  · exact h
  · split
    · exact h
    · exact hP.stands {} h

theorem takeTicket (hP : DischargeClosed P) (n : Nat) (h : P s) : P (takeTicket n s).state := by
  unfold Machine.takeTicket
  split
  · exact h
  · split
    · exact hP.stands {} h
    · exact h

theorem paramEffect (hP : DischargeClosed P) {p : ParamId} (other : p ≠ .budget) (h : P s) : P (paramEffect p s) := by
  have emptied : P (bmuEmptyHistory s) := hP.stands (bmuEmptyHistory_dischargeStands s) h
  unfold Machine.paramEffect
  split
  · exact hP.linkRestart h
  · exact hP.linkRestart h
  · exact hP.settle emptied
  · exact hP.settle emptied
  · exact hP.settle emptied
  · exact hP.stands {} h
  · exact hP.stands {} h
  · exact hP.settle h
  · exact absurd rfl other
  · exact h

/-- BUDGET is BUSY while anything is granted (R85). -/
theorem ungranted_of_accepted {v : Int} (accepted : paramRefusal s .budget v = none) (i : Spout) :
    s.dba.allocation.get i = none := by
  have idle : anyAllocation s = false := by
    unfold paramRefusal at accepted
    by_contra busy
    split_ifs at accepted with _ _ _ free
    exact free (by simpa [paramBusy] using busy)
  simpa using List.any_eq_false.mp idle i (mem_allSpouts i)

theorem changeParam (hP : DischargeClosed P) (id : Byte) (v : Int) (h : P s) : P (changeParam id v s).state := by
  unfold Machine.changeParam
  split
  · exact h
  · next p _ =>
    split
    · exact h
    · next accepted =>
      by_cases budget : p = .budget
      · subst budget
        exact hP.settle (hP.rebudgets (ungranted_of_accepted accepted) h)
      · exact hP.paramEffect budget (hP.stands { budget := paramSet_budget budget _ _ } h)

theorem saveParameters (hP : DischargeClosed P) (h : P s) : P (saveParameters s).state := by
  unfold Machine.saveParameters
  split
  · exact h
  · exact hP.stands {} h

theorem setCustodyLock (hP : DischargeClosed P) (h : P s) : P (setCustodyLock s).state := by
  unfold Machine.setCustodyLock
  split
  · exact h
  · exact hP.stands (DischargeStands.trans (t := s.withPm { s.pm with custodyLock := true }) {} (abortZero_dischargeStands _)) h

theorem zeroBin (hP : DischargeClosed P) (h : P s) : P (zeroBin s).state := by
  unfold Machine.zeroBin
  split
  · exact h
  · exact hP.stands (by rw [beginZero_eq]; exact {}) h

theorem clearSupplyFault (hP : DischargeClosed P) (h : P s) : P (clearSupplyFault s).state := by
  unfold Machine.clearSupplyFault
  split
  · exact hP.stands {} h
  · exact h

/-! ### Every command -/

theorem whileRunning (h : P s) {f : State → State} {t : State} (run : whileRunning f s = .next t)
    (hf : P (f s)) : P t := by
  unfold Machine.whileRunning at run
  split at run
  · cases run; exact hf
  · cases run; exact h

/-- A command that acts under a condition, which it may use. -/
theorem ite (h : P s) {p : Prop} [Decidable p] {u : State} (hu : p → P u) : P (if p then u else s) := by
  split
  · next hp => exact hu hp
  · exact h

theorem exec (hP : DischargeClosed P) (c : Instr) {t : State} (run : exec c s = .next t) (h : P s) : P t := by
  have run_stands : ∀ {f : State → State}, Machine.whileRunning f s = .next t → DischargeStands s (f s) → P t :=
    fun run stands => whileRunning h run (hP.stands stands h)
  cases c with
  | frameSync =>
    unfold Machine.exec execFrameSync at run
    refine whileRunning h run ?_
    split
    · exact hP.earlySync h
    · exact hP.stands {} h
  | frameArrival f o => exact whileRunning h run (hP.frameArrives f o h)
  | earlySync =>
    unfold Machine.exec execEarlySync at run
    exact whileRunning h run (ite h fun _ => hP.earlySync h)
  | lockTimerExpiry => exact whileRunning h run (hP.lockExpires h)
  | stalenessTimerExpiry c => exact whileRunning h run (hP.staleExpires c h)
  | closeTimerExpiry i =>
    unfold Machine.exec execCloseTimerExpiry at run
    exact whileRunning h run (ite h fun _ => hP.gateFault i .gateStuck h)
  | tailTimerExpiry i =>
    unfold Machine.exec execTailTimerExpiry at run
    exact whileRunning h run (ite h fun due => hP.endOfTail (tail_of_tailDue due) h)
  | linkTimerExpiry i =>
    unfold Machine.exec execLinkTimerExpiry at run
    exact whileRunning h run (ite h fun _ => hP.settle (hP.hold _ i (hP.stands {} h)))
  | holdExpired i =>
    unfold Machine.exec execHoldExpired at run
    refine whileRunning h run (ite h fun due => hP.settle (hP.ends (fun l hl => ?_) h))
    rw [held_of_holdDue due hl]
    exact nofun
  | deferralTimerExpiry =>
    unfold Machine.exec execDeferralTimerExpiry at run
    exact whileRunning h run (ite h fun _ => hP.settle (hP.stands (openValve_dischargeStands s) h))
  | refillTimerExpiry =>
    unfold Machine.exec execRefillTimerExpiry at run
    have shut : ∀ x, DischargeStands s ((closeValve .supplyFault s).withBsc x) := fun _ =>
      (closeValve_dischargeStands .supplyFault s).trans {}
    exact whileRunning h run (ite h fun _ => hP.settle (hP.stands (shut _) h))
  | gapTimerExpiry p =>
    unfold Machine.exec execGapTimerExpiry at run
    exact run_stands run (.ite (setPort_dischargeStands s p _) {})
  | saveTimerExpiry x =>
    unfold Machine.exec execSaveTimerExpiry at run
    exact run_stands run (.ite { budget := congrArg Params.budget (saveTimesOut_working x s.pm) } {})
  | saveWriteCompletion x =>
    unfold Machine.exec execSaveWriteCompletion at run
    exact run_stands run { budget := congrArg Params.budget (writeCompletes_working x s.pm) }
  | interlockFallingEdge i =>
    unfold Machine.exec execInterlockFallingEdge at run
    have sampled : P (setInterlock i false s) := hP.stands {} h
    exact whileRunning h run (hP.settle (hP.hold _ i (hP.countTrip i sampled)))
  | interlockRisingEdge i => exact run_stands run {}
  | aerationOkChange high =>
    unfold Machine.exec execAerationOkChange at run
    refine whileRunning h run ?_
    dsimp only
    split
    · exact h
    · exact hP.settle (hP.reportAeration (hP.stands {} h))
  | coldStart service lines => cases run; exact hP.resets rfl rfl rfl rfl rfl rfl
  | warmRestart lines => exact whileRunning h run (hP.resets rfl rfl rfl rfl rfl rfl)
  | portByteReceived p b stopHigh =>
    unfold Machine.exec execPortByteReceived at run
    exact run_stands run (setPort_dischargeStands s p _)
  | replySent p =>
    unfold Machine.exec execReplySent at run
    refine whileRunning h run ?_
    split
    · exact hP.stands (replyEnds_dischargeStands p _ s) h
    · exact h
  | portBaudTakenUp p =>
    unfold Machine.exec execPortBaudTakenUp at run
    exact run_stands run (.ite (setPort_dischargeStands s p _) {})
  | applyWindowReport => exact whileRunning h run (hP.applyReport h)
  | unknownRequest p kind len =>
    unfold Machine.exec execUnknownRequest at run
    refine whileRunning h run ?_
    split
    · exact h
    · exact hP.withRequest p _ (fun _ => hP.answer _ _ _ _) h
  | openLoad p len ref target rate =>
    exact whileRunning h run (hP.serveBay _ _ _ _ _ _ (fun i _ => hP.openLoad ref _ _ i) h)
  | start p len => exact whileRunning h run (hP.serveBay _ _ _ _ _ _ (fun i _ => hP.startLoad i) h)
  | hold p len => exact whileRunning h run (hP.serveBay _ _ _ _ _ _ (fun i _ => hP.holdLoad i) h)
  | resume p len => exact whileRunning h run (hP.serveBay _ _ _ _ _ _ (fun i _ => hP.resumeLoad i) h)
  | finish p len => exact whileRunning h run (hP.serveBay _ _ _ _ _ _ (fun i _ => hP.finishLoad i) h)
  | spoutStatus p len => exact whileRunning h run (hP.serveBay _ _ _ _ _ _ (fun _ _ ht => ht) h)
  | clearFault p len => exact whileRunning h run (hP.serveBay _ _ _ _ _ _ (fun i _ => hP.clearFault i) h)
  | postOrder p len ref mass bays tolerance =>
    exact whileRunning h run (hP.serveDispatch _ _ _ _ _ _ (fun _ => hP.postOrder ref _ _ _) h)
  | cancelOrder p len ref => exact whileRunning h run (hP.serveDispatch _ _ _ _ _ _ (fun _ => hP.cancelOrder ref) h)
  | removeOrder p len ref => exact whileRunning h run (hP.serveDispatch _ _ _ _ _ _ (fun _ => hP.removeOrder ref) h)
  | orderStatus p len ref =>
    exact whileRunning h run (hP.serveDispatch _ _ _ _ _ _ (fun t ht => (orderStatus_state ref t).symm ▸ ht) h)
  | readTicket p len =>
    exact whileRunning h run (hP.serveDispatch _ _ _ _ _ _ (fun t ht => (readTicket_state t).symm ▸ ht) h)
  | takeTicket p len n => exact whileRunning h run (hP.serveDispatch _ _ _ _ _ _ (fun _ => hP.takeTicket _) h)
  | binStatus p len => exact whileRunning h run (hP.serveDispatch _ _ _ _ _ _ (fun _ ht => ht) h)
  | setParameter p len id v => exact whileRunning h run (hP.serveDispatch _ _ _ _ _ _ (fun _ => hP.changeParam id _) h)
  | readParameter p len id =>
    exact whileRunning h run (hP.serveDispatch _ _ _ _ _ _ (fun t ht => (readParameter_state id t).symm ▸ ht) h)
  | saveParameters p len => exact whileRunning h run (hP.serveDispatch _ _ _ _ _ _ (fun _ => hP.saveParameters) h)
  | zeroBin p len => exact whileRunning h run (hP.serveDispatch _ _ _ _ _ _ (fun _ => hP.zeroBin) h)
  | setCustodyLock p len => exact whileRunning h run (hP.serveDispatch _ _ _ _ _ _ (fun _ => hP.setCustodyLock) h)
  | clearUnassigned p len =>
    exact whileRunning h run (hP.serveDispatch _ _ _ _ _ _ (fun t => hP.stands {}) h)
  | clearSupplyFault p len => exact whileRunning h run (hP.serveDispatch _ _ _ _ _ _ (fun _ => hP.clearSupplyFault) h)
  | restart p len => exact whileRunning h run (hP.serveDispatch _ _ _ _ _ _ (fun _ ht => ht) h)
  | partStatus p len => exact whileRunning h run (hP.serveDispatch _ _ _ _ _ _ (fun _ ht => ht) h)
  | resetLineRaised => exact run_stands run { budget := congrArg Params.budget (cutOffSave_working s.pm) }
  | powerLost => cases run; exact hP.resets rfl rfl rfl rfl rfl rfl

/-- A step takes the command at the front of the queue, or the part's own events or a millisecond. -/
theorem step (hP : DischargeClosed P) {t : State} (run : step s = .next t) (h : P s) : P t := by
  unfold Machine.step at run
  split at run
  · cases run
    exact hP.idle h
  · exact hP.exec _ run (hP.stands {} h)

end DischargeClosed

end Sys2Proof.Machine
end

section
/-! The allocations and the effective budget under every step (O5): what each operation does to the DBA, said once, and the
sum of the granted rates, which only a grant to a head that fits makes larger (R74, R75, R78, R82, R85). -/

namespace Sys2Proof.Machine

/-! ### What an operation gives up at the DBA -/

/-- The conditions and the effective budget stand, and no allocation is new: each stands or has gone. -/
structure Dba.Releases (d e : Dba) : Prop where
  conditions : e = { d with allocation := e.allocation, queue := e.queue }
  allocation : ∀ i, e.allocation.get i = d.allocation.get i ∨ e.allocation.get i = none

/-- Nor is any place of the queue. -/
structure Dba.Yields (d e : Dba) : Prop extends Dba.Releases d e where
  queue : e.queue.Sublist d.queue

namespace Dba

variable {d e f : Dba}

theorem Releases.trans (h : d.Releases e) (k : e.Releases f) : d.Releases f where
  conditions := by rw [k.conditions, h.conditions]
  allocation i := (k.allocation i).elim (fun same => (h.allocation i).imp same.trans same.trans) .inr

theorem Yields.refl (d : Dba) : d.Yields d := ⟨⟨rfl, fun _ => .inl rfl⟩, .refl _⟩

theorem Yields.trans (h : d.Yields e) (k : e.Yields f) : d.Yields f :=
  ⟨h.toReleases.trans k.toReleases, k.queue.trans h.queue⟩

theorem Yields.ite {p : Prop} [Decidable p] {s t : State} (ht : d.Yields s.dba) (hu : d.Yields t.dba) :
    d.Yields (if p then s else t).dba := by
  split
  · exact ht
  · exact hu

end Dba

theorem eachSpout_yields {f : Spout → State → State} (hf : ∀ i (t : State), t.dba.Yields (f i t).dba) (s : State) :
    s.dba.Yields (eachSpout f s).dba := ((hf .A s).trans (hf .B _)).trans (hf .C _)

theorem eachSpout_releases {f : Spout → State → State} (hf : ∀ i (t : State), t.dba.Releases (f i t).dba) (s : State) :
    s.dba.Releases (eachSpout f s).dba := ((hf .A s).trans (hf .B _)).trans (hf .C _)

theorem dbaRelease_yields (i : Spout) (s : State) : s.dba.Yields (dbaRelease i s).dba := by
  refine ⟨⟨rfl, fun j => ?_⟩, .refl _⟩
  simp only [dbaRelease, State.withDba_dba, PerSpout.get_set]
  split
  · exact .inr rfl
  · exact .inl rfl

theorem dbaRemoval_yields (i : Spout) (s : State) : s.dba.Yields (dbaRemoval i s).dba :=
  ⟨⟨rfl, (dbaRelease_yields i s).allocation⟩, List.filter_sublist⟩

/-- A gate that closes gives up its spout's allocation (R99, R102). -/
theorem gateToClosing_dba (i : Spout) (s : State) : (gateToClosing i s).dba = (dbaRelease i s).dba :=
  (leftDribble_dischargeStands i _ _).dba

theorem gateToClosing_yields (i : Spout) (s : State) : s.dba.Yields (gateToClosing i s).dba := by
  rw [gateToClosing_dba]
  exact dbaRelease_yields i s

theorem dropPending_yields (i : Spout) (s : State) : s.dba.Yields (dropPending i s).dba :=
  .ite (dbaRelease_yields i _) (.refl _)

theorem plainClose_yields (i : Spout) (s : State) : s.dba.Yields (plainClose i s).dba :=
  .ite (gateToClosing_yields i s) (.ite (dropPending_yields i s) (.refl _))

theorem closeWithTail_yields (i : Spout) (s : State) : s.dba.Yields (closeWithTail i s).dba :=
  .ite (gateToClosing_yields i s) (.ite (dropPending_yields i s) (.refl _))

theorem lmHold_yields (cs : List Cause) (i : Spout) (s : State) : s.dba.Yields (lmHold cs i s).dba := by
  unfold lmHold
  split
  · exact .refl _
  · split
    · exact .refl _
    · dsimp only
      split
      · exact dbaRemoval_yields i _
      · exact plainClose_yields i (setLoad s i _)
      · exact .refl _
      · exact .refl _

/-- A request gives up allocations at most; it may take a place at the tail of the queue. -/
theorem dbaRequest_releases (i : Spout) (l : Load) (s : State) : s.dba.Releases (dbaRequest i l s).dba := by
  unfold dbaRequest
  split
  · exact (Dba.Yields.refl _).toReleases
  · split
    · exact (lmHold_yields _ i s).toReleases
    · exact ⟨rfl, fun _ => .inl rfl⟩

theorem enterWaiting_releases (i : Spout) (s : State) : s.dba.Releases (enterWaiting i s).dba := by
  unfold enterWaiting
  split
  · exact (Dba.Yields.refl _).toReleases
  · exact dbaRequest_releases i _ (setLoad s i _)

theorem lmLift_releases (c : Cause) (i : Spout) (s : State) : s.dba.Releases (lmLift c i s).dba := by
  unfold lmLift
  split
  · exact (Dba.Yields.refl _).toReleases
  · split
    · dsimp only
      split
      · exact enterWaiting_releases i (setLoad s i _)
      · exact (Dba.Yields.refl _).toReleases
    · exact (Dba.Yields.refl _).toReleases

theorem lmBudgetRise_releases (s : State) : s.dba.Releases (lmBudgetRise s).dba := by
  have lifts : ∀ c (t : State), t.dba.Releases (eachSpout (lmLift c) t).dba := fun c => eachSpout_releases (lmLift_releases c)
  unfold lmBudgetRise
  dsimp only
  split <;> split
  · exact (Dba.Yields.refl _).toReleases
  · exact lifts _ s
  · exact lifts _ s
  · exact (lifts _ s).trans (lifts _ _)

theorem recomputeBudget_releases (s : State) :
    (budgetSet (effectiveBudget (working s) s.dba.aerationLow s.dba.starved) s).dba.Releases
      (recomputeBudget s).dba := by
  unfold recomputeBudget
  dsimp only
  split
  · exact lmBudgetRise_releases _
  · exact (Dba.Yields.refl _).toReleases

theorem removedClaim_yields (i : Spout) (l : Load) (s : State) : s.dba.Yields (removedClaim i l s).dba :=
  .ite (dbaRemoval_yields i s) (.refl _)

theorem gateLoadEnded_yields (i : Spout) (s : State) : s.dba.Yields (gateLoadEnded i s).dba :=
  dropPending_yields i (clearTail i s)

theorem endLoad_yields (i : Spout) (cause : EndCause) (tailEnd : Bool) (s : State) :
    s.dba.Yields (endLoad i cause tailEnd s).dba := by
  cases hl : loadOf s i with
  | none =>
    rw [endLoad_of_none cause tailEnd hl]
    exact .refl _
  | some l =>
    have told : s.dba.Yields
        (if tailEnd = true then removedClaim i l s else gateLoadEnded i (removedClaim i l s)).dba :=
      .ite (removedClaim_yields i l s) ((removedClaim_yields i l s).trans (gateLoadEnded_yields i _))
    simp only [endLoad, hl]
    rw [complete_eq, oauLoadEnded_eq]
    exact told

theorem faultReleased_yields (i : Spout) (s : State) : s.dba.Yields (faultReleased i s).dba :=
  .ite (dbaRelease_yields i _) (.refl _)

theorem gateToFault_dba (i : Spout) (s : State) : (gateToFault i s).dba = (faultReleased i s).dba := by
  rw [gateToFault_eq]
  exact (leftDribble_dischargeStands i _ _).dba

theorem noteLoadFault_dba (i : Spout) (f : Load → Load) (s : State) : (noteLoadFault i f s).dba = s.dba := by
  unfold noteLoadFault
  split <;> rfl

theorem gateFaultEnds_yields (i : Spout) (kind : FaultKind) (s : State) : s.dba.Yields (gateFaultEnds i kind s).dba := by
  have ended := endLoad_yields i .spoutFault false (noteLoadFault i (·.noteFault kind) (latchFault i kind (gateToFault i s)))
  rw [noteLoadFault_dba, (latchFault_dischargeStands i kind _).dba, gateToFault_dba] at ended
  exact (faultReleased_yields i s).trans ended

/-- The feedback that ends a close leaves the DBA as it is: a pending grant has its allocation already (R91, R103). -/
theorem gateFeedback_dba (i : Spout) (m : Mark) (s : State) : (gateFeedback i m s).dba = s.dba := by
  unfold gateFeedback
  split
  · split
    · dsimp only
      split
      · exact gateOpen_dba i _
      · rfl
    · rfl
  · rfl

theorem dribbleTest_dba (i : Spout) (l : Load) (s : State) : (dribbleTest i l s).dba = s.dba := by
  unfold dribbleTest
  split <;> rfl

theorem unfault_dba (i : Spout) (s : State) : (unfault i s).dba = s.dba := by
  unfold unfault
  split <;> rfl

/-- The DBA of a revocation before its holds: no allocation and no place (R82). -/
def Dba.revoked (d : Dba) : Dba := { d with allocation := .all none, queue := [] }

theorem revoke_yields (s : State) : s.dba.revoked.Yields (revoke s).dba := by
  have holds := eachSpout_yields
    (f := fun i t => if (PerSpout.of (holdsClaim s.dba)).get i then lmHold (supplyCauses s.dba) i t else t)
    (fun i t => .ite (lmHold_yields _ i t) (.refl _)) (s.withDba s.dba.revoked)
  exact holds

/-! ### The granted sum -/

theorem Dba.Releases.rateOf_le {d e : Dba} (h : d.Releases e) (i : Spout) : rateOf e i ≤ rateOf d i := by
  unfold rateOf
  rcases h.allocation i with same | gone
  · rw [same]
  · rw [gone]
    exact Nat.zero_le _

theorem rateOf_of_free {d : Dba} {i : Spout} (free : d.allocation.get i = none) : rateOf d i = 0 := by
  unfold rateOf
  rw [free]

/-- A grant brings the granted sum no further than the head's rate. -/
theorem grantedSum_grant (q : QueuePlace) (rest : List QueuePlace) (s : State) :
    grantedSum (grant q rest s).dba ≤ grantedSum s.dba + headRate (working s) q := by
  have rates : ∀ j, rateOf (grant q rest s).dba j = if j = q.spout then headRate (working s) q else rateOf s.dba j := by
    intro j
    rw [grant_dba]
    simp only [rateOf, PerSpout.get_set]
    by_cases hj : j = q.spout
    · simp only [if_pos hj]
    · simp only [if_neg hj]
  simp only [grantedSum, rates]
  cases q.spout <;> simp <;> omega

theorem effectiveBudget_eq (w : Params) (aerationLow starved : Bool) : effectiveBudget w aerationLow starved =
    if aerationLow = true ∨ starved = true then 0 else w.budget := by
  simp only [effectiveBudget, Bool.or_eq_true]

namespace BudgetInv

variable {s t : State}

theorem releases (h : BudgetInv s) (budget : t.pm.working.budget = s.pm.working.budget) (k : s.dba.Releases t.dba) :
    BudgetInv t where
  budget := by
    rw [k.conditions, budget]
    exact h.budget
  fits := by
    have effective : t.dba.effectiveBudget = s.dba.effectiveBudget := by rw [k.conditions]
    have sum := h.fits
    have a := k.rateOf_le .A
    have b := k.rateOf_le .B
    have c := k.rateOf_le .C
    omega

theorem of_dba (h : BudgetInv s) (budget : t.pm.working.budget = s.pm.working.budget) (dba : t.dba = s.dba) :
    BudgetInv t := h.releases budget (dba ▸ (Dba.Yields.refl _).toReleases)

/-- With nothing granted the sum fits any effective budget. -/
theorem of_free (budget : s.dba.effectiveBudget = effectiveBudget s.pm.working s.dba.aerationLow s.dba.starved)
    (free : ∀ i, s.dba.allocation.get i = none) : BudgetInv s where
  budget := budget.trans (effectiveBudget_eq _ _ _)
  fits := by simp [rateOf_of_free (free _)]

/-- The effective budget recomputed (R74). -/
theorem recomputeBudget (h : BudgetInv (budgetSet (effectiveBudget (working s) s.dba.aerationLow s.dba.starved) s)) :
    BudgetInv (recomputeBudget s) :=
  h.releases (congrArg Params.budget (recomputeBudget_windowStands s).working) (recomputeBudget_releases s)

theorem revoke (budget : s.dba.effectiveBudget = effectiveBudget s.pm.working s.dba.aerationLow s.dba.starved) :
    BudgetInv (revoke s) := by
  have emptied : BudgetInv (s.withDba s.dba.revoked) := .of_free budget fun i => PerSpout.get_all _ i
  exact emptied.releases (congrArg Params.budget (revoke_windowStands s).working) (revoke_yields s).toReleases

/-- The DBA's new conditions: a fall of the effective budget is a fall to 0, and revokes (R74, R82). -/
theorem dbaSupply (h : BudgetInv s) (aerationLow starved : Bool) : BudgetInv (dbaSupply aerationLow starved s) := by
  let u := s.withDba { s.dba with aerationLow := aerationLow, starved := starved }
  let after := effectiveBudget (working s) aerationLow starved
  have told := recomputeBudget_releases u
  have working := (recomputeBudget_windowStands u).working
  have effective : (Machine.recomputeBudget u).dba.effectiveBudget = after := by
    rw [told.conditions]
    rfl
  have supplied : Machine.dbaSupply aerationLow starved s =
      if 0 < s.dba.effectiveBudget ∧ (Machine.recomputeBudget u).dba.effectiveBudget = 0
        then Machine.revoke (Machine.recomputeBudget u) else Machine.recomputeBudget u := rfl
  have budget : (Machine.recomputeBudget u).dba.effectiveBudget = effectiveBudget (Machine.recomputeBudget u).pm.working
      (Machine.recomputeBudget u).dba.aerationLow (Machine.recomputeBudget u).dba.starved := by
    rw [working, told.conditions]
    rfl
  rw [supplied, effective]
  split
  · exact revoke budget
  · next stands =>
    have before := h.budget
    have sum := h.fits
    have formula : after = if aerationLow = true ∨ starved = true then 0 else s.pm.working.budget :=
      effectiveBudget_eq _ _ _
    refine recomputeBudget ⟨effectiveBudget_eq _ _ _, ?_⟩
    show rateOf s.dba .A + rateOf s.dba .B + rateOf s.dba .C ≤ after
    split at before <;> split at formula <;> omega

theorem grant (h : BudgetInv s) {q : QueuePlace} {rest : List QueuePlace} (fits : headFits s q = true) :
    BudgetInv (grant q rest s) := by
  have pm : (Machine.grant q rest s).pm = s.pm := (grant_runsOn [] q rest s).pm
  have sum := grantedSum_grant q rest s
  constructor
  · rw [grant_dba, pm]
    exact h.budget
  · have room : grantedSum s.dba + headRate (working s) q ≤ s.dba.effectiveBudget := by
      simp only [headFits, Bool.and_eq_true, decide_eq_true_eq] at fits
      exact fits.2
    have effective : (Machine.grant q rest s).dba.effectiveBudget = s.dba.effectiveBudget := by rw [grant_dba]
    unfold grantedSum at sum room
    omega

end BudgetInv

theorem gateFaultEnds_binStands (i : Spout) (kind : FaultKind) (s : State) : BinStands s (gateFaultEnds i kind s) :=
  (((gateToFault_windowStands i s).trans (latchFault_windowStands i kind _)).trans
    (noteLoadFault_windowStands i _ _)).bin.trans (endLoad_binStands i _ false _)

theorem budgetInv_closed : DischargeClosed BudgetInv where
  stands k h := h.of_dba k.budget k.dba
  load _ _ _ _ h := h.of_dba rfl rfl
  gate _ _ _ _ h := h.of_dba rfl rfl
  hold cs i h := h.releases (congrArg Params.budget (lmHold_windowStands cs i _).working) (lmHold_yields cs i _).toReleases
  lift c i h := h.releases (congrArg Params.budget (lmLift_windowStands c i _).working) (lmLift_releases c i _)
  asks _ _ h := (h.of_dba (t := setLoad _ _ _) rfl rfl).releases
    (congrArg Params.budget (enterWaiting_windowStands _ _).working) (enterWaiting_releases _ _)
  grants _ fits h := h.grant fits
  supply aerationLow starved h := h.dbaSupply aerationLow starved
  rebudgets free _ := .recomputeBudget (.of_free rfl free)
  steps _ h := h.of_dba rfl rfl
  dribbles i l h := h.of_dba (congrArg Params.budget (dribbleTest_windowStands i l _).working) (dribbleTest_dba i l _)
  feedback i m h := h.of_dba (congrArg Params.budget (gateFeedback_windowStands i m _).working) (gateFeedback_dba i m _)
  cuts {s i _ _ _ _} _ _ _ h := h.releases (congrArg Params.budget (gateToClosing_windowStands i s).working)
    (gateToClosing_yields i s).toReleases
  finishes _ _ _ h := (h.of_dba (t := setLoad _ _ _) rfl rfl).releases
    (congrArg Params.budget (closeWithTail_windowStands _ _).working) (closeWithTail_yields _ _).toReleases
  ends _ h := h.releases (congrArg Params.budget (endLoad_binStands _ _ _ _).working) (endLoad_yields _ _ _ _).toReleases
  tailEnds _ h := (h.of_dba (t := clearTail _ _) rfl rfl).releases
    (congrArg Params.budget (endLoad_binStands _ _ _ _).working) (endLoad_yields _ _ _ _).toReleases
  faults i kind h := h.releases (congrArg Params.budget (gateFaultEnds_binStands i kind _).working)
    (gateFaultEnds_yields i kind _).toReleases
  unfaults i h := h.of_dba (by unfold unfault; split <;> rfl) (unfault_dba i _)
  fills _ _ _ h := h.of_dba rfl rfl
  resets _ _ _ allocation _ budget := .of_free budget fun i => by rw [allocation, PerSpout.get_all]

/-- Settles O5: only a grant makes the granted sum larger, and it is made where the head fits; a fall of the effective
budget is one to 0, which revokes. -/
theorem budgetInvKept : Obligations.BudgetInvKept := fun _ _ h run => budgetInv_closed.step run h

end Sys2Proof.Machine
end

section
/-! The claim of one spout (O6, O7): what its load, its gate, its allocation and its places in the queue keep of one another
(R76, R77, R80, R89, R91, R106), and what each operation of the spout does to them. O6 is said without the claims of O7, so
the part that O7 adds stands under a premise `full`. -/

namespace Sys2Proof.Machine

/-! ### One spout -/

/-- The gate of spout `i` is open, or waits for a grant, for a DISCHARGING load alone and has a tail for a TAILING one; its
places in the queue are those of a WAITING load without an allocation. With `full` an allocation is one that the gate
discharges or waits on, and a gate in FAULT has no load. -/
structure ClaimCovered (full : Prop) (i : Spout) (l : Option Load) (g : Gate) (a : Option Allocation)
    (qs : List QueuePlace) : Prop where
  pendingCloses : g.pendingGrant.isSome → g.mode = .closing
  opened : g.mode.discharging = true ∨ g.pendingGrant.isSome → ∃ x, l = some x ∧ x.state = .discharging
  tailing : g.tail.isSome → ∃ x, l = some x ∧ x.state = .tailing
  queued : ∀ q ∈ qs, q.spout = i → (∃ x, l = some x ∧ x.state = .waiting ∧ x.number = q.load) ∧ a = none
  granted : full → a.isSome → g.mode.discharging = true ∨ g.pendingGrant.isSome
  faulted : full → g.mode = .fault → l = none

/-- Nor is a claim missing: with `full` an open gate, or one that waits for a grant, has its allocation, and a WAITING load
its place. -/
structure ClaimAgrees (full : Prop) (i : Spout) (l : Option Load) (g : Gate) (a : Option Allocation)
    (qs : List QueuePlace) : Prop extends ClaimCovered full i l g a qs where
  allocated : full → g.mode.discharging = true ∨ g.pendingGrant.isSome → a.isSome
  asked : full → ∀ x, l = some x → x.state = .waiting → ⟨i, x.number, x.rate⟩ ∈ qs

/-- No place of the queue is that of spout `i`. -/
def Unplaced (i : Spout) (qs : List QueuePlace) : Prop := ∀ q ∈ qs, q.spout ≠ i

theorem Unplaced.mono {i : Spout} {ps qs : List QueuePlace} (h : Unplaced i qs) (k : ps.Sublist qs) : Unplaced i ps :=
  fun q hq => h q (k.subset hq)

namespace ClaimCovered

variable {full : Prop} {i : Spout} {l : Option Load} {g g' : Gate} {a a' : Option Allocation}
  {qs qs' : List QueuePlace}

theorem shut (h : ClaimCovered full i l g a qs) (still : ∀ x, l = some x → x.state ≠ .discharging) :
    g.mode.discharging = false ∧ g.pendingGrant = none := by
  have closed : ¬ (g.mode.discharging = true ∨ g.pendingGrant.isSome) := fun n =>
    let ⟨x, hx, discharging⟩ := h.opened n
    still x hx discharging
  simpa using closed

theorem untailed (h : ClaimCovered full i l g a qs) (still : ∀ x, l = some x → x.state ≠ .tailing) : g.tail = none := by
  have none_judged : ¬ g.tail.isSome := fun n =>
    let ⟨x, hx, tailing⟩ := h.tailing n
    still x hx tailing
  simpa using none_judged

theorem unplaced (h : ClaimCovered full i l g a qs) (still : ∀ x, l = some x → x.state ≠ .waiting) : Unplaced i qs :=
  fun q hq hi =>
    let ⟨⟨x, hx, waiting, _⟩, _⟩ := h.queued q hq hi
    still x hx waiting

theorem free (h : ClaimCovered full i l g a qs) (hf : full) (still : ∀ x, l = some x → x.state ≠ .discharging) :
    a = none := by
  obtain ⟨shut, ungranted⟩ := h.shut still
  by_contra n
  have held := h.granted hf (Option.isSome_iff_ne_none.mpr n)
  simp [shut, ungranted] at held

/-- An open gate waits for no grant. -/
theorem ungranted (h : ClaimCovered full i l g a qs) (hd : g.mode.discharging = true) : g.pendingGrant = none := by
  by_contra n
  have closing := h.pendingCloses (Option.isSome_iff_ne_none.mpr n)
  rw [closing] at hd
  cases hd

/-- A load that neither waits nor discharges misses no claim. -/
theorem agrees (h : ClaimCovered full i l g a qs)
    (still : ∀ x, l = some x → x.state ≠ .waiting ∧ x.state ≠ .discharging) : ClaimAgrees full i l g a qs :=
  { h with
    allocated := fun _ n =>
      let ⟨x, hx, discharging⟩ := h.opened n
      absurd discharging (still x hx).2
    asked := fun _ x hx waiting => absurd waiting (still x hx).1 }

/-- A shut gate without a place, and with no allocation, covers any load. -/
theorem of_unclaimed (shut : g.mode.discharging = false) (ungranted : g.pendingGrant = none)
    (tailing : g.tail.isSome → ∃ x, l = some x ∧ x.state = .tailing) (unplaced : Unplaced i qs) (free : full → a = none)
    (faulted : full → g.mode = .fault → l = none) : ClaimCovered full i l g a qs where
  pendingCloses n := by simp [ungranted] at n
  opened n := by simp [shut, ungranted] at n
  tailing := tailing
  queued q hq hi := absurd hi (unplaced q hq)
  granted hf n := by simp [free hf] at n
  faulted := faulted

/-- A shut gate without a tail or a place covers any load it may have. -/
theorem of_rests (rests : g.Rests) (unplaced : Unplaced i qs) (free : full → a = none)
    (faulted : full → g.mode = .fault → l = none) : ClaimCovered full i l g a qs :=
  of_unclaimed rests.shut rests.ungranted (fun n => by simp [rests.untailed] at n) unplaced free faulted

theorem rests (h : ClaimCovered full i l g a qs) (still : ∀ x, l = some x → x.state ≠ .discharging ∧ x.state ≠ .tailing) :
    g.Rests := by
  obtain ⟨shut, ungranted⟩ := h.shut fun x hx => (still x hx).1
  exact ⟨shut, ungranted, h.untailed fun x hx => (still x hx).2⟩

/-- Allocations and places given up leave the rest covered. -/
theorem yields (h : ClaimCovered full i l g a qs) (allocation : a' = a ∨ a' = none)
    (queue : ∀ q ∈ qs', q.spout = i → q ∈ qs) : ClaimCovered full i l g a' qs' :=
  { h with
    queued := fun q hq hi => by
      obtain ⟨waiting, free⟩ := h.queued q (queue q hq hi) hi
      exact ⟨waiting, allocation.elim (fun same => same.trans free) id⟩
    granted := fun hf n => by
      rcases allocation with rfl | rfl
      · exact h.granted hf n
      · cases n }

end ClaimCovered

namespace ClaimAgrees

variable {full : Prop} {i : Spout} {l : Option Load} {x y : Load} {g g' : Gate} {a a' : Option Allocation}
  {qs qs' : List QueuePlace}

theorem covered (h : ClaimAgrees full i l g a qs) : ClaimCovered full i l g a qs := h.toClaimCovered

theorem queue (h : ClaimAgrees full i l g a qs) (same : ∀ q : QueuePlace, q.spout = i → (q ∈ qs' ↔ q ∈ qs)) :
    ClaimAgrees full i l g a qs' :=
  { h.covered.yields (.inl rfl) fun q hq hi => (same q hi).mp hq with
    allocated := h.allocated
    asked := fun hf x hx waiting => (same _ rfl).mpr (h.asked hf x hx waiting) }

/-- A change of a load that keeps its state, its number and its rate. -/
theorem load (h : ClaimAgrees full i (some x) g a qs) (state : y.state = x.state) (number : y.number = x.number)
    (rate : y.rate = x.rate) : ClaimAgrees full i (some y) g a qs where
  pendingCloses := h.pendingCloses
  opened n := by
    obtain ⟨_, hz, discharging⟩ := h.opened n
    cases hz
    exact ⟨y, rfl, state.trans discharging⟩
  tailing n := by
    obtain ⟨_, hz, tailing⟩ := h.tailing n
    cases hz
    exact ⟨y, rfl, state.trans tailing⟩
  queued q hq hi := by
    obtain ⟨⟨_, hz, waiting, place⟩, free⟩ := h.queued q hq hi
    cases hz
    exact ⟨⟨y, rfl, state.trans waiting, number.trans place⟩, free⟩
  granted := h.granted
  faulted hf n := absurd (h.faulted hf n) nofun
  allocated := h.allocated
  asked hf _ hz waiting := by
    cases hz
    rw [number, rate]
    exact h.asked hf x rfl (state.symm.trans waiting)

/-- A gate that neither opens nor shuts, keeps its pending grant, begins no tail and does not go to FAULT. -/
theorem gate (h : ClaimAgrees full i l g a qs) (mode : g'.mode.discharging = g.mode.discharging)
    (closing : g.mode = .closing → g'.mode = .closing ∨ g'.pendingGrant = none) (fault : g'.mode = .fault → g.mode = .fault)
    (pending : g'.pendingGrant = g.pendingGrant) (tail : g'.tail.isSome → g.tail.isSome) :
    ClaimAgrees full i l g' a qs where
  pendingCloses n := (closing (h.pendingCloses (pending ▸ n))).resolve_right (Option.isSome_iff_ne_none.mp n)
  opened n := h.opened (by rwa [mode, pending] at n)
  tailing n := h.tailing (tail n)
  queued := h.queued
  granted hf n := by
    rw [mode, pending]
    exact h.granted hf n
  faulted hf n := h.faulted hf (fault n)
  allocated hf n := h.allocated hf (by rwa [mode, pending] at n)
  asked := h.asked

/-- The gate of a DISCHARGING load opens, or waits, under the allocation that the spout has. -/
theorem of_granted (discharging : x.state = .discharging) (pending : g.pendingGrant.isSome → g.mode = .closing)
    (untailed : g.tail = none) (unplaced : Unplaced i qs)
    (claimed : full → a.isSome ∧ (g.mode.discharging = true ∨ g.pendingGrant.isSome)) :
    ClaimAgrees full i (some x) g a qs where
  pendingCloses := pending
  opened _ := ⟨x, rfl, discharging⟩
  tailing n := by simp [untailed] at n
  queued q hq hi := absurd hi (unplaced q hq)
  granted hf _ := (claimed hf).2
  faulted hf n := by
    rcases (claimed hf).2 with open_ | waits
    · rw [n] at open_; cases open_
    · rw [pending waits] at n; cases n
  allocated hf _ := (claimed hf).1
  asked _ _ hy waiting := by
    cases hy
    rw [discharging] at waiting
    cases waiting

/-- A load that takes its place at the tail of the queue (R76, R77). -/
theorem enqueued (rests : g.Rests) (unplaced : Unplaced i qs) (waiting : x.state = .waiting) (sound : full → g.mode ≠ .fault) :
    ClaimAgrees full i (some x) g none (qs ++ [⟨i, x.number, x.rate⟩]) where
  pendingCloses n := by simp [rests.ungranted] at n
  opened n := by simp [rests.shut, rests.ungranted] at n
  tailing n := by simp [rests.untailed] at n
  queued q hq hi := by
    rcases List.mem_append.mp hq with before | new
    · exact absurd hi (unplaced q before)
    · cases List.mem_singleton.mp new
      exact ⟨⟨x, rfl, waiting, rfl⟩, rfl⟩
  granted _ n := nomatch n
  faulted hf n := absurd n (sound hf)
  allocated _ n := by simp [rests.shut, rests.ungranted] at n
  asked _ y hy _ := by
    cases hy
    exact List.mem_append_right _ List.mem_cons_self

/-- An empty slot whose gate rests has no claim. -/
theorem of_empty (rests : g.Rests) (unplaced : Unplaced i qs) (free : full → a = none) : ClaimAgrees full i none g a qs :=
  ClaimCovered.agrees (.of_rests rests unplaced free fun _ _ => rfl) fun _ hx => nomatch hx

end ClaimAgrees

/-! ### One spout of the state -/

/-- The claim of spout `i` is covered as it stands in the state. -/
def CoveredAt (full : Prop) (i : Spout) (s : State) : Prop :=
  ClaimCovered full i (loadOf s i) (gateOf s i) (s.dba.allocation.get i) s.dba.queue

/-- The claim of spout `i` agrees as it stands in the state. -/
def AgreesAt (full : Prop) (i : Spout) (s : State) : Prop :=
  ClaimAgrees full i (loadOf s i) (gateOf s i) (s.dba.allocation.get i) s.dba.queue

variable {full : Prop} {i : Spout} {s t : State}

theorem AgreesAt.covered (h : AgreesAt full i s) : CoveredAt full i s := h.toClaimCovered

theorem AgreesAt.of_sameAt (h : AgreesAt full i s) (k : SameAt i s t) : AgreesAt full i t := by
  unfold AgreesAt
  rw [k.load, k.gate, k.allocation]
  exact ClaimAgrees.queue h k.place

theorem CoveredAt.of_sameAt (h : CoveredAt full i s) (k : SameAt i s t) : CoveredAt full i t := by
  unfold CoveredAt
  rw [k.load, k.gate, k.allocation]
  exact ClaimCovered.yields h (.inl rfl) fun q hq hi => (k.place q hi).mp hq

/-- A load that neither waits nor discharges has no claim (R77, R80). -/
theorem CoveredAt.noClaim (h : CoveredAt True i s)
    (still : ∀ x, loadOf s i = some x → x.state ≠ .waiting ∧ x.state ≠ .discharging) : noClaim i s :=
  ⟨ClaimCovered.free h trivial fun x hx => (still x hx).2, ClaimCovered.unplaced h fun x hx => (still x hx).1⟩

theorem closedGate_shut {g : Gate} (pending : g.pendingGrant.isSome → g.mode = .closing) :
    (closedGate g).mode.discharging = false ∧ (closedGate g).pendingGrant = none ∧ (closedGate g).tail = g.tail ∧
      ((closedGate g).mode = .fault → g.mode = .fault) := by
  by_cases open_ : g.mode.discharging = true
  · have ungranted : g.pendingGrant = none := by
      by_contra n
      rw [pending (Option.isSome_iff_ne_none.mpr n)] at open_
      cases open_
    rw [closedGate, if_pos open_]
    exact ⟨rfl, ungranted, rfl, nofun⟩
  · by_cases closing : g.mode = .closing
    · rw [closedGate, if_neg open_, if_pos closing]
      exact ⟨by simpa using open_, rfl, rfl, id⟩
    · rw [closedGate, if_neg open_, if_neg closing]
      exact ⟨by simpa using open_, by simpa using mt pending closing, rfl, id⟩

/-- A plain close gives up the allocation that the gate discharges or waits on (R80, R91, R102). -/
theorem plainClose_free (granted : (s.dba.allocation.get i).isSome →
      (gateOf s i).mode.discharging = true ∨ (gateOf s i).pendingGrant.isSome)
    (pending : (gateOf s i).pendingGrant.isSome → (gateOf s i).mode = .closing) :
    (plainClose i s).dba.allocation.get i = none := by
  have released : ∀ t, (dbaRelease i t).dba.allocation.get i = none := fun t => PerSpout.get_set_same _ _ _
  by_cases open_ : (gateOf s i).mode.discharging = true
  · rw [plainClose, if_pos open_, gateToClosing_dba]
    exact released s
  · by_cases waits : (gateOf s i).pendingGrant.isSome
    · rw [plainClose, if_neg open_, if_pos (pending waits), dropPending, if_pos waits]
      exact released _
    · have free : s.dba.allocation.get i = none := by
        by_contra n
        exact (granted (Option.isSome_iff_ne_none.mpr n)).elim open_ waits
      rcases (plainClose_yields i s).allocation i with same | gone
      · exact same.trans free
      · exact gone

/-! ### Holds -/

/-- A hold of a WAITING load removes its place and its allocation (R81, R122). -/
theorem lmHold_of_waiting {l : Load} (hl : loadOf s i = some l) (waiting : l.state = .waiting) {cs : List Cause}
    (hcs : cs ≠ []) : noClaim i (lmHold cs i s) := by
  have removed : ∀ t, noClaim i (dbaRemoval i t) := fun t =>
    ⟨PerSpout.get_set_same _ _ _, fun q hq => of_decide_eq_true (List.mem_filter.mp hq).2⟩
  simp only [lmHold, if_neg hcs, hl, waiting]
  exact removed _

/-- A hold of a DISCHARGING load is a plain close at its gate (R122). -/
theorem lmHold_of_discharging {l : Load} (hl : loadOf s i = some l) (discharging : l.state = .discharging)
    {cs : List Cause} (hcs : cs ≠ []) :
    lmHold cs i s = plainClose i (setLoad s i (some { l with state := .held, causes := l.causes.add cs })) := by
  simp only [lmHold, if_neg hcs, hl, discharging]

/-- What a hold leaves at its own spout, where the gate was closed with the load (R122). -/
theorem CoveredAt.lmHold_unclaimed (h : CoveredAt full i s) {cs : List Cause} (hcs : cs ≠ []) :
    (gateOf (lmHold cs i s) i).mode.discharging = false ∧ (gateOf (lmHold cs i s) i).pendingGrant = none ∧
      (gateOf (lmHold cs i s) i).tail = (gateOf s i).tail ∧
      ((gateOf (lmHold cs i s) i).mode = .fault → (gateOf s i).mode = .fault) ∧
      Unplaced i (lmHold cs i s).dba.queue ∧ (full → (lmHold cs i s).dba.allocation.get i = none) := by
  have yields := lmHold_yields cs i s
  obtain ⟨closes, leaves⟩ := gateOf_lmHold hcs i s
  by_cases drawn : ∃ l, loadOf s i = some l ∧ l.state = .discharging
  · obtain ⟨l, hl, discharging⟩ := drawn
    have unplaced : Unplaced i s.dba.queue := ClaimCovered.unplaced h fun x hx => by
      rw [hl] at hx; cases hx; rw [discharging]; exact nofun
    obtain ⟨shut, ungranted, tail, fault⟩ := closedGate_shut h.pendingCloses
    rw [(closes l hl discharging).1]
    refine ⟨shut, ungranted, tail, fault, unplaced.mono yields.queue, fun hf => ?_⟩
    rw [lmHold_of_discharging hl discharging hcs]
    exact plainClose_free (h.granted hf) h.pendingCloses
  · have still : ∀ x, loadOf s i = some x → x.state ≠ .discharging := fun x hx n => drawn ⟨x, hx, n⟩
    obtain ⟨shut, ungranted⟩ := ClaimCovered.shut h still
    rw [(leaves still).1]
    refine ⟨shut, ungranted, rfl, id, ?_, fun hf => ?_⟩
    · by_cases waits : ∃ l, loadOf s i = some l ∧ l.state = .waiting
      · obtain ⟨l, hl, waiting⟩ := waits
        exact (lmHold_of_waiting hl waiting hcs).2
      · exact (ClaimCovered.unplaced h fun x hx n => waits ⟨x, hx, n⟩).mono yields.queue
    · exact (yields.allocation i).elim (fun same => same.trans (ClaimCovered.free h hf still)) id

/-- A hold leaves no claim behind, so a claim need only be covered before it (R122). -/
theorem CoveredAt.lmHold (h : CoveredAt full i s) {cs : List Cause} (hcs : cs ≠ []) : AgreesAt full i (lmHold cs i s) := by
  obtain ⟨shut, ungranted, tail, fault, unplaced, free⟩ := h.lmHold_unclaimed hcs
  have load := loadOf_lmHold hcs i s
  have held : ∀ l, loadOf s i = some l → (l.heldBy cs).state ≠ .waiting ∧ (l.heldBy cs).state ≠ .discharging ∧
      (l.state = .tailing → (l.heldBy cs).state = .tailing) := by
    intro l _
    cases hs : l.state <;> simp [Load.heldBy, LoadState.records, hs]
  refine ClaimCovered.agrees (.of_unclaimed shut ungranted (fun n => ?_) unplaced free fun hf n => ?_) fun x hx => ?_
  · rw [tail] at n
    obtain ⟨l, hl, tailing⟩ := h.tailing n
    exact ⟨l.heldBy cs, by rw [load, hl, Option.map_some], (held l hl).2.2 tailing⟩
  · rw [load, h.faulted hf (fault n), Option.map_none]
  · rw [load] at hx
    obtain ⟨l, hl, rfl⟩ := Option.map_eq_some_iff.mp hx
    exact ⟨(held l hl).1, (held l hl).2.1⟩

end Sys2Proof.Machine
end

section
/-! The claims of all spouts under every step (O6, O7): each change of the discharges keeps the claim of its own spout and
leaves the others'. -/

namespace Sys2Proof.Machine

/-! ### What some operations do at their own spout -/

/-- The gate of a load that opens is in a discharging mode (R90). -/
theorem gateOpen_opens {i : Spout} {s : State} {l : Load} (hl : loadOf s i = some l) :
    (gateOf (gateOpen i s) i).mode.discharging = true := by
  unfold gateOpen
  rw [hl]
  dsimp only
  split
  · simp [GateMode.discharging]
  · have entered : ∀ t, gateOf (dribbleEntered i t) i = gateOf t i := fun _ => rfl
    simp [entered, GateMode.discharging]

/-- A close with tail is a plain close at the gate, but for the tail (R102). -/
theorem gateOf_closeWithTail (i : Spout) (s : State) :
    ∃ x, gateOf (closeWithTail i s) i = { closedGate (gateOf s i) with tail := x } := by
  by_cases opened : (gateOf s i).mode.discharging = true
  · rw [closeWithTail, if_pos opened, closedGate, if_pos opened, beginTail, gateOf_setGate_same, gateOf_gateToClosing]
    exact ⟨_, rfl⟩
  · by_cases waits : (gateOf s i).mode = .closing ∧ (gateOf s i).pendingGrant.isSome
    · rw [closeWithTail, if_neg opened, if_pos waits, closedGate, if_neg opened, if_pos waits.1, beginTail,
        gateOf_setGate_same, gateOf_dropPending]
      exact ⟨_, rfl⟩
    · rw [closeWithTail, if_neg opened, if_neg waits, closedGate, if_neg opened]
      by_cases closing : (gateOf s i).mode = .closing
      · have ungranted : (gateOf s i).pendingGrant = none := by simpa [closing] using waits
        rw [if_pos closing, ← ungranted]
        exact ⟨_, rfl⟩
      · rw [if_neg closing]
        exact ⟨_, rfl⟩

theorem closeWithTail_dba (i : Spout) (s : State) : (closeWithTail i s).dba = (plainClose i s).dba := by
  by_cases opened : (gateOf s i).mode.discharging = true
  · rw [closeWithTail, if_pos opened, plainClose, if_pos opened]
    rfl
  · by_cases waits : (gateOf s i).mode = .closing ∧ (gateOf s i).pendingGrant.isSome
    · rw [closeWithTail, if_neg opened, if_pos waits, plainClose, if_neg opened, if_pos waits.1]
      rfl
    · rw [closeWithTail, if_neg opened, if_neg waits, plainClose, if_neg opened]
      split
      · next closing => rw [dropPending, if_neg fun n => waits ⟨closing, n⟩]
      · rfl

theorem loadOf_closeWithTail (i : Spout) (s : State) : loadOf (closeWithTail i s) i = loadOf s i := by
  unfold closeWithTail
  split
  · exact loadOf_gateToClosing i i s
  · split
    · exact loadOf_dropPending i i s
    · rfl

/-- A window step does not bring a gate to FAULT. -/
theorem steppedGate_fault {w : Params} {a : Nat} {g : Gate} (fault : (steppedGate w a g).mode = .fault) :
    g.mode = .fault := by
  unfold steppedGate at fault
  dsimp only at fault
  split at fault
  · unfold openingStep at fault
    split at fault
    · cases fault
    · dsimp only at fault
      split at fault <;> cases fault
  · unfold regulatingStep at fault
    split at fault <;> exact fault
  · unfold dribbleStep at fault
    split at fault <;> exact fault
  · exact fault

/-! ### Where the end of a load acts -/

theorem removedClaim_confined (i : Spout) (l : Load) (s : State) : Confined i s (removedClaim i l s) := by
  unfold removedClaim
  split
  · exact dbaRemoval_confined i s
  · exact .refl i s

theorem gateLoadEnded_confined (i : Spout) (s : State) : Confined i s (gateLoadEnded i s) :=
  (setGate_confined s i _).trans (dropPending_confined i _)

/-- The end of a load, after what the DBA and the gate do. -/
theorem slotEmptied_others {i j : Spout} (hj : j ≠ i) (l : Load) (cause : EndCause) (s : State) :
    SameAt j s (emptySlot i (complete i l cause (oauLoadEnded i l.number s))) := by
  rw [complete_eq, oauLoadEnded_eq]
  exact { SameAt.refl j s with load := PerSpout.get_set_other _ _ hj }

theorem endLoad_others {i j : Spout} (hj : j ≠ i) (cause : EndCause) (tailEnd : Bool) (s : State) :
    SameAt j s (endLoad i cause tailEnd s) := by
  cases hl : loadOf s i with
  | none =>
    rw [endLoad_of_none cause tailEnd hl]
    exact .refl j s
  | some l =>
    have removed := (removedClaim_confined i l s).others j hj
    simp only [endLoad, hl]
    refine SameAt.trans ?_ (slotEmptied_others hj l cause _)
    split
    · exact removed
    · exact removed.trans ((gateLoadEnded_confined i _).others j hj)

theorem faultReleased_others {i j : Spout} (hj : j ≠ i) (s : State) : SameAt j s (faultReleased i s) := by
  have faulted : SameAt j s (gateFaulted i s) :=
    { SameAt.refl j s with gate := PerSpout.get_set_other _ _ hj, command := PerSpout.get_set_other _ _ hj }
  unfold faultReleased
  split
  · exact faulted.trans ((dbaRelease_confined i _).others j hj)
  · exact faulted

theorem gateToFault_others {i j : Spout} (hj : j ≠ i) (s : State) : SameAt j s (gateToFault i s) := by
  rw [gateToFault_eq]
  exact (faultReleased_others hj s).trans ((leftDribble_confined i _ _).others j hj)

theorem noteLoadFault_confined (i : Spout) (f : Load → Load) (s : State) : Confined i s (noteLoadFault i f s) := by
  unfold noteLoadFault
  split
  · exact setLoad_confined s i _
  · exact .refl i s

theorem gateFaultEnds_others {i j : Spout} (hj : j ≠ i) (kind : FaultKind) (s : State) :
    SameAt j s (gateFaultEnds i kind s) := by
  have latched : ∀ t, SameAt j t (latchFault i kind t) := fun t => by
    rw [latchFault_eq]
    exact { SameAt.refl j t with }
  exact (((gateToFault_others hj s).trans (latched _)).trans ((noteLoadFault_confined i _ _).others j hj)).trans
    (endLoad_others hj _ _ _)

/-! ### All spouts -/

/-- The claim of every spout agrees, and no spout has two places in the queue. -/
structure ClaimsAgree (full : Prop) (s : State) : Prop where
  agrees : ∀ i, AgreesAt full i s
  once : (s.dba.queue.map QueuePlace.spout).Nodup

namespace ClaimsAgree

variable {full : Prop} {s t : State}

theorem congr (h : ClaimsAgree full s) (slot : t.lm.slot = s.lm.slot := by rfl) (gate : t.gate = s.gate := by rfl)
    (allocation : t.dba.allocation = s.dba.allocation := by rfl) (queue : t.dba.queue = s.dba.queue := by rfl) :
    ClaimsAgree full t where
  agrees i := by
    unfold AgreesAt loadOf gateOf
    rw [slot, gate, allocation, queue]
    exact h.agrees i
  once := queue ▸ h.once

/-- A change of one spout that keeps its claim. -/
theorem at_spout (h : ClaimsAgree full s) {i : Spout} (others : ∀ j ≠ i, SameAt j s t) (own : AgreesAt full i t)
    (once : (t.dba.queue.map QueuePlace.spout).Nodup) : ClaimsAgree full t where
  agrees j := by
    by_cases hj : j = i
    · exact hj ▸ own
    · exact (h.agrees j).of_sameAt (others j hj)
  once := once

theorem once_of_sublist (h : ClaimsAgree full s) {qs : List QueuePlace} (queue : qs.Sublist s.dba.queue) :
    (qs.map QueuePlace.spout).Nodup := h.once.sublist (queue.map _)

/-- The claim of a spout with a load, in which the load is named. -/
theorem of_load (h : ClaimsAgree full s) {i : Spout} {l : Load} (hl : loadOf s i = some l) :
    ClaimAgrees full i (some l) (gateOf s i) (s.dba.allocation.get i) s.dba.queue := hl ▸ h.agrees i

theorem setLoad (h : ClaimsAgree full s) {i : Spout} {l x : Load} (hl : loadOf s i = some l) (state : x.state = l.state)
    (number : x.number = l.number) (rate : x.rate = l.rate) : ClaimsAgree full (setLoad s i (some x)) := by
  refine h.at_spout (setLoad_confined s i _).others ?_ h.once
  unfold AgreesAt
  rw [loadOf_setLoad_same]
  exact (h.of_load hl).load state number rate

theorem setGate (h : ClaimsAgree full s) {i : Spout} {g : Gate}
    (own : ClaimAgrees full i (loadOf s i) g (s.dba.allocation.get i) s.dba.queue) :
    ClaimsAgree full (setGate s i g) := by
  refine h.at_spout (setGate_confined s i g).others ?_ h.once
  unfold AgreesAt
  rw [gateOf_setGate_same]
  exact own

theorem hold (h : ClaimsAgree full s) (cs : List Cause) (i : Spout) : ClaimsAgree full (lmHold cs i s) := by
  by_cases hcs : cs = []
  · rw [lmHold, if_pos hcs]
    exact h
  · exact h.at_spout (lmHold_confined cs i s).others ((h.agrees i).covered.lmHold hcs)
      (h.once_of_sublist (lmHold_yields cs i s).queue)

/-! ### Requests and grants -/

/-- A WAITING load at a spout without a place asks: it has its place, or is held (R76). -/
theorem dbaRequest_agreesAt {i : Spout} {x : Load} (hl : loadOf s i = some x) (waiting : x.state = .waiting)
    (rests : (gateOf s i).Rests) (unplaced : Unplaced i s.dba.queue) (free : full → s.dba.allocation.get i = none)
    (sound : full → (gateOf s i).mode ≠ .fault) : AgreesAt full i (dbaRequest i x s) := by
  have covered : CoveredAt full i s := .of_rests rests unplaced free fun hf n => absurd n (sound hf)
  unfold dbaRequest
  split
  · next claims =>
    have notFull : ¬ full := fun hf => by
      rcases Bool.or_eq_true_iff.mp claims with granted | placed
      · rw [free hf] at granted
        cases granted
      · obtain ⟨q, hq, hi⟩ := List.any_eq_true.mp placed
        exact unplaced q hq (of_decide_eq_true hi)
    exact { covered with allocated := fun hf => absurd hf notFull, asked := fun hf => absurd hf notFull }
  · next claimless =>
    split
    · next supply =>
      have causes : supplyCauses s.dba ≠ [] := by
        unfold supplyCauses
        cases ha : s.dba.aerationLow <;> simp_all
      exact covered.lmHold causes
    · have unclaimed : s.dba.allocation.get i = none := by
        by_contra n
        exact claimless (Bool.or_eq_true_iff.mpr (.inl (Option.isSome_iff_ne_none.mpr n)))
      show ClaimAgrees full i (loadOf s i) (gateOf s i) (s.dba.allocation.get i) (s.dba.queue ++ [⟨i, x.number, x.rate⟩])
      rw [hl, unclaimed]
      exact .enqueued rests unplaced waiting sound

theorem dbaRequest_once {i : Spout} (x : Load) (once : (s.dba.queue.map QueuePlace.spout).Nodup)
    (unplaced : Unplaced i s.dba.queue) : ((dbaRequest i x s).dba.queue.map QueuePlace.spout).Nodup := by
  unfold dbaRequest
  split
  · exact once
  · split
    · exact once.sublist ((lmHold_yields _ i s).queue.map _)
    · show ((s.dba.queue ++ [QueuePlace.mk i x.number x.rate]).map QueuePlace.spout).Nodup
      rw [List.map_append]
      refine once.append (List.nodup_singleton _) fun j hj hi => ?_
      obtain ⟨q, hq, rfl⟩ := List.mem_map.mp hj
      exact unplaced q hq (List.mem_singleton.mp hi)

/-- A load at rest with its spout enters WAITING and asks (R76, R121). -/
theorem asks (h : ClaimsAgree full s) {i : Spout} {l x : Load} (hl : loadOf s i = some l)
    (rested : l.state = .armed ∨ l.state = .held) :
    ClaimsAgree full (enterWaiting i (Machine.setLoad s i (some x))) := by
  have before := (h.of_load hl).covered
  have still : ∀ y, some l = some y → y.state ≠ .waiting ∧ y.state ≠ .discharging ∧ y.state ≠ .tailing := by
    intro _ hy
    cases hy
    rcases rested with state | state <;> rw [state] <;> exact ⟨nofun, nofun, nofun⟩
  have rests := before.rests fun y hy => (still y hy).2
  have unplaced := before.unplaced fun y hy => (still y hy).1
  have asking : enterWaiting i (Machine.setLoad s i (some x)) = dbaRequest i { x with state := .waiting }
      (Machine.setLoad s i (some { x with state := .waiting })) := by
    simp only [enterWaiting, loadOf_setLoad_same, setLoad_setLoad]
  rw [asking]
  refine h.at_spout ((setLoad_confined s i _).trans (dbaRequest_confined i _ _)).others ?_
    (dbaRequest_once (s := Machine.setLoad s i _) _ h.once unplaced)
  exact dbaRequest_agreesAt (loadOf_setLoad_same s i _) rfl rests unplaced
    (fun hf => before.free hf fun y hy => (still y hy).2.1) fun hf fault => nomatch before.faulted hf fault

theorem lift (h : ClaimsAgree full s) (c : Cause) (i : Spout) : ClaimsAgree full (lmLift c i s) := by
  unfold lmLift
  split
  · exact h
  · next l hl =>
    split
    · next lifted =>
      dsimp only
      split
      · exact h.asks hl (.inr lifted.1)
      · exact h.setLoad hl rfl rfl rfl
    · exact h

/-- The gate of a load that has just gone to DISCHARGING takes its grant, now or when it has closed (R90, R91). -/
theorem gateTakeGrant_agreesAt {i : Spout} {l : Load} (hl : loadOf s i = some l) (discharging : l.state = .discharging)
    (rests : (gateOf s i).Rests) (sound : full → (gateOf s i).mode ≠ .fault) (unplaced : Unplaced i s.dba.queue)
    (granted : (s.dba.allocation.get i).isSome) (a : Allocation) : AgreesAt full i (gateTakeGrant i a s) := by
  unfold AgreesAt
  rw [loadOf_gateTakeGrant, hl]
  unfold gateTakeGrant
  split
  · obtain ⟨pending, tail⟩ := gateOf_gateOpen i s
    rw [gateOpen_dba]
    exact .of_granted discharging (fun n => by simp [pending, rests.ungranted] at n) (tail.trans rests.untailed) unplaced
      fun _ => ⟨granted, .inl (gateOpen_opens hl)⟩
  · next closing =>
    rw [gateOf_setGate_same]
    exact .of_granted discharging (fun _ => closing) rests.untailed unplaced fun _ => ⟨granted, .inr rfl⟩
  · next closed closing =>
    refine .of_granted discharging (fun n => by simp [rests.ungranted] at n) rests.untailed unplaced fun hf => ?_
    have shut := rests.shut
    have faultless := sound hf
    cases hm : (gateOf s i).mode <;> rw [hm] at shut faultless <;> simp_all [GateMode.discharging]

theorem grant (h : ClaimsAgree full s) {q : QueuePlace} {rest : List QueuePlace} (queue : s.dba.queue = q :: rest) :
    ClaimsAgree full (grant q rest s) := by
  have once := h.once
  rw [queue, List.map_cons, List.nodup_cons] at once
  obtain ⟨first, once⟩ := once
  refine h.at_spout (grant_confined queue).others ?_ (by rw [grant_dba]; exact once)
  obtain ⟨⟨l, hl, waiting, number⟩, -⟩ := (h.agrees q.spout).queued q (by rw [queue]; exact List.mem_cons_self) rfl
  have before := (h.of_load hl).covered
  have rests := before.rests fun y hy => by cases hy; rw [waiting]; exact ⟨nofun, nofun⟩
  let granted := s.withDba { s.dba with
    allocation := s.dba.allocation.set q.spout (some { load := q.load, rate := headRate (working s) q }), queue := rest }
  have reaches : Machine.grant q rest s = gateTakeGrant q.spout { load := q.load, rate := headRate (working s) q }
      (Machine.setLoad granted q.spout (some { l with state := .discharging })) := by
    have load : loadOf granted q.spout = some l := hl
    show grantTaken q _ granted = _
    rw [grantTaken, load]
    exact if_pos ⟨number, waiting⟩
  have unplaced : Unplaced q.spout rest := fun p hp hi => first (hi ▸ List.mem_map_of_mem hp)
  have allocated : (granted.dba.allocation.get q.spout).isSome := by
    show ((s.dba.allocation.set q.spout _).get q.spout).isSome
    rw [PerSpout.get_set_same]
    rfl
  rw [reaches]
  exact gateTakeGrant_agreesAt (s := Machine.setLoad granted q.spout (some { l with state := .discharging }))
    (loadOf_setLoad_same _ _ _) rfl rests (fun hf n => nomatch before.faulted hf n) unplaced allocated _

/-! ### The effective budget and the revocation -/

theorem recomputeBudget (h : ClaimsAgree full s) : ClaimsAgree full (recomputeBudget s) := by
  have lifts : ∀ c {t}, ClaimsAgree full t → ClaimsAgree full (eachSpout (lmLift c) t) :=
    fun c {_} ht => eachSpout_preserves (P := ClaimsAgree full) (fun i _ hu => hu.lift c i) ht
  have set : ∀ b, ClaimsAgree full (budgetSet b s) := fun _ => h.congr
  unfold Machine.recomputeBudget lmBudgetRise
  dsimp only
  split
  · split <;> split
    · exact set _
    · exact lifts _ (set _)
    · exact lifts _ (set _)
    · exact lifts _ (lifts _ (set _))
  · exact set _

/-- A revocation takes every claim, and each spout that had one is held (R82). -/
theorem revoke (h : ClaimsAgree full s) (causes : full → supplyCauses s.dba ≠ []) : ClaimsAgree full (revoke s) where
  once := (List.sublist_nil.mp (revoke_yields s).queue) ▸ List.nodup_nil
  agrees i := by
    let f : Spout → State → State := fun i t =>
      if (PerSpout.of (holdsClaim s.dba)).get i then lmHold (supplyCauses s.dba) i t else t
    have confined : ∀ j t, Confined j t (f j t) := by
      intro j t
      unfold f
      split
      · exact lmHold_confined _ j t
      · exact .refl j t
    obtain ⟨u, before, -, after, -⟩ := eachSpout_at confined i (s.withDba s.dba.revoked)
    refine AgreesAt.of_sameAt ?_ after
    have emptied : CoveredAt full i u := by
      refine CoveredAt.of_sameAt ?_ before
      exact (h.agrees i).covered.yields (.inr (PerSpout.get_all _ i)) fun q hq => by cases hq
    unfold f
    rw [PerSpout.get_of]
    split
    · by_cases hcs : supplyCauses s.dba = []
      · have notFull : ¬ full := fun hf => causes hf hcs
        rw [lmHold, if_pos hcs]
        exact { emptied with allocated := fun hf => absurd hf notFull, asked := fun hf => absurd hf notFull }
      · exact emptied.lmHold hcs
    · next unnamed =>
      refine (h.agrees i).of_sameAt (SameAt.trans ?_ before)
      obtain ⟨free, unplaced⟩ : s.dba.allocation.get i = none ∧ ∀ q ∈ s.dba.queue, q.spout ≠ i := by
        simpa [holdsClaim] using unnamed
      exact { SameAt.refl i s with
        allocation := (PerSpout.get_all _ i).trans free.symm
        place := fun q hq => ⟨nofun, fun hm => absurd hq (unplaced q hm)⟩ }

/-- The DBA's new conditions (R74): where the sum of the granted rates fits, a fall to 0 is one that a condition brings. -/
theorem supply (h : ClaimsAgree full s) (budget : full → BudgetInv s) (aerationLow starved : Bool) :
    ClaimsAgree full (dbaSupply aerationLow starved s) := by
  let u := s.withDba { s.dba with aerationLow := aerationLow, starved := starved }
  have told : ClaimsAgree full (Machine.recomputeBudget u) := (h.congr (t := u)).recomputeBudget
  have conditions := (recomputeBudget_releases u).conditions
  have supplied : dbaSupply aerationLow starved s =
      if 0 < s.dba.effectiveBudget ∧ (Machine.recomputeBudget u).dba.effectiveBudget = 0
        then Machine.revoke (Machine.recomputeBudget u) else Machine.recomputeBudget u := rfl
  rw [supplied]
  split
  · next fell =>
    refine told.revoke fun hf => ?_
    have before := (budget hf).budget
    have after : effectiveBudget s.pm.working aerationLow starved = 0 := by
      have fallen := fell.2
      rw [conditions] at fallen
      exact fallen
    rw [effectiveBudget_eq] at after
    rw [conditions]
    have present : aerationLow = true ∨ starved = true := by
      by_contra n
      rw [if_neg n] at after
      split at before <;> omega
    show supplyCauses { s.dba with aerationLow := aerationLow, starved := starved } ≠ []
    rcases present with rfl | rfl <;> simp [supplyCauses]
  · exact told

/-! ### The Gate Controllers -/

theorem steps (h : ClaimsAgree full s) (i : Spout) : ClaimsAgree full (windowStep i s) := by
  obtain ⟨discharging, closing, pending⟩ := steppedGate_mode (working s) (rateOf s.dba i) (gateOf s i)
  have tail := steppedGate_tail (working s) (rateOf s.dba i) (gateOf s i)
  have stepped := (h.agrees i).gate discharging (fun n => .inl (closing n)) steppedGate_fault pending
    (fun n => tail ▸ n)
  unfold windowStep
  refine (h.setGate stepped).at_spout (setCommand_confined i _ _).others ?_ h.once
  unfold AgreesAt
  rw [gateOf_setCommand, if_pos rfl, gateOf_setGate_same]
  exact stepped.gate rfl .inl id rfl id

theorem dribbles (h : ClaimsAgree full s) (i : Spout) (l : Load) : ClaimsAgree full (dribbleTest i l s) := by
  unfold dribbleTest
  split
  · next dribbles =>
    have opened : (gateOf s i).mode.discharging = true := by
      rcases dribbles.1 with mode | mode <;> rw [mode] <;> rfl
    have entered := h.setGate (i := i) (g := { gateOf s i with mode := .dribble })
      ((h.agrees i).gate opened.symm (fun _ => .inr ((h.agrees i).covered.ungranted opened)) nofun rfl id)
    exact entered.congr
  · exact h

/-- A gate that has closed takes the grant that waited for it (R91, R103). -/
theorem feedback (h : ClaimsAgree full s) (i : Spout) (m : Mark) : ClaimsAgree full (gateFeedback i m s) := by
  unfold gateFeedback
  split
  · split
    · next due =>
      dsimp only
      split
      · next waits =>
        obtain ⟨l, hl, discharging⟩ := (h.agrees i).opened (.inr waits)
        have before := (h.of_load hl).covered
        have untailed := before.untailed fun y hy => by cases hy; rw [discharging]; exact nofun
        have unplaced := before.unplaced fun y hy => by cases hy; rw [discharging]; exact nofun
        obtain ⟨pending, tail⟩ := gateOf_gateOpen i
          (Machine.setGate s i { gateOf s i with mode := .closed, closeTimer := none, pendingGrant := none })
        rw [gateOf_setGate_same] at pending tail
        refine h.at_spout ((setGate_confined s i _).trans (gateOpen_confined i _)).others ?_
          (by rw [gateOpen_dba]; exact h.once)
        unfold AgreesAt
        rw [loadOf_gateOpen, loadOf_setGate, gateOpen_dba, hl]
        exact .of_granted discharging (fun n => by simp [pending] at n) (tail.trans untailed) unplaced
          fun hf => ⟨(h.agrees i).allocated hf (.inr waits), .inl (gateOpen_opens hl)⟩
      · next ungranted =>
        refine h.setGate ((h.agrees i).gate ?_ (fun _ => .inr rfl) nofun ?_ id)
        · rw [due.1]; rfl
        · exact (Option.not_isSome_iff_eq_none.mp ungranted).symm
    · exact h
  · exact h

theorem unfaults (h : ClaimsAgree full s) (i : Spout) : ClaimsAgree full (unfault i s) := by
  unfold unfault
  split
  · next fault =>
    refine h.setGate ((h.agrees i).gate ?_ (fun n => ?_) nofun rfl id)
    · rw [fault]; rfl
    · rw [fault] at n; cases n
  · exact h

/-- A cutoff gives up the allocation that the gate discharged (R80, R99). -/
theorem cuts (h : ClaimsAgree full s) {i : Spout} {x : Load} {c : Option CutoffRecord} {t : Option Tail}
    (opened : (gateOf s i).mode.discharging = true) (tailing : x.state = .tailing) :
    ClaimsAgree full (Machine.setLoad (Machine.setGate (gateToClosing i s) i
      { gateOf (gateToClosing i s) i with cutoff := c, tail := t }) i (some x)) := by
  have before := (h.agrees i).covered
  obtain ⟨y, hy, discharging⟩ := before.opened (.inl opened)
  have unplaced := before.unplaced fun z hz => by rw [hy] at hz; cases hz; rw [discharging]; exact nofun
  have dba := gateToClosing_dba i s
  refine h.at_spout (((gateToClosing_confined i s).trans (setGate_confined _ i _)).trans
    (setLoad_confined _ i _)).others (ClaimCovered.agrees ?_ ?_) (h.once_of_sublist (gateToClosing_yields i s).queue)
  · rw [loadOf_setLoad_same, gateOf_setLoad, gateOf_setGate_same, gateOf_gateToClosing]
    refine .of_unclaimed rfl (before.ungranted opened) (fun _ => ⟨x, rfl, tailing⟩)
      (unplaced.mono (gateToClosing_yields i s).queue) (fun _ => ?_) nofun
    show (gateToClosing i s).dba.allocation.get i = none
    rw [dba]
    exact PerSpout.get_set_same _ _ _
  · rintro _ hz
    rw [loadOf_setLoad_same] at hz
    cases hz
    rw [tailing]
    exact ⟨nofun, nofun⟩

/-- FINISH of a DISCHARGING load gives up the allocation too (R80, R102, R130). -/
theorem finishes (h : ClaimsAgree full s) {i : Spout} {l x : Load} (hl : loadOf s i = some l)
    (discharging : l.state = .discharging) (tailing : x.state = .tailing) :
    ClaimsAgree full (closeWithTail i (Machine.setLoad s i (some x))) := by
  let u := Machine.setLoad s i (some x)
  have before := (h.of_load hl).covered
  have unplaced := before.unplaced fun z hz => by cases hz; rw [discharging]; exact nofun
  have yields := closeWithTail_yields i u
  obtain ⟨shut, ungranted, -, fault⟩ := closedGate_shut before.pendingCloses
  obtain ⟨tail, gate⟩ := gateOf_closeWithTail i u
  have load : loadOf (closeWithTail i u) i = some x := (loadOf_closeWithTail i u).trans (loadOf_setLoad_same s i _)
  refine h.at_spout ((setLoad_confined s i _).trans (closeWithTail_confined i u)).others (ClaimCovered.agrees ?_ ?_)
    (h.once_of_sublist yields.queue)
  · rw [load, gate]
    refine .of_unclaimed shut ungranted (fun _ => ⟨x, rfl, tailing⟩) (unplaced.mono yields.queue) (fun hf => ?_)
      fun hf n => nomatch before.faulted hf (fault n)
    rw [closeWithTail_dba]
    exact plainClose_free (s := u) (before.granted hf) before.pendingCloses
  · intro z hz
    rw [load] at hz
    cases hz
    rw [tailing]
    exact ⟨nofun, nofun⟩

/-! ### The ends of loads -/

/-- An end other than a tail's leaves its spout without a load, a tail, a grant or a claim (R110, R133). -/
theorem endLoad_agreesAt {i : Spout} {l : Load} (cause : EndCause) (hl : loadOf s i = some l)
    (shut : (gateOf s i).mode.discharging = false) (queued : ∀ q ∈ s.dba.queue, q.spout = i → l.state = .waiting) :
    AgreesAt full i (endLoad i cause false s) := by
  obtain ⟨slot, gates⟩ := endLoad_spouts cause false hl
  obtain ⟨free, unplaced⟩ := endLoad_noClaim cause hl queued
  have load : loadOf (endLoad i cause false s) i = none := by
    rw [loadOf, slot, PerSpout.get_set_same]
  have gate : gateOf (endLoad i cause false s) i =
      { gateOf s i with tail := none, cutoff := none, pendingGrant := none } := by
    rw [gateOf, gates]
    exact PerSpout.get_set_same _ _ _
  unfold AgreesAt
  rw [load, gate]
  exact .of_empty ⟨shut, rfl, rfl⟩ unplaced fun _ => free

theorem ends (h : ClaimsAgree full s) {i : Spout} {cause : EndCause}
    (still : ∀ l, loadOf s i = some l → l.state ≠ .discharging) : ClaimsAgree full (endLoad i cause false s) := by
  cases hl : loadOf s i with
  | none =>
    rw [endLoad_of_none cause false hl]
    exact h
  | some l =>
    refine h.at_spout (fun j hj => endLoad_others hj cause false s) (endLoad_agreesAt cause hl ?_ fun q hq hi => ?_)
      (h.once_of_sublist (endLoad_yields i cause false s).queue)
    · exact ((h.agrees i).covered.shut still).1
    · obtain ⟨⟨x, hx, waiting, -⟩, -⟩ := (h.agrees i).queued q hq hi
      rw [hl] at hx
      cases hx
      exact waiting

/-- The end of a judged tail: the load is TAILING, so its spout has no claim (R108, R133). -/
theorem tailEnds (h : ClaimsAgree full s) {i : Spout} {cause : EndCause} (judged : (gateOf s i).tail.isSome) :
    ClaimsAgree full (endLoad i cause true (clearTail i s)) := by
  obtain ⟨l, hl, tailing⟩ := (h.agrees i).tailing judged
  have before := (h.of_load hl).covered
  have still : ∀ y, some l = some y → y.state ≠ .waiting ∧ y.state ≠ .discharging := by
    rintro _ ⟨rfl⟩
    rw [tailing]
    exact ⟨nofun, nofun⟩
  obtain ⟨shut, ungranted⟩ := before.shut fun y hy => (still y hy).2
  have yields := endLoad_yields i cause true (clearTail i s)
  obtain ⟨slot, gates⟩ := endLoad_spouts cause true (s := clearTail i s) hl
  have load : loadOf (endLoad i cause true (clearTail i s)) i = none := by
    rw [loadOf, slot, PerSpout.get_set_same]
  have gate : gateOf (endLoad i cause true (clearTail i s)) i = { gateOf s i with tail := none, cutoff := none } := by
    rw [gateOf, gates]
    exact gateOf_setGate_same s i _
  refine h.at_spout (fun j hj => ((setGate_confined s i _).others j hj).trans (endLoad_others hj cause true _)) ?_
    (h.once_of_sublist yields.queue)
  unfold AgreesAt
  rw [load, gate]
  refine .of_empty ⟨shut, ungranted, rfl⟩ ((before.unplaced fun y hy => (still y hy).1).mono yields.queue) fun hf => ?_
  exact (yields.allocation i).elim (fun same => same.trans (before.free hf fun y hy => (still y hy).2)) id

/-- A gate fault ends the spout's load, if it has one, and leaves no claim (R106, R135). -/
theorem faults (h : ClaimsAgree full s) (i : Spout) (kind : FaultKind) : ClaimsAgree full (gateFaultEnds i kind s) := by
  have covered := (h.agrees i).covered
  let z := latchFault i kind (gateToFault i s)
  have latched := latchFault_dischargeStands i kind (gateToFault i s)
  obtain ⟨slots, gates⟩ := gateToFault_spouts i s
  have load : loadOf z i = loadOf s i := (latched.loadOf i).trans (congrArg (PerSpout.get · i) slots)
  have gate : gateOf z i = { gateOf s i with
      mode := .fault, command := 0, closeTimer := none, pendingGrant := none, flowSum := 0, flowCount := 0 } := by
    rw [latched.gateOf, gateOf, gates]
    exact PerSpout.get_set_same _ _ _
  have yields : s.dba.Yields z.dba := by
    rw [latched.dba, gateToFault_dba]
    exact faultReleased_yields i s
  refine h.at_spout (fun j hj => gateFaultEnds_others hj kind s) ?_
    (h.once_of_sublist (gateFaultEnds_yields i kind s).queue)
  cases hl : loadOf s i with
  | none =>
    have stays : gateFaultEnds i kind s = z := by
      rw [gateFaultEnds, noteLoadFault, show loadOf z i = none from load.trans hl]
      exact endLoad_of_none _ _ (load.trans hl)
    have vacant : ∀ {p : Load → Prop} x, loadOf s i = some x → p x := fun x hx => by rw [hl] at hx; cases hx
    have untailed : (gateOf s i).tail = none := ClaimCovered.untailed covered vacant
    have unplaced : Unplaced i s.dba.queue := ClaimCovered.unplaced covered vacant
    rw [stays]
    unfold AgreesAt
    rw [load, gate, hl]
    refine .of_empty ⟨rfl, rfl, untailed⟩ (unplaced.mono yields.queue) fun hf => ?_
    exact (yields.allocation i).elim (fun same => same.trans (ClaimCovered.free covered hf vacant)) id
  | some l =>
    have noted : noteLoadFault i (·.noteFault kind) z = Machine.setLoad z i (some (l.noteFault kind)) := by
      rw [noteLoadFault, load.trans hl]
    show AgreesAt full i (endLoad i .spoutFault false (noteLoadFault i (·.noteFault kind) z))
    rw [noted]
    refine endLoad_agreesAt _ (loadOf_setLoad_same z i _) (by rw [gateOf_setLoad, gate]; rfl) fun q hq hi => ?_
    obtain ⟨⟨x, hx, waiting, -⟩, -⟩ := covered.queued q (yields.queue.subset hq) hi
    rw [hl] at hx
    cases hx
    exact waiting

/-- A new load, ARMED, in an empty slot (R118, R119). -/
theorem fills (h : ClaimsAgree full s) {i : Spout} {x : Load} (empty : loadOf s i = none)
    (sound : (gateOf s i).mode ≠ .fault) (armed : x.state = .armed) :
    ClaimsAgree full (Machine.setLoad s i (some x)) := by
  have covered := (h.agrees i).covered
  rw [CoveredAt, empty] at covered
  have vacant : ∀ {p : Load → Prop} x, none = some x → p x := fun _ hx => nomatch hx
  refine h.at_spout (setLoad_confined s i _).others ?_ h.once
  unfold AgreesAt
  rw [loadOf_setLoad_same]
  refine ClaimCovered.agrees (.of_rests (covered.rests vacant) (covered.unplaced vacant)
    (fun hf => covered.free hf vacant) fun _ n => absurd n sound) fun y hy => ?_
  cases hy
  rw [armed]
  exact ⟨nofun, nofun⟩

theorem resets (slot : s.lm.slot = .all none) (gate : s.gate = .all .reset) (allocation : s.dba.allocation = .all none)
    (queue : s.dba.queue = []) : ClaimsAgree full s where
  agrees i := by
    have load : loadOf s i = none := by rw [loadOf, slot, PerSpout.get_all]
    have closed : gateOf s i = .reset := by rw [gateOf, gate, PerSpout.get_all]
    unfold AgreesAt
    rw [load, closed, allocation, PerSpout.get_all, queue]
    exact .of_empty ⟨rfl, rfl, rfl⟩ (fun _ hq => nomatch hq) fun _ => rfl
  once := by rw [queue]; exact List.nodup_nil

end ClaimsAgree

/-! ### Every step -/

/-- The claims agree, and with `full` the granted sum fits. -/
def ClaimsFit (full : Prop) (s : State) : Prop := ClaimsAgree full s ∧ (full → BudgetInv s)

theorem claimsFit_closed (full : Prop) : DischargeClosed (ClaimsFit full) where
  stands k h := ⟨h.1.congr k.slot k.gate (by rw [k.dba]) (by rw [k.dba]), fun hf => budgetInv_closed.stands k (h.2 hf)⟩
  load hl state number rate h :=
    ⟨h.1.setLoad hl state number rate, fun hf => budgetInv_closed.load hl state number rate (h.2 hf)⟩
  gate {s i g} mode command pending tail h :=
    ⟨h.1.setGate ((h.1.agrees i).gate (by rw [mode]) (fun n => .inl (mode.trans n)) (fun n => mode ▸ n) pending tail),
      fun hf => budgetInv_closed.gate mode command pending tail (h.2 hf)⟩
  hold cs i h := ⟨h.1.hold cs i, fun hf => budgetInv_closed.hold cs i (h.2 hf)⟩
  lift c i h := ⟨h.1.lift c i, fun hf => budgetInv_closed.lift c i (h.2 hf)⟩
  asks hl rested h := ⟨h.1.asks hl rested, fun hf => budgetInv_closed.asks hl rested (h.2 hf)⟩
  grants queue fits h := ⟨h.1.grant queue, fun hf => budgetInv_closed.grants queue fits (h.2 hf)⟩
  supply aerationLow starved h :=
    ⟨h.1.supply h.2 aerationLow starved, fun hf => budgetInv_closed.supply aerationLow starved (h.2 hf)⟩
  rebudgets {s w} free h :=
    ⟨(h.1.congr (t := setWorking s w)).recomputeBudget, fun hf => budgetInv_closed.rebudgets free (h.2 hf)⟩
  steps i h := ⟨h.1.steps i, fun hf => budgetInv_closed.steps i (h.2 hf)⟩
  dribbles i l h := ⟨h.1.dribbles i l, fun hf => budgetInv_closed.dribbles i l (h.2 hf)⟩
  feedback i m h := ⟨h.1.feedback i m, fun hf => budgetInv_closed.feedback i m (h.2 hf)⟩
  cuts hl opened tailing h := ⟨h.1.cuts opened tailing, fun hf => budgetInv_closed.cuts hl opened tailing (h.2 hf)⟩
  finishes hl discharging tailing h :=
    ⟨h.1.finishes hl discharging tailing, fun hf => budgetInv_closed.finishes hl discharging tailing (h.2 hf)⟩
  ends still h := ⟨h.1.ends still, fun hf => budgetInv_closed.ends still (h.2 hf)⟩
  tailEnds judged h := ⟨h.1.tailEnds judged, fun hf => budgetInv_closed.tailEnds judged (h.2 hf)⟩
  faults i kind h := ⟨h.1.faults i kind, fun hf => budgetInv_closed.faults i kind (h.2 hf)⟩
  unfaults i h := ⟨h.1.unfaults i, fun hf => budgetInv_closed.unfaults i (h.2 hf)⟩
  fills empty sound armed h := ⟨h.1.fills empty sound armed, fun hf => budgetInv_closed.fills empty sound armed (h.2 hf)⟩
  resets slot gate command allocation queue budget :=
    ⟨.resets slot gate allocation queue, fun _ => budgetInv_closed.resets slot gate command allocation queue budget⟩

/-! ### The two invariants -/

/-- Without the claims of O7: the agreement that O6 starts from. -/
theorem claimsAgree_of_queueInv {s : State} (gate : GateInv s) (queue : QueueInv s) : ClaimsAgree False s where
  agrees i :=
    { pendingCloses := gate.pendingCloses i
      opened := gate.opened i
      tailing := gate.tailing i
      queued := by
        rintro q hq rfl
        exact ⟨queue.waiting q hq, queue.noClaim q hq⟩
      granted := nofun
      faulted := nofun
      allocated := nofun
      asked := nofun }
  once := queue.once

theorem GrantsAgree.claimsAgree {s : State} (h : GrantsAgree s) : ClaimsAgree True s := by
  obtain ⟨gate, queue, -, claim⟩ := h
  exact
    { agrees := fun i =>
        { ((claimsAgree_of_queueInv gate queue).agrees i) with
          granted := fun _ => (claim.granted i).mp
          faulted := fun _ => claim.faulted i
          allocated := fun _ => (claim.granted i).mpr
          asked := fun _ => claim.asked i }
      once := queue.once }

theorem GrantsAgree.claimsFit {s : State} (h : GrantsAgree s) : ClaimsFit True s := ⟨h.claimsAgree, fun _ => h.2.2.1⟩

/-- Settles O6: a place is taken only as a load enters WAITING, and goes with the grant, the hold or the end that takes the
load out of it. -/
theorem queueInvKept : Obligations.QueueInvKept := by
  intro s t gate queue run
  obtain ⟨claims, -⟩ := (claimsFit_closed False).step run ⟨claimsAgree_of_queueInv gate queue, nofun⟩
  exact
    { once := claims.once
      waiting := fun q hq => ((claims.agrees q.spout).queued q hq rfl).1
      noClaim := fun q hq => ((claims.agrees q.spout).queued q hq rfl).2 }

/-- Settles O7: a grant gives an allocation to the gate that opens under it or waits for its close, and whatever shuts that
gate gives the allocation up. -/
theorem claimInvKept : Obligations.ClaimInvKept := by
  intro s t agree run
  obtain ⟨claims, -⟩ := (claimsFit_closed True).step run agree.claimsFit
  exact
    { granted := fun i => ⟨(claims.agrees i).granted trivial, (claims.agrees i).allocated trivial⟩
      faulted := fun i => (claims.agrees i).faulted trivial
      asked := fun i => (claims.agrees i).asked trivial }

end Sys2Proof.Machine
end

section
/-! A supply condition that begins or ends, at the DBA and at the LM (O28, O37): the revocation, the holds that leave each
load HELD with its cause and each open gate closed, and the lifts (R74, R82, R122, R124, R125). -/

namespace Sys2Proof.Machine

/-! ### The DBA's part -/

/-- The DBA under new conditions, with the effective budget they give, before it reports (R74). -/
def supplied (aerationLow starved : Bool) (s : State) : State :=
  s.withDba { s.dba with
    aerationLow := aerationLow, starved := starved,
    effectiveBudget := effectiveBudget (working s) aerationLow starved }

/-- The load of a spout that a revocation names is held (R82). -/
def heldIfNamed (named : PerSpout Bool) (cs : List Cause) (i : Spout) (s : State) : State :=
  if named.get i then lmHold cs i s else s

theorem revoke_eq (s : State) : revoke s =
    eachSpout (heldIfNamed (.of (holdsClaim s.dba)) (supplyCauses s.dba)) (s.withDba s.dba.revoked) := rfl

theorem revoke_runsOn (s : State) : RunsOn [] s (revoke s) := by
  have emptied : RunsOn [] s (s.withDba s.dba.revoked) := withDba_runsOn rfl
  rw [revoke_eq]
  refine emptied.trans (eachSpout_runsOn fun i t => ?_)
  unfold heldIfNamed
  split
  · exact lmHold_runsOn _ i t (.inr (supplyCauses_not_latching _))
  · exact .refl _ _

theorem dbaSupply_runsOn (aerationLow starved : Bool) (s : State) :
    RunsOn [] (supplied aerationLow starved s) (dbaSupply aerationLow starved s) := by
  have told := recomputeBudget_runsOn (s.withDba { s.dba with aerationLow := aerationLow, starved := starved })
  unfold dbaSupply
  dsimp only
  split
  · exact told.trans (revoke_runsOn _)
  · exact told

/-- While a condition is present the effective budget is 0, and the DBA revokes if it was not (R74, R82). -/
theorem dbaSupply_of_condition {aerationLow starved : Bool} (present : aerationLow = true ∨ starved = true) (s : State) :
    dbaSupply aerationLow starved s =
      if 0 < s.dba.effectiveBudget then revoke (supplied aerationLow starved s) else supplied aerationLow starved s := by
  have none_left : ∀ w, effectiveBudget w aerationLow starved = 0 := fun w => by rw [effectiveBudget_eq, if_pos present]
  have told : recomputeBudget (s.withDba { s.dba with aerationLow := aerationLow, starved := starved }) =
      supplied aerationLow starved s := if_neg (by rw [State.withDba_dba, none_left]; exact Nat.not_lt_zero _)
  have effective : (supplied aerationLow starved s).dba.effectiveBudget = 0 := none_left _
  simp only [dbaSupply, told, effective, and_true]

/-- A revocation leaves no claim (R82). -/
theorem noClaim_revoke (s : State) (i : Spout) : noClaim i (revoke s) := by
  have yields := revoke_yields s
  have free : s.dba.revoked.allocation.get i = none := PerSpout.get_all _ i
  refine ⟨(yields.allocation i).elim (fun same => same.trans free) id, fun q hq => ?_⟩
  exact nomatch yields.queue.subset hq

/-- What takes no allocation and no place leaves a spout without a claim. -/
theorem noClaim_of_yields {i : Spout} {s t : State} (h : noClaim i s) (k : s.dba.Yields t.dba) : noClaim i t :=
  ⟨(k.allocation i).elim (fun same => same.trans h.1) id, fun q hq => h.2 q (k.queue.subset hq)⟩

/-- The LM's holds leave a spout without a claim so (R122). -/
theorem noClaim_eachHold {i : Spout} {s : State} (h : noClaim i s) (cs : List Cause) (x : Lm) :
    noClaim i (eachSpout (lmHold cs) (s.withLm x)) :=
  noClaim_of_yields (s := s.withLm x) h (eachSpout_yields (lmHold_yields cs) _)

theorem aeration_mem_supplyCauses (d : Dba) : Cause.aeration ∈ supplyCauses d ↔ d.aerationLow = true := by
  cases ha : d.aerationLow <;> cases hs : d.starved <;> simp [supplyCauses, ha, hs]

theorem starve_mem_supplyCauses (d : Dba) : Cause.starve ∈ supplyCauses d ↔ d.starved = true := by
  cases ha : d.aerationLow <;> cases hs : d.starved <;> simp [supplyCauses, ha, hs]

/-! ### The LM's part -/

theorem lmAeration_runsOn (low : Bool) (s : State) :
    RunsOn [] (s.withLm { s.lm with aerationLow := low }) (lmAeration low s) := by
  have unlatched : ¬ latching .aeration := by simp [latching]
  unfold lmAeration
  dsimp only
  split
  · exact eachSpout_runsOn fun i t => lmHold_runsOn _ i t (.inr (by simpa using unlatched))
  · exact eachSpout_runsOn fun i t => lmLift_runsOn _ i t (.inr unlatched)

theorem lmStarve_runsOn (on : Bool) (s : State) :
    RunsOn [] (s.withLm { s.lm with starved := on }) (lmStarve on s) := by
  have unlatched : ¬ latching .starve := by simp [latching]
  unfold lmStarve
  dsimp only
  split
  · exact eachSpout_runsOn fun i t => lmHold_runsOn _ i t (.inr (by simpa using unlatched))
  · exact eachSpout_runsOn fun i t => lmLift_runsOn _ i t (.inr unlatched)

/-- Reports run on beside the LM's records of the supply conditions. -/
theorem RunsOn.lmAerationLow {acts : List Spout} {s t : State} (h : RunsOn acts s t) (low : Bool) :
    RunsOn acts (s.withLm { s.lm with aerationLow := low }) (t.withLm { t.lm with aerationLow := low }) :=
  { h with lm := congrArg (fun x : Lm => { x with aerationLow := low }) h.lm }

theorem RunsOn.lmStarved {acts : List Spout} {s t : State} (h : RunsOn acts s t) (on : Bool) :
    RunsOn acts (s.withLm { s.lm with starved := on }) (t.withLm { t.lm with starved := on }) :=
  { h with lm := congrArg (fun x : Lm => { x with starved := on }) h.lm }

theorem reportAeration_runsOn (s : State) :
    RunsOn [] ((supplied (!s.bsc.aerationHigh) s.dba.starved s).withLm { s.lm with aerationLow := !s.bsc.aerationHigh })
      (reportAeration s) :=
  ((dbaSupply_runsOn _ _ s).lmAerationLow _).trans (lmAeration_runsOn _ _)

theorem reportStarve_runsOn (s : State) :
    RunsOn [] ((supplied s.dba.aerationLow s.bsc.starved s).withLm { s.lm with starved := s.bsc.starved })
      (reportStarve s) :=
  ((dbaSupply_runsOn _ _ s).lmStarved _).trans (lmStarve_runsOn _ _)

/-- What an event taken for every spout brings about at one of them, where the others' parts neither forestall nor undo
it. -/
theorem eachSpout_establishes {P Q : State → Prop} {f : Spout → State → State} (i : Spout)
    (before : ∀ j s, P s → P (f j s)) (own : ∀ s, P s → Q (f i s)) (after : ∀ j s, Q s → Q (f j s)) {s : State}
    (h : P s) : Q (eachSpout f s) := by
  cases i with
  | A => exact after .C _ (after .B _ (own _ h))
  | B => exact after .C _ (own _ (before .A _ h))
  | C => exact own _ (before .B _ (before .A _ h))

/-! ### The valve under a departure from DRIBBLE -/

/-- The valve as an opening leaves it (R159). -/
def ValveOpened (s : State) : Prop :=
  s.bsc.state = .opened ∧ s.bsc.deferralTimer = none ∧ s.bsc.refillTimer = some 0 ∧ s.sli.refillCommand = true ∧
    s.bmu.refillMark = true

/-- A refill that only spout `i` kept deferred when the event began is still so, or the valve has opened. -/
def DeferredFor (i : Spout) (s t : State) : Prop :=
  s.bsc.state = .deferred → (∀ j, j ≠ i → s.bsc.dribbleSet.get j = false) →
    t.bsc.state = .deferred ∧ (∀ j, j ≠ i → t.bsc.dribbleSet.get j = false) ∨ ValveOpened t

/-- No spout enters the dribble set. -/
def MarksFall (s t : State) : Prop := ∀ j, s.bsc.dribbleSet.get j = false → t.bsc.dribbleSet.get j = false

section
variable {acts : List Spout} {i : Spout} {s t u : State}

theorem ValveOpened.runsOn (h : ValveOpened s) (k : RunsOn acts s t) : ValveOpened t := by
  obtain ⟨state, deferral, timer, command, mark⟩ := h
  obtain ⟨s1, s2, s3, s4, s5⟩ := k.valve_opened state
  exact ⟨s1.trans state, s2.trans deferral, s3.trans timer, s4.trans command, s5.trans mark⟩

theorem DeferredFor.runsOn (h : DeferredFor i s t) (k : RunsOn acts t u) (marks : MarksFall t u) :
    DeferredFor i s u := by
  intro deferred others
  rcases h deferred others with ⟨waits, alone⟩ | opened
  · rcases k.valve with ⟨-, -, -, -, -, state, -, -⟩ | ⟨-, state, command, mark, -, deferral, timer⟩
    · exact .inl ⟨state.trans waits, fun j hj => marks j (alone j hj)⟩
    · exact .inr ⟨state, deferral, timer, command, mark⟩
  · exact .inr (opened.runsOn k)

theorem LeavesDribble.runsOn (h : LeavesDribble i s t) (k : RunsOn acts t u)
    (mark : t.bsc.dribbleSet.get i = false → u.bsc.dribbleSet.get i = false) : LeavesDribble i s u := by
  intro dribbling
  obtain ⟨left, opens⟩ := h dribbling
  exact ⟨mark left, fun deferred others => ValveOpened.runsOn (opens deferred others) k⟩

end

/-- A plain close takes no spout but its own out of the dribble set, and puts none in. -/
theorem plainClose_marksFall (i : Spout) (s : State) : MarksFall s (plainClose i s) := by
  intro j left
  by_cases hj : j = i
  · subst hj
    unfold plainClose
    split
    · unfold gateToClosing leftDribble
      dsimp only
      split
      · exact (dribbleLeft_leaves j _).1
      · exact left
    · split
      · unfold dropPending
        split <;> exact left
      · exact left
  · exact ((plainClose_confined i s).others j hj).dribble.trans left

theorem lmHold_marksFall (cs : List Cause) (i : Spout) (s : State) : MarksFall s (lmHold cs i s) := by
  have closed : ∀ l, MarksFall s (plainClose i (setLoad s i l)) := fun l => plainClose_marksFall i (setLoad s i l)
  unfold lmHold
  split
  · exact fun _ => id
  · split
    · exact fun _ => id
    · dsimp only
      split
      · exact fun _ => id
      · exact closed _
      · exact fun _ => id
      · exact fun _ => id

/-- A plain close of a gate in DRIBBLE is its departure (R156, R159). -/
theorem plainClose_leavesDribble {i : Spout} {s t : State} (gate : gateOf t i = gateOf s i) (valve : DeferredFor i s t) :
    LeavesDribble i s (plainClose i t) := by
  intro dribbling
  have mode : (gateOf t i).mode = .dribble := by rw [gate, dribbling]
  have open_ : (gateOf t i).mode.discharging = true := by rw [mode]; rfl
  have departs : ∃ w, plainClose i t = dribbleLeft i w ∧ w.bsc = t.bsc ∧ w.sli.refillCommand = t.sli.refillCommand ∧
      w.bmu = t.bmu := by
    rw [plainClose, if_pos open_, gateToClosing, leftDribble]
    dsimp only
    rw [if_pos mode]
    exact ⟨_, rfl, rfl, rfl, rfl⟩
  obtain ⟨w, closes, bsc, command, bmu⟩ := departs
  obtain ⟨left, opens⟩ := dribbleLeft_leaves i w
  rw [closes]
  refine ⟨left, fun deferred others => ?_⟩
  rcases valve deferred others with ⟨waits, alone⟩ | opened
  · exact opens (bsc ▸ waits) (bsc ▸ alone)
  · have before : ValveOpened w := by
      unfold ValveOpened
      rw [bsc, command, bmu]
      exact opened
    exact before.runsOn (dribbleLeft_runsOn [] w i)

/-! ### The holds of an event -/

/-- Spout `i`, whose load is `l`, as the holds of the event have left it so far: as it was. -/
structure Unheld (i : Spout) (l : Load) (s t : State) : Prop where
  load : loadOf t i = some l
  gate : gateOf t i = gateOf s i
  command : t.sli.gateCommand.get i = s.sli.gateCommand.get i
  valve : DeferredFor i s t

/-- Or HELD, and the gate of a DISCHARGING load has its plain close (R102, R122). -/
structure HeldFrom (i : Spout) (l : Load) (s t : State) : Prop where
  records : recordsHolds l.state
  load : ∃ x, loadOf t i = some x ∧ x = { l with state := .held, causes := x.causes }
  closed : l.state = .discharging → gateOf t i = closedGate (gateOf s i) ∧
    ((gateOf s i).mode.discharging = true → t.sli.gateCommand.get i = 0) ∧ LeavesDribble i s t

/-- One of the two. -/
def HoldsOn (i : Spout) (l : Load) (s t : State) : Prop := Unheld i l s t ∨ HeldFrom i l s t

section
variable {i : Spout} {l : Load} {s t u : State}

/-- The event has changed no more than the DBA. -/
theorem HoldsOn.begins (hl : loadOf s i = some l) (d : Dba) : HoldsOn i l s (s.withDba d) :=
  .inl ⟨hl, rfl, rfl, fun deferred others => .inl ⟨deferred, others⟩⟩

/-- What acts elsewhere and lets no spout into the dribble set. -/
theorem Unheld.elsewhere {acts : List Spout} (h : Unheld i l s t) (same : SameAt i t u) (k : RunsOn acts t u)
    (marks : MarksFall t u) : Unheld i l s u :=
  ⟨same.load.trans h.load, same.gate.trans h.gate, same.command.trans h.command, h.valve.runsOn k marks⟩

theorem HeldFrom.elsewhere {acts : List Spout} (h : HeldFrom i l s t) (same : SameAt i t u) (k : RunsOn acts t u)
    (marks : MarksFall t u) : HeldFrom i l s u := by
  refine ⟨h.records, by rw [same.load]; exact h.load, fun discharging => ?_⟩
  obtain ⟨gate, command, leaves⟩ := h.closed discharging
  exact ⟨same.gate.trans gate, fun n => same.command.trans (command n), leaves.runsOn k (marks i)⟩

theorem Unheld.held (h : Unheld i l s t) (records : recordsHolds l.state) {cs : List Cause} (hcs : cs ≠ []) :
    HeldFrom i l s (lmHold cs i t) := by
  obtain ⟨closes, -⟩ := gateOf_lmHold hcs i t
  refine ⟨records, ⟨l.heldBy cs, by rw [loadOf_lmHold hcs, h.load, Option.map_some], ?_⟩, fun discharging => ?_⟩
  · rw [Load.heldBy, if_pos ((recordsHolds_iff _).mp records)]
  · obtain ⟨gate, command⟩ := closes l h.load discharging
    rw [h.gate] at gate command
    refine ⟨gate, command, ?_⟩
    rw [lmHold_of_discharging h.load discharging hcs]
    exact plainClose_leavesDribble (t := setLoad t i (some { l with state := .held, causes := l.causes.add cs }))
      h.gate h.valve

theorem lmHold_of_unrecorded (hl : loadOf t i = some l) (unrecorded : ¬ recordsHolds l.state) (cs : List Cause) :
    lmHold cs i t = t := by
  unfold lmHold
  split
  · rfl
  · cases hs : l.state with
    | armed => simp only [hl, hs]
    | tailing => simp only [hl, hs]
    | waiting => exact absurd (.inl hs) unrecorded
    | discharging => exact absurd (.inr (.inl hs)) unrecorded
    | held => exact absurd (.inr (.inr hs)) unrecorded

theorem heldBy_of_held {x : Load} (held : x.state = .held) (cs : List Cause) :
    x.heldBy cs = { x with causes := x.causes.add cs } := by
  cases x
  cases held
  rfl

theorem HeldFrom.again (h : HeldFrom i l s t) {cs : List Cause} (hcs : cs ≠ []) : HeldFrom i l s (lmHold cs i t) := by
  obtain ⟨x, hx, same⟩ := h.load
  have held : x.state = .held := by rw [same]
  obtain ⟨-, leaves⟩ := gateOf_lmHold hcs i t
  obtain ⟨gate, command⟩ := leaves fun y hy => by rw [hx] at hy; cases hy; rw [held]; exact nofun
  have load : loadOf (Machine.lmHold cs i t) i = some { x with causes := x.causes.add cs } := by
    rw [loadOf_lmHold hcs, hx, Option.map_some, heldBy_of_held held]
  refine ⟨h.records, ⟨_, load, by rw [same]⟩, fun discharging => ?_⟩
  · obtain ⟨closed, shut, leaves⟩ := h.closed discharging
    exact ⟨gate.trans closed, fun n => command.trans (shut n),
      leaves.runsOn (lmHold_runsOn (acts := [i]) cs i t (.inl List.mem_cons_self)) (lmHold_marksFall cs i t i)⟩

theorem HeldFrom.lmHold (h : HeldFrom i l s t) (cs : List Cause) (j : Spout) : HeldFrom i l s (lmHold cs j t) := by
  by_cases hcs : cs = []
  · rw [Machine.lmHold, if_pos hcs]
    exact h
  · by_cases hj : j = i
    · subst hj
      exact h.again hcs
    · exact h.elsewhere ((lmHold_confined cs j t).others i (Ne.symm hj))
        (lmHold_runsOn (acts := [j]) cs j t (.inl List.mem_cons_self)) (lmHold_marksFall cs j t)

theorem HoldsOn.lmHold (h : HoldsOn i l s t) (cs : List Cause) (j : Spout) : HoldsOn i l s (lmHold cs j t) := by
  rcases h with unheld | held
  · by_cases hcs : cs = []
    · rw [Machine.lmHold, if_pos hcs]
      exact .inl unheld
    · by_cases hj : j = i
      · subst hj
        by_cases records : recordsHolds l.state
        · exact .inr (unheld.held records hcs)
        · rw [lmHold_of_unrecorded unheld.load records]
          exact .inl unheld
      · exact .inl (unheld.elsewhere ((lmHold_confined cs j t).others i (Ne.symm hj))
          (lmHold_runsOn (acts := [j]) cs j t (.inl List.mem_cons_self)) (lmHold_marksFall cs j t))
  · exact .inr (held.lmHold cs j)

theorem HoldsOn.eachHold (h : HoldsOn i l s t) (cs : List Cause) : HoldsOn i l s (eachSpout (Machine.lmHold cs) t) :=
  eachSpout_preserves (P := HoldsOn i l s) (fun j _ hu => hu.lmHold cs j) h

/-- A condition that begins: the revocation's holds (R82). -/
theorem HoldsOn.dbaSupply {aerationLow starved : Bool} (hl : loadOf s i = some l)
    (present : aerationLow = true ∨ starved = true) : HoldsOn i l s (dbaSupply aerationLow starved s) := by
  rw [dbaSupply_of_condition present]
  split
  · rw [revoke_eq]
    refine eachSpout_preserves (P := HoldsOn i l s) (fun j u hu => ?_) (.begins hl _)
    unfold heldIfNamed
    split
    · exact hu.lmHold _ j
    · exact hu
  · exact .begins hl _

theorem HoldsOn.load (h : HoldsOn i l s t) : ∃ x, loadOf t i = some x ∧ (recordsHolds l.state → recordsHolds x.state) := by
  rcases h with unheld | held
  · exact ⟨l, unheld.load, id⟩
  · obtain ⟨x, hx, same⟩ := held.load
    exact ⟨x, hx, fun _ => by rw [same]; exact .inr (.inr rfl)⟩

/-- A cause that a hold adds, or finds, stands in the load's set after it. -/
theorem heldBy_has {l : Load} {cs : List Cause} {c : Cause} (h : l.causes.has c = true ∨ l.state.records = true ∧ c ∈ cs) :
    (l.heldBy cs).causes.has c = true := by
  unfold Load.heldBy
  split
  · rw [Causes.add_has]
    rcases h with stood | ⟨-, added⟩
    · simp [stood]
    · simp [added]
  · next unrecorded => exact h.resolve_right fun n => unrecorded n.1

/-- After the LM's own holds a load that records them is HELD with the cause (R122, R124). -/
theorem HoldsOn.held (h : HoldsOn i l s t) (records : recordsHolds l.state) (c : Cause) :
    HeldFrom i l s (eachSpout (Machine.lmHold [c]) t) ∧
      ∃ x, loadOf (eachSpout (Machine.lmHold [c]) t) i = some x ∧ x.causes.has c = true := by
  have hcs : [c] ≠ [] := List.cons_ne_nil c []
  refine eachSpout_establishes (P := HoldsOn i l s)
    (Q := fun u => HeldFrom i l s u ∧ ∃ x, loadOf u i = some x ∧ x.causes.has c = true) i
    (fun j u hu => hu.lmHold [c] j) ?own ?after h
  case own =>
    intro u hu
    obtain ⟨x, hx, recorded⟩ := hu.load
    refine ⟨hu.elim (·.held records hcs) (·.again hcs), x.heldBy [c], by rw [loadOf_lmHold hcs, hx, Option.map_some], ?_⟩
    exact heldBy_has (.inr ⟨(recordsHolds_iff _).mp (recorded records), List.mem_cons_self⟩)
  case after =>
    rintro j u ⟨held, x, hx, stood⟩
    refine ⟨held.lmHold [c] j, ?_⟩
    by_cases hj : j = i
    · subst hj
      exact ⟨x.heldBy [c], by rw [loadOf_lmHold hcs, hx, Option.map_some], heldBy_has (.inl stood)⟩
    · exact ⟨x, (((lmHold_confined [c] j u).others i (Ne.symm hj)).load).trans hx, stood⟩

end

/-! ### The lifts of an event -/

/-- The load of spout `i` does not have the cause. -/
def Without (c : Cause) (i : Spout) (s : State) : Prop := ∃ x, loadOf s i = some x ∧ x.causes.has c = false

/-- Nor has it the cause unless it is HELD, so that a lift can take it. -/
def HeldOrWithout (c : Cause) (i : Spout) (s : State) : Prop :=
  ∃ x, loadOf s i = some x ∧ (x.state = .held ∨ x.causes.has c = false)

section
variable {c d : Cause} {i : Spout} {s t : State}

theorem Without.of_sameAt (h : Without c i s) (k : SameAt i s t) : Without c i t := by
  obtain ⟨x, hx, free⟩ := h
  exact ⟨x, k.load.trans hx, free⟩

theorem HeldOrWithout.of_sameAt (h : HeldOrWithout c i s) (k : SameAt i s t) : HeldOrWithout c i t := by
  obtain ⟨x, hx, liftable⟩ := h
  exact ⟨x, k.load.trans hx, liftable⟩

theorem Without.lmHold (h : Without c i s) {cs : List Cause} (hc : c ∉ cs) (j : Spout) : Without c i (lmHold cs j s) := by
  by_cases hj : j = i
  · subst hj
    by_cases hcs : cs = []
    · rw [Machine.lmHold, if_pos hcs]
      exact h
    · obtain ⟨x, hx, free⟩ := h
      exact ⟨x.heldBy cs, by rw [loadOf_lmHold hcs, hx, Option.map_some], (heldBy_causes_has cs x c hc).trans free⟩
  · exact h.of_sameAt ((lmHold_confined cs j s).others i (Ne.symm hj))

theorem HeldOrWithout.lmHold (h : HeldOrWithout c i s) (cs : List Cause) (j : Spout) :
    HeldOrWithout c i (lmHold cs j s) := by
  by_cases hj : j = i
  · subst hj
    by_cases hcs : cs = []
    · rw [Machine.lmHold, if_pos hcs]
      exact h
    · obtain ⟨x, hx, liftable⟩ := h
      refine ⟨x.heldBy cs, by rw [loadOf_lmHold hcs, hx, Option.map_some], ?_⟩
      unfold Load.heldBy
      split
      · exact .inl rfl
      · exact liftable
  · exact h.of_sameAt ((lmHold_confined cs j s).others i (Ne.symm hj))

/-- A load that asks without a cause has none but supply conditions after it (R76). -/
theorem Without.dbaRequest (h : Without c i s) (unsupplied : c ∉ supplyCauses s.dba) (j : Spout) (l : Load) :
    Without c i (dbaRequest j l s) := by
  unfold Machine.dbaRequest
  split
  · exact h
  · split
    · exact h.lmHold unsupplied j
    · exact h

theorem HeldOrWithout.dbaRequest (h : HeldOrWithout c i s) (j : Spout) (l : Load) : HeldOrWithout c i (dbaRequest j l s) := by
  unfold Machine.dbaRequest
  split
  · exact h
  · split
    · exact h.lmHold _ j
    · exact h

/-- A lift that acts leaves the cause out, and a load with no cause left asks (R125). -/
theorem lmLift_of_has {x : Load} (hx : loadOf s i = some x) (held : x.state = .held) (has : x.causes.has d = true) :
    lmLift d i s = if x.causes.put d false = .none
      then dbaRequest i { x with state := .waiting, causes := .none }
        (setLoad s i (some { x with state := .waiting, causes := .none }))
      else setLoad s i (some { x with causes := x.causes.put d false }) := by
  simp only [lmLift, hx, if_pos (And.intro held has)]
  split
  · next clear => simp only [enterWaiting, loadOf_setLoad_same, setLoad_setLoad, clear]
  · rfl

theorem lmLift_of_stays {x : Load} (hx : loadOf s i = some x) (stays : ¬ (x.state = .held ∧ x.causes.has d = true)) :
    lmLift d i s = s := by
  simp only [lmLift, hx, if_neg stays]

theorem Causes.has_none (c : Cause) : Causes.none.has c = false := by cases c <;> rfl

/-- A cause that a load does not have is not brought back by the lift of any (R125). -/
theorem Without.lmLift (h : Without c i s) (unsupplied : c ∉ supplyCauses s.dba) (d : Cause) (j : Spout) :
    Without c i (lmLift d j s) := by
  by_cases hj : j = i
  · subst hj
    obtain ⟨x, hx, free⟩ := h
    by_cases lifts : x.state = .held ∧ x.causes.has d = true
    · rw [lmLift_of_has hx lifts.1 lifts.2]
      split
      · exact Without.dbaRequest ⟨_, loadOf_setLoad_same _ _ _, Causes.has_none c⟩ unsupplied _ _
      · refine ⟨_, loadOf_setLoad_same _ _ _, ?_⟩
        by_cases hc : c = d
        · rw [hc, Causes.has_put_same]
        · rw [Causes.has_put_other _ _ hc, free]
    · rw [lmLift_of_stays hx lifts]
      exact ⟨x, hx, free⟩
  · exact h.of_sameAt ((lmLift_confined d j s).others i (Ne.symm hj))

theorem HeldOrWithout.lmLift (h : HeldOrWithout c i s) (d : Cause) (j : Spout) : HeldOrWithout c i (lmLift d j s) := by
  by_cases hj : j = i
  · subst hj
    obtain ⟨x, hx, liftable⟩ := h
    by_cases lifts : x.state = .held ∧ x.causes.has d = true
    · rw [lmLift_of_has hx lifts.1 lifts.2]
      split
      · exact HeldOrWithout.dbaRequest ⟨_, loadOf_setLoad_same _ _ _, .inr (Causes.has_none c)⟩ _ _
      · exact ⟨_, loadOf_setLoad_same _ _ _, .inl lifts.1⟩
    · rw [lmLift_of_stays hx lifts]
      exact ⟨x, hx, liftable⟩
  · exact h.of_sameAt ((lmLift_confined d j s).others i (Ne.symm hj))

/-- The lift of the cause itself. -/
theorem HeldOrWithout.lifted (h : HeldOrWithout c i s) (unsupplied : c ∉ supplyCauses s.dba) :
    Without c i (Machine.lmLift c i s) := by
  obtain ⟨x, hx, liftable⟩ := h
  by_cases lifts : x.state = .held ∧ x.causes.has c = true
  · rw [lmLift_of_has hx lifts.1 lifts.2]
    split
    · exact Without.dbaRequest ⟨_, loadOf_setLoad_same _ _ _, Causes.has_none c⟩ unsupplied _ _
    · exact ⟨_, loadOf_setLoad_same _ _ _, Causes.has_put_same _ _ _⟩
  · rw [lmLift_of_stays hx lifts]
    exact ⟨x, hx, liftable.elim (fun held => Bool.not_eq_true _ ▸ fun has => lifts ⟨held, has⟩) id⟩

/-- What leaves the DBA's conditions leaves the causes that a request can find. -/
theorem Dba.Releases.supplyCauses {d e : Dba} (h : d.Releases e) : supplyCauses e = supplyCauses d := by
  rw [h.conditions]
  rfl

theorem HeldOrWithout.recomputeBudget (h : HeldOrWithout c i s) : HeldOrWithout c i (recomputeBudget s) := by
  have lifts : ∀ d {t}, HeldOrWithout c i t → HeldOrWithout c i (eachSpout (Machine.lmLift d) t) :=
    fun d {_} ht => eachSpout_preserves (P := HeldOrWithout c i) (fun j _ hu => hu.lmLift d j) ht
  have set : ∀ b, HeldOrWithout c i (budgetSet b s) := fun _ => h
  unfold Machine.recomputeBudget lmBudgetRise
  dsimp only
  split
  · split <;> split
    · exact set _
    · exact lifts _ (set _)
    · exact lifts _ (set _)
    · exact lifts _ (lifts _ (set _))
  · exact set _

theorem HeldOrWithout.dbaSupply (h : HeldOrWithout c i s) (aerationLow starved : Bool) :
    HeldOrWithout c i (dbaSupply aerationLow starved s) := by
  have told : HeldOrWithout c i
      (Machine.recomputeBudget (s.withDba { s.dba with aerationLow := aerationLow, starved := starved })) :=
    HeldOrWithout.recomputeBudget h
  unfold Machine.dbaSupply
  dsimp only
  split
  · rw [revoke_eq]
    refine eachSpout_preserves (P := HeldOrWithout c i) (fun j u hu => ?_) told
    unfold heldIfNamed
    split
    · exact hu.lmHold _ j
    · exact hu
  · exact told

/-- The lifts of a condition that has ended at the DBA (R125). -/
theorem HeldOrWithout.eachLift (h : HeldOrWithout c i s) (unsupplied : c ∉ supplyCauses s.dba) {x : Lm}
    (slot : x.slot = s.lm.slot) : Without c i (eachSpout (Machine.lmLift c) (s.withLm x)) ∧
      c ∉ supplyCauses (eachSpout (Machine.lmLift c) (s.withLm x)).dba := by
  have recorded : HeldOrWithout c i (s.withLm x) := by
    have same : loadOf (s.withLm x) i = loadOf s i := congrArg (PerSpout.get · i) slot
    rw [HeldOrWithout, same]
    exact h
  have conditions : ∀ {j t}, c ∉ supplyCauses t.dba → c ∉ supplyCauses (Machine.lmLift c j t).dba := by
    intro j t ht
    rwa [(lmLift_releases c j t).supplyCauses]
  exact eachSpout_establishes (P := fun t => HeldOrWithout c i t ∧ c ∉ supplyCauses t.dba)
    (Q := fun t => Without c i t ∧ c ∉ supplyCauses t.dba) i
    (fun j _ ht => ⟨ht.1.lmLift c j, conditions ht.2⟩) (fun _ ht => ⟨ht.1.lifted ht.2, conditions ht.2⟩)
    (fun j _ ht => ⟨ht.1.lmLift ht.2 c j, conditions ht.2⟩) ⟨recorded, unsupplied⟩

end

end Sys2Proof.Machine
end

section
/-! The BSC's window close (O28): the refill tests by state, and the reports that starvation starts and ends. -/

namespace Sys2Proof.Machine

/-! ### The refill tests -/

section
variable {s : State} (w : Params) (level : Int)

theorem refillTests_of_idle (h : s.bsc.state = .idle) : refillTests w level s =
    if level < (w.lLow : Int) then
      if s.bsc.dribbleSet ≠ .all false ∧ 0 < w.refillDeferMaxS ∧ (w.lEmpty : Int) ≤ level
      then s.withBsc { s.bsc with state := .deferred, deferralTimer := some 0 } else openValve s
    else s := by
  simp only [refillTests, h]

theorem refillTests_of_deferred (h : s.bsc.state = .deferred) : refillTests w level s =
    if level < (w.lEmpty : Int) then openValve s
    else if (w.lLow : Int) ≤ level then s.withBsc { s.bsc with state := .idle, deferralTimer := none } else s := by
  simp only [refillTests, h]

theorem refillTests_of_opened (h : s.bsc.state = .opened) : refillTests w level s =
    if (w.lHigh : Int) ≤ level then closeValve .idle s else s := by
  simp only [refillTests, h]

theorem refillTests_of_barred (h : s.bsc.state = .suspended ∨ s.bsc.state = .supplyFault) :
    refillTests w level s = s := by
  rcases h with h | h <;> simp only [refillTests, h]

theorem openValve_opened (s : State) : ValveOpened (openValve s) := by
  rw [openValve_eq]
  exact ⟨rfl, rfl, rfl, rfl, rfl⟩

/-- The tests move the valve, and with it the mode and its record, and nothing else. -/
theorem refillTests_eq (s : State) : refillTests w level s = { s with
    sli := (refillTests w level s).sli, bmu := (refillTests w level s).bmu, oau := (refillTests w level s).oau
    bsc := (refillTests w level s).bsc } := by
  have opened := openValve_eq s
  have closed := closeValve_eq .idle s
  unfold refillTests
  split
  · split
    · split
      · rfl
      · rw [opened]
    · rfl
  · split
    · rw [opened]
    · split <;> rfl
  · split
    · rw [closed]
    · rfl
  · rfl

theorem refillTests_starved (s : State) : (refillTests w level s).bsc.starved = s.bsc.starved := by
  have opened : (openValve s).bsc.starved = s.bsc.starved := by rw [openValve_eq]
  have closed : (closeValve .idle s).bsc.starved = s.bsc.starved := by rw [closeValve_eq]
  unfold refillTests
  split
  · split
    · split
      · rfl
      · exact opened
    · rfl
  · split
    · exact opened
    · split <;> rfl
  · split
    · exact closed
    · rfl
  · rfl

end

/-! ### The close -/

theorem bscClose_of_unknown {s : State} (h : newestLevel s = none) : bscClose s = s := by
  rw [← newestValidMean_eq] at h
  simp only [bscClose, h]

/-- The tests on a level, and then the report of a change of the starve condition (R155, R164). -/
theorem bscClose_of_level {s : State} {level : Int} (h : newestLevel s = some level) : bscClose s =
    if starveAfter (working s) level s.bsc.starved = s.bsc.starved then refillTests (working s) level s
    else reportStarve (refillTests (working s) level
      (s.withBsc { s.bsc with starved := starveAfter (working s) level s.bsc.starved })) := by
  rw [← newestValidMean_eq] at h
  simp only [bscClose, h, refillTests_starved, State.withBsc_bsc]
  split
  · next same => rw [same]; rfl
  · rfl

/-- What the LM records besides the loads does not show at a spout. -/
theorem HoldsOn.recorded {i : Spout} {l : Load} {s t : State} (h : HoldsOn i l s t) {x : Lm}
    (slot : x.slot = t.lm.slot) : HoldsOn i l s (t.withLm x) := by
  have same : loadOf (t.withLm x) i = loadOf t i := congrArg (PerSpout.get · i) slot
  rcases h with ⟨load, gate, command, valve⟩ | ⟨records, load, closed⟩
  · exact .inl ⟨same.trans load, gate, command, valve⟩
  · exact .inr ⟨records, by rw [same]; exact load, closed⟩

/-- Starvation starts (R74, R82, R124, R164). -/
structure StarveStarted (s t : State) : Prop where
  recorded : t.bsc.starved = true ∧ t.dba.starved = true ∧ t.lm.starved = true
  effective : t.dba.effectiveBudget = 0
  revoked : 0 < s.dba.effectiveBudget → ∀ i, noClaim i t
  held : ∀ i l, loadOf s i = some l → recordsHolds l.state →
    HeldFrom i l s t ∧ ∃ x, loadOf t i = some x ∧ x.causes.has .starve = true
  stands : ∀ i l, loadOf s i = some l → ¬ recordsHolds l.state → loadOf t i = some l

theorem reportStarve_starts {s : State} (starved : s.bsc.starved = true) : StarveStarted s (reportStarve s) := by
  have runs := reportStarve_runsOn s
  have dba := runs.dba
  have told : reportStarve s = eachSpout (lmHold [.starve])
      ((dbaSupply s.dba.aerationLow true s).withLm { (dbaSupply s.dba.aerationLow true s).lm with starved := true }) := by
    simp only [reportStarve, lmStarve, starved, if_true]
  have holds : ∀ {i l}, loadOf s i = some l → HoldsOn i l s
      ((dbaSupply s.dba.aerationLow true s).withLm { (dbaSupply s.dba.aerationLow true s).lm with starved := true }) :=
    fun hl => (HoldsOn.dbaSupply hl (.inr rfl)).recorded rfl
  constructor
  case recorded =>
    refine ⟨?_, ?_, ?_⟩
    · rw [runs.bsc]; exact starved
    · rw [dba]; exact starved
    · rw [runs.lm]; exact starved
  case effective =>
    rw [dba]
    show effectiveBudget _ _ s.bsc.starved = 0
    rw [starved, effectiveBudget_eq, if_pos (.inr rfl)]
  case revoked =>
    intro before i
    rw [told, dbaSupply_of_condition (.inr rfl), if_pos before]
    exact noClaim_eachHold (noClaim_revoke (supplied s.dba.aerationLow true s) i) _ _
  case held =>
    intro i l hl records
    rw [told]
    exact (holds hl).held records .starve
  case stands =>
    intro i l hl unrecorded
    rw [told]
    exact ((holds hl).eachHold [.starve]).elim (·.load) fun held => absurd held.records unrecorded

/-- Starvation ends (R74, R125, R164). -/
structure StarveEnded (s t : State) : Prop where
  recorded : t.bsc.starved = false ∧ t.dba.starved = false ∧ t.lm.starved = false
  effective : t.dba.effectiveBudget = if s.dba.aerationLow then 0 else s.pm.working.budget
  lifted : ∀ i l, loadOf s i = some l → l.state = .held → Without .starve i t

theorem reportStarve_ends {s : State} (starved : s.bsc.starved = false) : StarveEnded s (reportStarve s) := by
  have runs := reportStarve_runsOn s
  have dba := runs.dba
  constructor
  case recorded =>
    refine ⟨?_, ?_, ?_⟩
    · rw [runs.bsc]; exact starved
    · rw [dba]; exact starved
    · rw [runs.lm]; exact starved
  case effective =>
    rw [dba]
    show effectiveBudget _ _ s.bsc.starved = _
    rw [starved, effectiveBudget_eq]
    simp only [Bool.false_eq_true, or_false]
    rfl
  case lifted =>
    intro i l hl held
    have told : reportStarve s = eachSpout (lmLift .starve)
        ((dbaSupply s.dba.aerationLow false s).withLm { (dbaSupply s.dba.aerationLow false s).lm with starved := false }) := by
      simp only [reportStarve, lmStarve, starved, Bool.false_eq_true, if_false]
    have liftable : HeldOrWithout .starve i s := ⟨l, hl, .inl held⟩
    have unsupplied : Cause.starve ∉ supplyCauses (dbaSupply s.dba.aerationLow false s).dba := by
      rw [starve_mem_supplyCauses, (dbaSupply_runsOn s.dba.aerationLow false s).dba]
      exact Bool.false_ne_true
    rw [told]
    exact ((liftable.dbaSupply s.dba.aerationLow false).eachLift unsupplied
      (x := { (dbaSupply s.dba.aerationLow false s).lm with starved := false }) rfl).1

/-- Settles O28: the tests by the refill state, and a change of the starve condition by its holds and lifts. -/
theorem binLevelDrivesTheRefill : Obligations.BinLevelDrivesTheRefill := by
  constructor
  · intro level s
    dsimp only
    have frame := refillTests_eq s.pm.working level s
    obtain ⟨state, deferral, timer, command, -⟩ := openValve_opened s
    refine ⟨by simp [starveAfter], by simp [starveAfter], ?_, ?_, ?_, ?_, refillTests_of_barred _ level,
      by rw [frame], by rw [frame], by rw [frame], by rw [frame], by rw [frame], by rw [frame], by rw [frame]⟩
    · intro idle high
      rw [refillTests_of_idle _ level idle, if_neg (not_lt.mpr high)]
    · intro idle low
      rw [refillTests_of_idle _ level idle, if_pos low]
      exact ⟨fun deferred => if_pos deferred,
        fun atOnce => by rw [if_neg atOnce]; exact ⟨state, command, timer, deferral⟩⟩
    · intro deferred
      rw [refillTests_of_deferred _ level deferred]
      refine ⟨fun empty => ?_, fun above high => ?_, fun above low => ?_⟩
      · rw [if_pos empty]
        exact ⟨state, command, timer, deferral⟩
      · rw [if_neg (not_lt.mpr above), if_pos high]
        rfl
      · rw [if_neg (not_lt.mpr above), if_neg (not_le.mpr low)]
    · intro opened
      rw [refillTests_of_opened _ level opened]
      refine ⟨fun low => if_neg (not_le.mpr low), fun high => ?_⟩
      rw [if_pos high, closeValve_eq]
      exact ⟨rfl, rfl, rfl⟩
  · intro s
    refine ⟨bscClose_of_unknown, fun level hlevel => ?_⟩
    dsimp only
    have judged : starveAfter (working s) level s.bsc.starved =
        if s.bsc.starved then decide (level < s.pm.working.lLow) else decide (level < s.pm.working.lEmpty) := rfl
    rw [bscClose_of_level hlevel, ← judged]
    generalize starveAfter (working s) level s.bsc.starved = starved
    have unreported := refillTests_dischargeStands (working s) level (s.withBsc { s.bsc with starved := starved })
    have bsc := refillTests_starved (working s) level (s.withBsc { s.bsc with starved := starved })
    have pm := congrArg State.pm (refillTests_eq (working s) level (s.withBsc { s.bsc with starved := starved }))
    generalize refillTests (working s) level (s.withBsc { s.bsc with starved := starved }) = u at unreported bsc pm
    have load : ∀ i, loadOf u i = loadOf s i := unreported.loadOf
    have gate : ∀ i, gateOf u i = gateOf s i := unreported.gateOf
    have dba : u.dba = s.dba := unreported.dba
    refine ⟨fun same => if_pos same, fun starts before => ?_, fun ends before => ?_⟩
    · rw [if_neg (by rw [starts, before]; exact nofun)]
      have started := reportStarve_starts (s := u) (bsc.trans starts)
      obtain ⟨atBsc, atDba, atLm⟩ := started.recorded
      refine ⟨atBsc, atDba, atLm, started.effective, by rw [← dba]; exact started.revoked, fun i l hl records => ?_,
        fun i l hl => started.stands i l ((load i).trans hl), fun i l hl discharging => ?_⟩
      · obtain ⟨held, x, hx, stands⟩ := started.held i l ((load i).trans hl) records
        obtain ⟨y, hy, same⟩ := held.load
        rw [hx] at hy
        cases hy
        exact ⟨x, hx, same, stands⟩
      · obtain ⟨held, -⟩ := started.held i l ((load i).trans hl) (.inr (.inl discharging))
        obtain ⟨closed, shut, -⟩ := held.closed discharging
        rw [gate i] at closed shut
        exact ⟨closed, shut⟩
    · rw [if_neg (by rw [ends, before]; exact nofun)]
      have ended := reportStarve_ends (s := u) (bsc.trans ends)
      obtain ⟨atBsc, atDba, atLm⟩ := ended.recorded
      refine ⟨atBsc, atDba, atLm, ?_, fun i l hl held => ended.lifted i l ((load i).trans hl) held⟩
      rw [ended.effective, dba, pm]
      rfl

end Sys2Proof.Machine
end

section
/-! A change of the aeration line (O37): what the reports of the event leave of the holds of a fall, and of the lifts of a
rise. -/

namespace Sys2Proof.Machine

/-! ### A load that stays HELD -/

/-- Spout `i` with its load HELD under the cause, otherwise as state `w` left it. -/
structure HeldUnder (c : Cause) (i : Spout) (w s : State) : Prop where
  load : ∃ x, loadOf s i = some x ∧ x.state = .held ∧ x.causes.has c = true
  gate : gateOf s i = gateOf w i
  command : s.sli.gateCommand.get i = w.sli.gateCommand.get i
  dribble : s.bsc.dribbleSet.get i = w.bsc.dribbleSet.get i

namespace HeldUnder

variable {c : Cause} {i : Spout} {w s t : State}

theorem of_sameAt (h : HeldUnder c i w s) (k : SameAt i s t) : HeldUnder c i w t where
  load := by rw [k.load]; exact h.load
  gate := k.gate.trans h.gate
  command := k.command.trans h.command
  dribble := k.dribble.trans h.dribble

/-- A change of the load alone, which stays HELD under the cause. -/
theorem setLoad (h : HeldUnder c i w s) {x : Load} (held : x.state = .held) (has : x.causes.has c = true) :
    HeldUnder c i w (setLoad s i (some x)) :=
  { h with load := ⟨x, loadOf_setLoad_same s i _, held, has⟩ }

/-- A demand adds or takes SENSOR, and a load with another cause stays HELD (R124, R125). -/
theorem demandChanged (h : HeldUnder c i w s) (other : c ≠ .sensor) (before after : PerSpout Bool) :
    HeldUnder c i w (demandChanged before after i s) := by
  obtain ⟨x, hx, held, has⟩ := h.load
  unfold Machine.demandChanged
  split
  · have holds : lmHold [.sensor] i s = Machine.setLoad s i (some { x with state := .held, causes := x.causes.add [.sensor] }) := by
      simp only [lmHold, if_neg (List.cons_ne_nil Cause.sensor []), hx, held]
    rw [holds]
    exact h.setLoad rfl (by rw [Causes.add_has, has, Bool.true_or])
  · split
    · by_cases lifts : x.state = .held ∧ x.causes.has .sensor = true
      · have left : (x.causes.put .sensor false).has c = true := by rw [Causes.has_put_other _ _ other, has]
        have remains : x.causes.put .sensor false ≠ .none := fun n => by
          rw [n, Causes.has_none] at left
          cases left
        rw [lmLift_of_has hx lifts.1 lifts.2, if_neg remains]
        exact h.setLoad held left
      · rw [lmLift_of_stays hx lifts]
        exact h
    · exact h

theorem examine (h : HeldUnder c i w s) : HeldUnder c i w (examine s) := by
  obtain ⟨x, hx, held, has⟩ := h.load
  obtain ⟨load, gate, command, dribble⟩ := examine_of_not_waiting (s := s) (i := i) fun y hy => by
    rw [hx] at hy; cases hy; rw [held]; exact nofun
  exact
    { load := ⟨x, load.trans hx, held, has⟩
      gate := gate.trans h.gate
      command := command.trans h.command
      dribble := dribble.trans h.dribble }

theorem rejudge (h : HeldUnder c i w s) (other : c ≠ .sensor) : HeldUnder c i w (rejudge s) := by
  obtain ⟨u, before, after⟩ := rejudge_at s i
  exact ((h.of_sameAt before).demandChanged other _ _).of_sameAt after

/-- The reports of an event leave it so. -/
theorem settle (h : HeldUnder c i w s) (other : c ≠ .sensor) : HeldUnder c i w (settle s) :=
  settle_preserves (Q := HeldUnder c i w) (fun _ => examine) (fun _ ht => ht.rejudge other) h

end HeldUnder

/-! ### A cause that does not come back -/

/-- With no supply condition to find, the reports of an event do not bring a lifted one back. -/
theorem Without.settle {c : Cause} {i : Spout} {s : State} (h : Without c i s) (other : c ≠ .sensor)
    (unsupplied : c ∉ supplyCauses s.dba) : Without c i (settle s) := by
  have conditions : ∀ {t u}, RunsOn [] t u → c ∉ supplyCauses t.dba → c ∉ supplyCauses u.dba := by
    intro t u k ht
    rw [k.dba]
    exact ht
  refine (settle_preserves (Q := fun t => Without c i t ∧ c ∉ supplyCauses t.dba) (fun t ht => ?_) (fun t ht => ?_)
    ⟨h, unsupplied⟩).1
  · refine ⟨examine_preserves (P := Without c i) (fun q rest u hu queue _ => ?_) ht.1,
      conditions (examine_runsOn [] t) ht.2⟩
    by_cases hi : i = q.spout
    · subst hi
      obtain ⟨x, hx, free⟩ := hu
      refine ⟨_, by rw [loadOf_grant, hx, Option.map_some], ?_⟩
      split
      · exact free
      · exact free
    · exact hu.of_sameAt ((grant_confined queue).others i hi)
  · have recorded : Without c i (recordDemands (.of (demandOf t)) t) ∧
        c ∉ supplyCauses (recordDemands (.of (demandOf t)) t).dba := ht
    refine eachSpout_preserves (P := fun v => Without c i v ∧ c ∉ supplyCauses v.dba) (fun j v hv => ?_) recorded
    refine ⟨?_, conditions (demandChanged_runsOn [] _ _ j v) hv.2⟩
    unfold demandChanged
    split
    · exact hv.1.lmHold (by simpa using other) j
    · split
      · exact hv.1.lmLift hv.2 _ j
      · exact hv.1

/-! ### The line -/

theorem exec_aerationOkChange {s : State} (running : s.power = .running) (high : Bool) :
    exec (.aerationOkChange high) s = .next (if s.bsc.aerationHigh = high then s
      else settle (reportAeration (s.withBsc { s.bsc with aerationHigh := high }))) := if_pos running

/-- What a fall of the line reports (R165). -/
theorem reportAeration_falls {s : State} (fallen : s.bsc.aerationHigh = false) : reportAeration s =
    eachSpout (lmHold [.aeration]) ((dbaSupply true s.dba.starved s).withLm
      { (dbaSupply true s.dba.starved s).lm with aerationLow := true }) := by
  simp only [reportAeration, lmAeration, fallen, Bool.not_false, if_true]

theorem reportAeration_rises {s : State} (risen : s.bsc.aerationHigh = true) : reportAeration s =
    eachSpout (lmLift .aeration) ((dbaSupply false s.dba.starved s).withLm
      { (dbaSupply false s.dba.starved s).lm with aerationLow := false }) := by
  simp only [reportAeration, lmAeration, risen, Bool.not_true, Bool.false_eq_true, if_false]

/-- What a fall leaves at a spout whose load records holds, when its reports have run to their end. -/
theorem aerationFall_holds {s : State} {i : Spout} {l : Load} (fallen : s.bsc.aerationHigh = false)
    (hl : loadOf s i = some l) (records : recordsHolds l.state) :
    HeldFrom i l s (reportAeration s) ∧ HeldUnder .aeration i (reportAeration s) (settle (reportAeration s)) := by
  have begun : HoldsOn i l s ((dbaSupply true s.dba.starved s).withLm
      { (dbaSupply true s.dba.starved s).lm with aerationLow := true }) :=
    (HoldsOn.dbaSupply hl (.inl rfl)).recorded rfl
  obtain ⟨held, x, hx, has⟩ := begun.held records .aeration
  rw [← reportAeration_falls fallen] at held hx
  refine ⟨held, HeldUnder.settle ⟨⟨x, hx, ?_, has⟩, rfl, rfl, rfl⟩ nofun⟩
  obtain ⟨y, hy, same⟩ := held.load
  rw [hx] at hy
  cases hy
  rw [same]

/-- With every load that records holds HELD, no spout has a claim (R77, R80). -/
theorem noClaim_of_held {s t : State} (claims : ClaimsAgree True t) (runs : RunsOn [] s t)
    (held : ∀ i l, loadOf s i = some l → recordsHolds l.state → ∃ x, loadOf t i = some x ∧ x.state = .held)
    (i : Spout) : noClaim i t := by
  refine (claims.agrees i).covered.noClaim fun x hx => ?_
  have load := runs.load i
  cases hl : loadOf s i with
  | none =>
    rw [hl] at load
    rw [show loadOf t i = none from load] at hx
    cases hx
  | some l =>
    rw [hl] at load
    obtain ⟨y, hy, -, rests, -⟩ := load
    rw [hx] at hy
    cases hy
    by_cases records : recordsHolds l.state
    · obtain ⟨z, hz, state⟩ := held i l hl records
      rw [hx] at hz
      cases hz
      rw [state]
      exact ⟨nofun, nofun⟩
    · have still : l.state = .armed ∨ l.state = .tailing := by
        cases hs : l.state <;> simp_all [recordsHolds]
      rw [rests still]
      exact ⟨fun n => records (.inl n), fun n => records (.inr (.inl n))⟩

/-- Settles O37: a fall holds every load that records holds, which no report of the event undoes; a rise lifts AERATION,
which no request finds again. -/
theorem aerationChangeReachesTheLoads : Obligations.AerationChangeReachesTheLoads := by
  intro s high running
  refine ⟨fun same => ?_, ?_, ?_⟩
  · rw [exec_aerationOkChange running, if_pos same]
  · rintro was rfl
    let u := s.withBsc { s.bsc with aerationHigh := false }
    have run : exec (.aerationOkChange false) s = .next (settle (reportAeration u)) := by
      rw [exec_aerationOkChange running, if_neg (by rw [was]; exact nofun)]
    have runs : RunsOn [] ((supplied true u.dba.starved u).withLm { u.lm with aerationLow := true })
        (settle (reportAeration u)) := (reportAeration_runsOn u).trans (settle_runsOn [] _)
    have holds := fun {i l} (hl : loadOf s i = some l) => aerationFall_holds (s := u) (i := i) (l := l) rfl hl
    refine ⟨_, run, runs, fun i l hl records => (holds hl records).2.load, fun i l hl discharging => ?_, fun agree => ?_⟩
    · obtain ⟨held, stays⟩ := holds hl (.inr (.inl discharging))
      obtain ⟨closed, shut, leaves⟩ := held.closed discharging
      refine ⟨stays.gate.trans closed, fun n => stays.command.trans (shut n), ?_⟩
      exact leaves.runsOn (settle_runsOn [] (reportAeration u)) stays.dribble.trans
    · refine noClaim_of_held ((claimsFit_closed True).exec _ run agree.claimsFit).1 runs fun i l hl records => ?_
      obtain ⟨x, hx, held, -⟩ := (holds hl records).2.load
      exact ⟨x, hx, held⟩
  · rintro was rfl
    let u := s.withBsc { s.bsc with aerationHigh := true }
    have run : exec (.aerationOkChange true) s = .next (settle (reportAeration u)) := by
      rw [exec_aerationOkChange running, if_neg (by rw [was]; exact nofun)]
    have runs : RunsOn [] ((supplied false u.dba.starved u).withLm { u.lm with aerationLow := false })
        (settle (reportAeration u)) := (reportAeration_runsOn u).trans (settle_runsOn [] _)
    refine ⟨_, run, runs, fun i l hl held => ?_⟩
    have liftable : HeldOrWithout .aeration i u := ⟨l, hl, .inl held⟩
    have unsupplied : Cause.aeration ∉ supplyCauses (dbaSupply false u.dba.starved u).dba := by
      rw [aeration_mem_supplyCauses, (dbaSupply_runsOn false u.dba.starved u).dba]
      exact Bool.false_ne_true
    obtain ⟨lifted, gone⟩ := (liftable.dbaSupply false u.dba.starved).eachLift unsupplied
      (x := { (dbaSupply false u.dba.starved u).lm with aerationLow := false }) rfl
    rw [← reportAeration_rises (s := u) rfl] at lifted gone
    exact lifted.settle nofun gone

end Sys2Proof.Machine
end

section
/-! A request for an allocation (O47, O49): what START and RESUME leave before the reports of the event (R76, R121), and what
those reports make of the new place: a grant, or the place behind those that stood before it (R77 to R79). -/

namespace Sys2Proof.Machine

/-! ### The request -/

/-- A load of spout `i` enters WAITING as `l` and asks (R121). -/
def asking (i : Spout) (l : Load) (s : State) : State := dbaRequest i l (setLoad s i (some l))

theorem enterWaiting_eq {i : Spout} {l : Load} {s : State} (hl : loadOf s i = some l) :
    enterWaiting i s = asking i { l with state := .waiting } s := by
  simp only [enterWaiting, hl]
  rfl

theorem holdsClaim_iff (d : Dba) (i : Spout) :
    holdsClaim d i = true ↔ (d.allocation.get i).isSome ∨ i ∈ d.queue.map QueuePlace.spout := by
  simp only [holdsClaim, Bool.or_eq_true, List.any_eq_true, decide_eq_true_eq, List.mem_map]

/-- The supply conditions as hold causes (R76, R82). -/
theorem Causes.add_supplyCauses (x : Causes) (d : Dba) : x.add (supplyCauses d) =
    { x with aeration := x.aeration || d.aerationLow, starve := x.starve || d.starved } := by
  cases x
  cases ha : d.aerationLow <;> cases hs : d.starved <;> simp [supplyCauses, ha, hs, Causes.add, Causes.put]

/-- A request comes to the statements' record, but for a claim that the spout has lost (R76). -/
theorem asking_runsOn {i : Spout} {l : Load} {s : State} (waiting : l.state = .waiting) :
    RunsOn [] (askedBase i l s) (asking i l s) := by
  by_cases claims : (s.dba.allocation.get i).isSome ∨ i ∈ s.dba.queue.map QueuePlace.spout
  · have claimed : asking i l s = askedBase i l s := by
      rw [askedBase, if_pos claims]
      exact if_pos ((holdsClaim_iff s.dba i).mpr claims)
    rw [claimed]
    exact .refl _ _
  · have unclaimed : ¬ holdsClaim (setLoad s i (some l)).dba i = true := mt (holdsClaim_iff s.dba i).mp claims
    by_cases supply : s.dba.aerationLow = true ∨ s.dba.starved = true
    · have present : ((setLoad s i (some l)).dba.aerationLow || (setLoad s i (some l)).dba.starved) = true := by
        show (s.dba.aerationLow || s.dba.starved) = true
        simpa using supply
      have causes : supplyCauses s.dba ≠ [] := by
        rcases supply with low | starved
        · exact List.ne_nil_of_mem ((aeration_mem_supplyCauses _).mpr low)
        · exact List.ne_nil_of_mem ((starve_mem_supplyCauses _).mpr starved)
      have held : asking i l s = dbaRemoval i (setLoad s i (some { l with
          state := .held, causes := l.causes.add (supplyCauses s.dba) })) := by
        rw [asking, dbaRequest, if_neg unclaimed, if_pos present]
        show lmHold (supplyCauses s.dba) i (setLoad s i (some l)) = _
        simp only [lmHold, if_neg causes, loadOf_setLoad_same, waiting, setLoad_setLoad]
      rw [held, Causes.add_supplyCauses, askedBase, if_neg claims, if_pos supply]
      exact dbaRemoval_runsOn [] _ i
    · have absent : ¬ ((setLoad s i (some l)).dba.aerationLow || (setLoad s i (some l)).dba.starved) = true := by
        show ¬ (s.dba.aerationLow || s.dba.starved) = true
        simpa using supply
      have placed : asking i l s = askedBase i l s := by
        rw [asking, dbaRequest, if_neg unclaimed, if_neg absent, askedBase, if_neg claims, if_neg supply]
        rfl
      rw [placed]
      exact .refl _ _

/-- A spout without a claim has its place at the tail of the queue while no supply condition is present (R76, R77). -/
theorem asking_of_grantable {i : Spout} {s : State} (l : Load) (unclaimed : noClaim i s)
    (supply : s.dba.aerationLow = false ∧ s.dba.starved = false) : asking i l s =
      (setLoad s i (some l)).withDba { s.dba with queue := s.dba.queue ++ [⟨i, l.number, l.rate⟩] } := by
  have claimless : ¬ holdsClaim (setLoad s i (some l)).dba i = true := by
    rw [holdsClaim_iff]
    rintro (granted | placed)
    · rw [show (setLoad s i (some l)).dba.allocation.get i = none from unclaimed.1] at granted
      cases granted
    · obtain ⟨q, hq, hi⟩ := List.mem_map.mp placed
      exact unclaimed.2 q hq hi
  have absent : ¬ ((setLoad s i (some l)).dba.aerationLow || (setLoad s i (some l)).dba.starved) = true := by
    show ¬ (s.dba.aerationLow || s.dba.starved) = true
    simp [supply]
  rw [asking, dbaRequest, if_neg claimless, if_neg absent]
  rfl

/-! ### The request on its port -/

theorem askedBase_withPc (i : Spout) (l : Load) (s : State) (x : Pc) :
    askedBase i l { s with pc := x } = { askedBase i l s with pc := x } := by
  unfold askedBase
  dsimp only
  split
  · rfl
  · split <;> rfl

theorem askedBase_pc (i : Spout) (l : Load) (s : State) : (askedBase i l s).pc = s.pc := by
  unfold askedBase
  dsimp only
  split
  · rfl
  · split <;> rfl

theorem answer_askedBase (i : Spout) (c : Instr) (kind : Byte) (l : Load) (s : State) :
    answer (.bay i) kind .ok [] (askedBase i l (bayInProgress i c s)) =
      onBay i c (kind ||| 0x80) .ok [] (askedBase i l (bayTaken i s)) := by
  have pc : (askedBase i l (bayTaken i s)).pc = s.pc := askedBase_pc i l _
  unfold bayInProgress
  rw [askedBase_withPc]
  simp only [answer, setPort, portOf, onBay, answered, State.withPc, PerSpout.get_set_same, PerSpout.set_set, pc]

/-- A bay port's reply is formed beside the reports of the event. -/
theorem RunsOn.answeredAt {acts : List Spout} {s t : State} (h : RunsOn acts s t) (i : Spout) (kind : Byte) (r : Result)
    (fields : List Byte) : RunsOn acts (answer (.bay i) kind r fields s) (answer (.bay i) kind r fields t) :=
  { h with
    pc := by
      show Pc.mk .. = Pc.mk ..
      simp only [portOf, h.pc] }

/-- An accepted START or RESUME, on the port and at the LM, the DBA and the gates. -/
theorem asked_runsOn {i : Spout} {c : Instr} {kind : Byte} {l : Load} {s : State} (waiting : l.state = .waiting) :
    RunsOn [] (onBay i c (kind ||| 0x80) .ok [] (askedBase i l (bayTaken i s)))
      (answer (.bay i) kind .ok [] (settle (asking i l (bayInProgress i c s)))) := by
  rw [← answer_askedBase]
  exact ((asking_runsOn waiting).trans (settle_runsOn [] _)).answeredAt i kind .ok []

/-! ### The place under the reports of the event -/

theorem lmLift_of_unheld {c : Cause} {i : Spout} {s : State} (h : ∀ x, loadOf s i = some x → x.state ≠ .held) :
    lmLift c i s = s := by
  cases hl : loadOf s i with
  | none => simp only [lmLift, hl]
  | some x => exact lmLift_of_stays hl fun n => h x hl n.1

/-- No demand of a FRESH channel reaches a load that is not HELD. -/
theorem rejudge_sameAt_of_unheld {i : Spout} {s : State} (fresh : (s.sli.impact.get i).state = .fresh)
    (unheld : ∀ x, loadOf s i = some x → x.state ≠ .held) : SameAt i s (rejudge s) := by
  obtain ⟨u, before, after⟩ := rejudge_at s i
  have unchanged : demandChanged (demands s) (.of (demandOf s)) i u = u := by
    have lifts := lmLift_of_unheld (c := .sensor) (i := i) (s := u) fun x hx => unheld x (before.load.symm.trans hx)
    simp [demandChanged, demandOf_of_fresh fresh, lifts]
  rw [unchanged] at after
  exact before.trans after

/-- A demand that ends while its channel is not FRESH ends by substitution, under a load that draws (R41, R45). -/
theorem draws_of_demand_ends {s : State} {i : Spout} (stale : (s.sli.impact.get i).state ≠ .fresh)
    (ends : demandOf s i = false) : draws s i := by
  have substituted : substitutionHolds s i = true := by
    by_contra n
    rw [(demandOf_eq_true_iff s i).mpr ⟨stale, n⟩] at ends
    cases ends
  exact ((substitutionHolds_iff s i).mp substituted).2.2.2.1

/-- What a sublist keeps around an element of the list that stands there once. -/
theorem sublist_around {α : Type} {p : α} {kept pre post : List α} (h : kept.Sublist (pre ++ p :: post)) (mem : p ∈ kept)
    (once : p ∉ pre ++ post) : ∃ pre' post', kept = pre' ++ p :: post' ∧ pre'.Sublist pre ∧ post'.Sublist post := by
  obtain ⟨l₁, l₂, rfl, h₁, h₂⟩ := List.sublist_append_iff.mp h
  have later : p ∈ l₂ :=
    (List.mem_append.mp mem).resolve_left fun n => once (List.mem_append_left _ (h₁.subset n))
  rcases List.sublist_cons_iff.mp h₂ with skips | ⟨r, rfl, taken⟩
  · exact absurd (List.mem_append_right _ (skips.subset later)) once
  · exact ⟨l₁, r, rfl, h₁, taken⟩

/-- The changes of the demands that state `t` has judged, taken as far as state `u`: spout `i` waits, and the queue has
lost places and taken others' at its tail, none where `calm` says that no lift can bring one. -/
structure JudgedTo (calm : Prop) (i : Spout) (t u : State) : Prop where
  waits : ∃ l, loadOf u i = some l ∧ l.state = .waiting
  supply : u.dba.aerationLow = false ∧ u.dba.starved = false
  queue : ∃ kept extra, u.dba.queue = kept ++ extra ∧ kept.Sublist t.dba.queue ∧ (calm → extra = []) ∧
    Unplaced i extra
  unheld : calm → ∀ j, (sensorOf t j).demand = true → demandOf t j = false → ∀ x, loadOf u j = some x → x.state ≠ .held

namespace JudgedTo

variable {calm : Prop} {i : Spout} {t u : State}

/-- A demand that begins holds another spout's load (R124). -/
theorem lmHold (h : JudgedTo calm i t u) {j : Spout} (demanded : demandOf t j = true) (other : j ≠ i) :
    JudgedTo calm i t (lmHold [.sensor] j u) := by
  have yields := lmHold_yields [.sensor] j u
  have others := (lmHold_confined [.sensor] j u).others
  obtain ⟨kept, extra, queue, sublist, none_new, unplaced⟩ := h.queue
  constructor
  case waits => rw [(others i other.symm).load]; exact h.waits
  case supply => rw [yields.conditions]; exact h.supply
  case queue =>
    have left := yields.queue
    rw [queue] at left
    obtain ⟨kept', extra', split, hk, he⟩ := List.sublist_append_iff.mp left
    refine ⟨kept', extra', split, hk.trans sublist, fun c => ?_, unplaced.mono he⟩
    rw [none_new c] at he
    exact List.sublist_nil.mp he
  case unheld =>
    intro c k recorded ended x hx
    have hk : k ≠ j := by rintro rfl; rw [demanded] at ended; cases ended
    exact h.unheld c k recorded ended x ((others k hk).load.symm.trans hx)

/-- A demand that ends lets another spout's load ask (R125). -/
theorem lmLift (h : JudgedTo calm i t u) {j : Spout} (recorded : (sensorOf t j).demand = true)
    (ended : demandOf t j = false) : JudgedTo calm i t (lmLift .sensor j u) := by
  by_cases held : ∀ x, loadOf u j = some x → x.state ≠ .held
  · rw [lmLift_of_unheld held]
    exact h
  · have disturbed : ¬ calm := fun c => held (h.unheld c j recorded ended)
    have other : i ≠ j := by
      rintro rfl
      obtain ⟨l, hl, waiting⟩ := h.waits
      refine held fun x hx => ?_
      rw [hl] at hx
      cases hx
      rw [waiting]
      exact nofun
    obtain ⟨new, dba, spouts⟩ := lmLift_dba .sensor j h.supply
    obtain ⟨kept, extra, queue, sublist, -, unplaced⟩ := h.queue
    have same := (lmLift_confined .sensor j u).others i other
    refine ⟨by rw [same.load]; exact h.waits, by rw [dba]; exact h.supply, ⟨kept, extra ++ new, ?_, sublist,
      fun c => absurd c disturbed, fun p hp => ?_⟩, fun c => absurd c disturbed⟩
    · rw [dba, ← List.append_assoc, ← queue]
    · rcases List.mem_append.mp hp with before | after
      · exact unplaced p before
      · rw [spouts p after]
        exact other.symm

theorem demandChanged (h : JudgedTo calm i t u) (undemanded : demandOf t i = false) (j : Spout) :
    JudgedTo calm i t (demandChanged (demands t) (.of (demandOf t)) j u) := by
  unfold Machine.demandChanged
  simp only [demands, PerSpout.get_of]
  split
  · next begins => exact h.lmHold begins.1 (by rintro rfl; rw [undemanded] at begins; exact nomatch begins.1)
  · split
    · next ends => exact h.lmLift ends.2 ends.1
    · exact h

end JudgedTo

/-- Spout `i` in its place, with its load as it asked: behind no places but those of `qs`, and where `calm` says that every
FRESH channel's demand is recorded as it stands, behind nothing that came later. -/
structure Placed (calm : Prop) (i : Spout) (l : Load) (b : Nat) (qs : List QueuePlace) (s : State) : Prop where
  load : loadOf s i = some l
  free : s.dba.allocation.get i = none
  fresh : (s.sli.impact.get i).state = .fresh
  supply : s.dba.aerationLow = false ∧ s.dba.starved = false
  budget : s.pm.working.budget = b
  queue : ∃ pre post, s.dba.queue = pre ++ ⟨i, l.number, l.rate⟩ :: post ∧ pre.Sublist qs ∧ (calm → post = []) ∧
    Unplaced i (pre ++ post)
  judged : calm → ∀ j, (s.sli.impact.get j).state = .fresh → (sensorOf s j).demand = false

namespace Placed

variable {calm : Prop} {i : Spout} {l : Load} {b : Nat} {qs : List QueuePlace} {s : State}

/-- A fresh judgement of the demands leaves the place (R46). -/
theorem rejudge (h : Placed calm i l b qs s) (waiting : l.state = .waiting) : Placed calm i l b qs (rejudge s) := by
  have unheld : ∀ x, loadOf s i = some x → x.state ≠ .held := fun x hx => by
    rw [h.load] at hx; cases hx; rw [waiting]; exact nofun
  have same := rejudge_sameAt_of_unheld h.fresh unheld
  obtain ⟨impact, pm, -, -⟩ := rejudge_inputs s
  have begun : JudgedTo calm i s (recordDemands (.of (demandOf s)) s) :=
    { waits := ⟨l, h.load, waiting⟩
      supply := h.supply
      queue := ⟨s.dba.queue, [], (List.append_nil _).symm, .refl _, fun _ => rfl, nofun⟩
      unheld := fun c j recorded ended x hx => by
        have stale : (s.sli.impact.get j).state ≠ .fresh := fun n => by
          rw [h.judged c j n] at recorded
          cases recorded
        obtain ⟨y, hy, drawn⟩ := draws_of_demand_ends stale ended
        have same : x = y := Option.some.inj (hx.symm.trans hy)
        rw [same]
        rcases drawn with drawn | drawn <;> rw [drawn] <;> exact nofun }
  have ran : JudgedTo calm i s (Machine.rejudge s) :=
    eachSpout_preserves (P := JudgedTo calm i s) (fun j _ hu => hu.demandChanged (demandOf_of_fresh h.fresh) j) begun
  constructor
  case load => exact same.load.trans h.load
  case free => exact same.allocation.trans h.free
  case fresh => rw [impact]; exact h.fresh
  case supply => exact ran.supply
  case budget => rw [pm]; exact h.budget
  case judged =>
    intro _ j fresh
    rw [rejudge_demand]
    exact demandOf_of_fresh (impact ▸ fresh)
  case queue =>
    obtain ⟨pre, post, queue, before, none_after, unplaced⟩ := h.queue
    obtain ⟨kept, extra, after, sublist, none_new, foreign⟩ := ran.queue
    have stands : (⟨i, l.number, l.rate⟩ : QueuePlace) ∈ kept ++ extra := by
      rw [← after]
      exact (same.place _ rfl).mpr (by rw [queue]; exact List.mem_append_right _ List.mem_cons_self)
    have mem := (List.mem_append.mp stands).resolve_right fun n => foreign _ n rfl
    rw [queue] at sublist
    obtain ⟨pre', post', split, hpre, hpost⟩ := sublist_around sublist mem fun n => unplaced _ n rfl
    refine ⟨pre', post' ++ extra, by rw [after, split, List.append_assoc]; rfl, hpre.trans before, fun c => ?_,
      fun p hp => ?_⟩
    · rw [none_after c] at hpost
      rw [List.sublist_nil.mp hpost, none_new c]
      rfl
    · rw [← List.append_assoc] at hp
      rcases List.mem_append.mp hp with old | new
      · exact unplaced p ((hpre.append hpost).subset old)
      · exact foreign p new

/-- A grant to the place (R78). -/
theorem granted (h : Placed calm i l b qs s) (waiting : l.state = .waiting) {rest : List QueuePlace}
    (queue : s.dba.queue = ⟨i, l.number, l.rate⟩ :: rest) (unplaced : Unplaced i rest) :
    GrantedTo i { load := l.number, rate := min l.rate b } (grant ⟨i, l.number, l.rate⟩ rest s) where
  allocation := by
    rw [grant_dba, ← h.budget]
    exact PerSpout.get_set_same _ _ _
  load := by
    have discharges := loadOf_grant ⟨i, l.number, l.rate⟩ rest s
    rw [h.load, Option.map_some, if_pos ⟨rfl, waiting⟩] at discharges
    exact ⟨_, discharges, rfl⟩
  fresh := by rw [(grant_confined queue).shared.impact]; exact h.fresh
  placed := by rw [grant_dba]; exact unplaced

/-- A grant is to a place before it, or to it (R78). -/
theorem grant (h : Placed calm i l b qs s) (waiting : l.state = .waiting) {q : QueuePlace} {rest : List QueuePlace}
    (queue : s.dba.queue = q :: rest) : Placed calm i l b qs (grant q rest s) ∨
      GrantedTo i { load := l.number, rate := min l.rate b } (grant q rest s) := by
  obtain ⟨pre, post, places, before, none_after, unplaced⟩ := h.queue
  rw [queue] at places
  cases pre with
  | nil =>
    obtain ⟨rfl, rfl⟩ := List.cons.inj places
    exact .inr (h.granted waiting queue unplaced)
  | cons p pre =>
    obtain ⟨rfl, rfl⟩ := List.cons.inj places
    have confined := grant_confined queue
    have other : i ≠ q.spout := fun n => unplaced q List.mem_cons_self n.symm
    have same := confined.others i other
    refine .inl
      { load := same.load.trans h.load
        free := same.allocation.trans h.free
        fresh := by rw [confined.shared.impact]; exact h.fresh
        supply := by rw [grant_dba]; exact h.supply
        budget := by rw [confined.shared.pm]; exact h.budget
        queue := ⟨pre, post, by rw [grant_dba]; rfl, (List.sublist_cons_self q pre).trans before, none_after,
          fun p hp => unplaced p (List.mem_cons_of_mem q hp)⟩
        judged := fun c j fresh => ?_ }
    rw [sensorOf, confined.shared.ssu]
    exact h.judged c j (confined.shared.impact ▸ fresh)

end Placed

/-- A grant to another spout leaves a granted one. -/
theorem GrantedTo.grant {i : Spout} {a : Allocation} {s : State} (h : GrantedTo i a s) {q : QueuePlace}
    {rest : List QueuePlace} (queue : s.dba.queue = q :: rest) : GrantedTo i a (grant q rest s) := by
  have confined := grant_confined queue
  exact h.of_sameAt (confined.others i fun n => h.placed q (by rw [queue]; exact List.mem_cons_self) n.symm)
    confined.shared.impact

/-- The reports of the event: the place stands, or has been granted (R77, R78). -/
theorem Placed.settle {calm : Prop} {i : Spout} {l : Load} {b : Nat} {qs : List QueuePlace} {s : State}
    (h : Placed calm i l b qs s) (waiting : l.state = .waiting) : Placed calm i l b qs (settle s) ∨
      GrantedTo i { load := l.number, rate := min l.rate b } (settle s) := by
  let granted : Allocation := { load := l.number, rate := min l.rate b }
  refine settle_preserves (Q := fun t => Placed calm i l b qs t ∨ GrantedTo i granted t) (fun t ht => ?_)
    (fun t ht => ht.imp (·.rejudge waiting) (·.rejudge)) (.inl h)
  refine examine_preserves (P := fun u => Placed calm i l b qs u ∨ GrantedTo i granted u) (fun q rest u hu queue _ => ?_) ht
  exact hu.elim (·.grant waiting queue) fun stands => .inr (stands.grant queue)

/-- The state that the request leaves. -/
theorem asking_placed {i : Spout} {l : Load} {s : State} (unclaimed : noClaim i s)
    (supply : s.dba.aerationLow = false ∧ s.dba.starved = false) (fresh : (s.sli.impact.get i).state = .fresh) :
    Placed (∀ j, (sensorOf s j).demand = demandOf s j) i l s.pm.working.budget s.dba.queue (asking i l s) := by
  rw [asking_of_grantable l unclaimed supply]
  exact
    { load := loadOf_setLoad_same s i _
      free := unclaimed.1
      fresh := fresh
      supply := supply
      budget := rfl
      queue := ⟨s.dba.queue, [], rfl, .refl _, fun _ => rfl, by rw [List.append_nil]; exact unclaimed.2⟩
      judged := fun calm j channel => (calm j).trans (demandOf_of_fresh channel) }

/-- What the statements say of a request whose event has run on (R76 to R79). -/
theorem asked_of_grantable {i : Spout} {l : Load} {s : State} (waiting : l.state = .waiting) (unclaimed : noClaim i s)
    (supply : s.dba.aerationLow = false ∧ s.dba.starved = false) (fresh : (s.sli.impact.get i).state = .fresh) :
    Asked i l s (settle (asking i l s)) := by
  have begun := asking_placed (l := l) unclaimed supply fresh
  rcases begun.settle waiting with placed | granted
  · obtain ⟨pre, post, queue, before, none_after, -⟩ := placed.queue
    exact .inr ⟨placed.load, placed.free, pre, post, queue, before, none_after⟩
  · obtain ⟨y, hy, discharging⟩ := granted.load
    have runs := (settle_runsOn [] (asking i l s)).load i
    rw [begun.load] at runs
    obtain ⟨x, hx, same, -⟩ := runs
    rw [hy] at hx
    cases hx
    rw [discharging] at same
    exact .inl ⟨y, hy, same, granted.allocation, granted.placed⟩

/-- The reply changes nothing of what the request has come to. -/
theorem Asked.answered {i : Spout} {l : Load} {s t : State} (h : Asked i l s t) (kind : Byte) :
    Asked i l s (answer (.bay i) kind .ok [] t) := h

/-! ### START and RESUME -/

theorem startLoad_of_conditions {i : Spout} {l : Load} {s : State} (hl : loadOf s i = some l) (armed : l.state = .armed)
    (conditions : startConditions s i = 0) :
    startLoad i s = accept (settle (asking i { l with state := .waiting } s)) := by
  rw [startLoad, hl]
  dsimp only
  rw [if_pos armed, if_pos conditions, enterWaiting_eq hl]

theorem resumeLoad_of_clear {i : Spout} {l : Load} {s : State} (hl : loadOf s i = some l) (held : l.state = .held)
    (clear : resumedCauses (s.lm.interlock.get i) l.causes = .none) :
    resumeLoad i s = accept (settle (asking i { l with state := .waiting, causes := .none } s)) := by
  have asks : enterWaiting i (setLoad s i (some { l with causes := .none })) =
      asking i { l with state := .waiting, causes := .none } s := by
    rw [enterWaiting_eq (loadOf_setLoad_same s i _), asking, asking, setLoad_setLoad]
  rw [resumeLoad, hl]
  dsimp only
  rw [if_pos held, clear, if_pos rfl, asks]

theorem startConditions_eq_zero {i : Spout} {s : State} (interlock : s.lm.interlock.get i = true)
    (aeration : s.lm.aerationLow = false) (starved : s.lm.starved = false) (demand : (sensorOf s i).demand = false)
    (feedback : (s.sli.feedback.get i).state = .fresh) : startConditions s i = 0 := by
  simp [startConditions, interlock, aeration, starved, demand, feedback, bitAt]

/-- Settles O47: either request is a request to the DBA, and the reports that follow it move its place only forward. -/
theorem startAndResumeEnterWaiting : Obligations.StartAndResumeEnterWaiting := by
  intro s i l running hl
  dsimp only
  have asked : ∀ c x, x.state = .waiting → (noClaim i s ∧ s.dba.aerationLow = false ∧ s.dba.starved = false ∧
      (s.sli.impact.get i).state = .fresh) → Asked i x s (settle (asking i x (bayInProgress i c s))) := by
    rintro c x waiting ⟨unclaimed, low, starves, fresh⟩
    exact asked_of_grantable (s := bayInProgress i c s) waiting unclaimed ⟨low, starves⟩ fresh
  constructor
  · intro armed interlock aeration starved demand feedback taken
    have starts := startLoad_of_conditions (s := bayInProgress i (.start (.bay i) 1) s) hl armed
      (startConditions_eq_zero interlock aeration starved demand feedback)
    exact ⟨_, whileRunning_serveBay running taken starts, asked_runsOn (kind := 0x11) rfl,
      fun grantable => (asked _ { l with state := .waiting } rfl grantable).answered 0x11⟩
  · intro held interlock aeration starve sensor sense taken
    have clear : resumedCauses (s.lm.interlock.get i) l.causes = .none := by
      have lifted : (l.causes.interlock && !s.lm.interlock.get i) = false := by
        cases hc : l.causes.interlock
        · rfl
        · rw [interlock hc]; rfl
      rw [resumedCauses, lifted, aeration, starve, sensor, sense]
      rfl
    have resumes := resumeLoad_of_clear (s := bayInProgress i (.resume (.bay i) 1) s) hl held clear
    exact ⟨_, whileRunning_serveBay running taken resumes, asked_runsOn (kind := 0x13) rfl,
      fun grantable => (asked _ { l with state := .waiting, causes := .none } rfl grantable).answered 0x13⟩

/-! ### A grant within the event -/

/-- The opening of a gate: to START_POS, or to DRIBBLE_POS and into the dribble set where the remaining mass is within
DRIBBLE_MASS_G (R90, R156). -/
structure Opened (i : Spout) (near : Prop) (w : Params) (t : State) : Prop where
  far : ¬ near → (gateOf t i).mode = .opening ∧ (gateOf t i).command = w.startPos ∧
    t.sli.gateCommand.get i = w.startPos
  near : near → (gateOf t i).mode = .dribble ∧ (gateOf t i).command = w.dribblePos ∧
    t.sli.gateCommand.get i = w.dribblePos ∧ t.bsc.dribbleSet.get i = true
  counted : (gateOf t i).flowSum = 0 ∧ (gateOf t i).flowCount = 0

theorem Opened.of_sameAt {i : Spout} {near : Prop} {w : Params} {s t : State} (h : Opened i near w s)
    (k : SameAt i s t) : Opened i near w t where
  far := by rw [k.gate, k.command]; exact h.far
  near := by rw [k.gate, k.command, k.dribble]; exact h.near
  counted := by rw [k.gate]; exact h.counted

theorem gateOpen_opened {i : Spout} {l : Load} {s : State} (hl : loadOf s i = some l) :
    Opened i (remaining s i l ≤ ((working s).dribbleMassG : Int)) (working s) (gateOpen i s) := by
  have pos : ∀ c t, (setCommand i c t).sli.gateCommand.get i = c := fun _ _ => PerSpout.get_set_same _ _ _
  have entered : ∀ t, (dribbleEntered i t).bsc.dribbleSet.get i = true := fun _ => PerSpout.get_set_same _ _ _
  have stands : ∀ t, gateOf (dribbleEntered i t) i = gateOf t i := fun _ => rfl
  have command : ∀ t, (dribbleEntered i t).sli = t.sli := fun _ => rfl
  unfold gateOpen
  rw [hl]
  dsimp only
  by_cases far : ((working s).dribbleMassG : Int) < remaining s i l
  · have opens : ((working (setGate s i { gateOf s i with flowSum := 0, flowCount := 0 })).dribbleMassG : Int) <
        remaining (setGate s i { gateOf s i with flowSum := 0, flowCount := 0 }) i l := far
    rw [if_pos opens]
    constructor
    · exact fun _ => ⟨by simp, by simp; rfl, pos _ _⟩
    · exact fun near => absurd near (not_le.mpr far)
    · simp
  · have dribbles : ¬ ((working (setGate s i { gateOf s i with flowSum := 0, flowCount := 0 })).dribbleMassG : Int) <
        remaining (setGate s i { gateOf s i with flowSum := 0, flowCount := 0 }) i l := far
    rw [if_neg dribbles]
    constructor
    · exact fun n => absurd (not_lt.mp far) n
    · refine fun _ => ⟨by simp [stands], by simp [stands]; rfl, ?_, entered _⟩
      rw [command]
      exact pos _ _
    · simp [stands]

/-- A grant to a load that waits behind a CLOSED gate opens the gate (R90). -/
theorem grant_opened {q : QueuePlace} {rest : List QueuePlace} {l : Load} {s : State} (hl : loadOf s q.spout = some l)
    (reaches : l.number = q.load ∧ l.state = .waiting) (closed : (gateOf s q.spout).mode = .closed) :
    Opened q.spout (remaining s q.spout l ≤ ((working s).dribbleMassG : Int)) (working s) (grant q rest s) := by
  let granted := s.withDba { s.dba with
    allocation := s.dba.allocation.set q.spout (some { load := q.load, rate := headRate (working s) q }), queue := rest }
  let u := setLoad granted q.spout (some { l with state := .discharging })
  have opens : grant q rest s = gateOpen q.spout u := by
    have load : loadOf granted q.spout = some l := hl
    show grantTaken q _ granted = _
    rw [grantTaken, load]
    dsimp only
    rw [if_pos reaches, gateTakeGrant, show (gateOf u q.spout).mode = .closed from closed]
  rw [opens]
  exact gateOpen_opened (s := u) (l := { l with state := .discharging }) (loadOf_setLoad_same granted q.spout _)

/-- The head of a queue that it fits is granted before anything else (R78). -/
theorem examine_singleton {q : QueuePlace} {s : State} (queue : s.dba.queue = [q]) (fits : headFits s q = true) :
    examine s = grant q [] s := by
  rw [examine, queue, examineFrom, if_pos fits, examineFrom]

/-- A granted spout stands as the grant left it, whatever the reports of the event go on to do. -/
theorem GrantedTo.settle {i : Spout} {a : Allocation} {s : State} (h : GrantedTo i a (Machine.examine s)) :
    GrantedTo i a (settle s) ∧ SameAt i (Machine.examine s) (settle s) := by
  have unheld : ∀ {t}, GrantedTo i a t → ∀ x, loadOf t i = some x → x.state ≠ .held := by
    intro t ht x hx
    obtain ⟨l, hl, discharging⟩ := ht.load
    rw [hx] at hl
    cases hl
    rw [discharging]
    exact nofun
  have judged : ∀ t, GrantedTo i a t ∧ SameAt i (Machine.examine s) t →
      GrantedTo i a (Machine.rejudge t) ∧ SameAt i (Machine.examine s) (Machine.rejudge t) := fun t ht =>
    ⟨ht.1.rejudge, ht.2.trans (rejudge_sameAt_of_unheld ht.1.fresh (unheld ht.1))⟩
  exact settle_establishes (Q := fun t => GrantedTo i a t ∧ SameAt i (Machine.examine s) t)
    (fun _ => ⟨h, .refl i _⟩) (judged _ ⟨h, .refl i _⟩)
    (fun t ht => ⟨ht.1.examine, ht.2.trans (examine_sameAt ht.1.placed)⟩) judged

/-- A request that finds the queue empty, room for its rate and its gate CLOSED is granted by the first examination, and
the gate opens under the grant (R76, R78, R90). -/
theorem asking_granted {i : Spout} {l : Load} {s : State} (waiting : l.state = .waiting)
    (free : s.dba.allocation.get i = none) (empty : s.dba.queue = [])
    (supply : s.dba.aerationLow = false ∧ s.dba.starved = false) (fresh : (s.sli.impact.get i).state = .fresh)
    (closed : (gateOf s i).mode = .closed)
    (fits : headFits s ⟨i, l.number, l.rate⟩ = true) :
    GrantedTo i { load := l.number, rate := min l.rate s.pm.working.budget } (settle (asking i l s)) ∧
      loadOf (settle (asking i l s)) i = some { l with state := .discharging } ∧
      Opened i (remaining s i l ≤ ((working s).dribbleMassG : Int)) (working s) (settle (asking i l s)) := by
  have unclaimed : noClaim i s := ⟨free, by rw [empty]; exact nofun⟩
  have begun := asking_placed (l := l) unclaimed supply fresh
  have placed := asking_of_grantable l unclaimed supply
  rw [empty, List.nil_append] at placed
  rw [placed] at begun ⊢
  generalize hu : (setLoad s i (some l)).withDba { s.dba with queue := [⟨i, l.number, l.rate⟩] } = u at begun ⊢
  have queue : u.dba.queue = [⟨i, l.number, l.rate⟩] := by rw [← hu]; rfl
  have fits : headFits u ⟨i, l.number, l.rate⟩ = true := by rw [← hu]; exact fits
  have mode : (gateOf u i).mode = .closed := by rw [← hu]; exact closed
  have mass : remaining u i l = remaining s i l := by rw [← hu]; rfl
  have params : working u = working s := by rw [← hu]; rfl
  have first := examine_singleton queue fits
  obtain ⟨stands, same⟩ := GrantedTo.settle (first.symm ▸ begun.granted waiting queue nofun)
  have opened := grant_opened (q := ⟨i, l.number, l.rate⟩) (rest := []) begun.load ⟨rfl, waiting⟩ mode
  have load := loadOf_grant ⟨i, l.number, l.rate⟩ [] u
  rw [begun.load, Option.map_some, if_pos ⟨rfl, waiting⟩] at load
  rw [mass, params] at opened
  rw [first] at same
  exact ⟨stands, same.load.trans load, opened.of_sameAt same⟩

theorem Opened.answered {i : Spout} {near : Prop} {w : Params} {t : State} (h : Opened i near w t) (kind : Byte) :
    Opened i near w (answer (.bay i) kind .ok [] t) := ⟨h.far, h.near, h.counted⟩

/-- Settles O49: the place is the head and fits, so the first examination grants it, and no later report reaches it. -/
theorem startIsGrantedAtOnce : Obligations.StartIsGrantedAtOnce := by
  intro s i l running hl armed interlock aeration starved demand feedback fresh low starves empty free closed taken
  dsimp only
  intro rated room
  have starts := startLoad_of_conditions (s := bayInProgress i (.start (.bay i) 1) s) hl armed
    (startConditions_eq_zero interlock aeration starved demand feedback)
  have fits : headFits s ⟨i, l.number, l.rate⟩ = true := (headFits_iff _ _).mpr ⟨rated, room⟩
  obtain ⟨granted, load, opened⟩ := asking_granted (s := bayInProgress i (.start (.bay i) 1) s)
    (l := { l with state := .waiting }) rfl free empty ⟨low, starves⟩ fresh closed fits
  have answered := opened.answered 0x11
  refine ⟨_, { l with state := .discharging }, whileRunning_serveBay running taken starts, granted.allocation, load, rfl,
    rfl, ?_, answered.counted⟩
  split
  · next far => exact answered.far (not_le.mpr far)
  · next near => exact answered.near (not_lt.mp near)

end Sys2Proof.Machine
end

section
/-! The gates and their loads under every step (O3): what `GateInv` says of one spout, and what each change of a load or of a
gate does to it. A close order is written once as one record, for the holds and the closes with tail too. -/

namespace Sys2Proof.Machine

/-! ### Close orders -/

/-- A plain close is the statements' record, but for the allocation it releases and the departure from DRIBBLE (R102,
R156). -/
theorem plainClose_eq (i : Spout) (s : State) : plainClose i s =
    leftDribble i (gateOf s i).mode ((orderClosed i s).withDba (plainClose i s).dba) := by
  by_cases opened : (gateOf s i).mode.discharging = true
  · have closes : plainClose i s = leftDribble i (gateOf s i).mode (dbaRelease i (orderClosed i s)) := by
      simp only [plainClose, gateToClosing, setCommand, setGateCommand, gateOf_setGate_same, setGate_setGate, orderClosed,
        closedGate, if_pos opened]
      rfl
    have dba : (plainClose i s).dba = (dbaRelease i (orderClosed i s)).dba := by rw [closes, leftDribble_eq]
    rw [dba]
    exact closes
  · have stays : ∀ t, leftDribble i (gateOf s i).mode t = t := fun _ =>
      if_neg fun dribble => opened (by rw [dribble]; rfl)
    have ordered : orderClosed i s = setGate s i (closedGate (gateOf s i)) := by
      simp only [orderClosed, if_neg opened]
      rfl
    rw [stays, ordered, plainClose, closedGate, if_neg opened, if_neg opened]
    split
    · unfold dropPending
      split
      · rfl
      · next ungranted =>
        rw [← Option.not_isSome_iff_eq_none.mp ungranted]
        exact (setGate_gateOf s i).symm
    · exact (setGate_gateOf s i).symm

/-- The outbound command after a plain close (R89, R102). -/
theorem gateCommand_plainClose_eq (i : Spout) (s : State) : (plainClose i s).sli.gateCommand.get i =
    if (gateOf s i).mode.discharging then 0 else s.sli.gateCommand.get i := by
  rw [plainClose_eq, gateCommand_leftDribble]
  simp only [orderClosed, State.withDba_sli]
  split
  · exact PerSpout.get_set_same _ _ _
  · rfl

/-- A close with tail is a plain close and a FINISHED tail, where there is anything to close (R102, R107). -/
theorem closeWithTail_eq {i : Spout} {s : State} (closes : (gateOf s i).mode.discharging = true ∨
      (gateOf s i).mode = .closing ∧ (gateOf s i).pendingGrant.isSome) :
    closeWithTail i s = beginTail i .finished false (plainClose i s) := by
  by_cases opened : (gateOf s i).mode.discharging = true
  · rw [closeWithTail, if_pos opened, plainClose, if_pos opened]
  · have waits := closes.resolve_left opened
    rw [closeWithTail, if_neg opened, if_pos waits, plainClose, if_neg opened, if_pos waits.1]

theorem closeWithTail_of_shut {i : Spout} {s : State} (shut : ¬ ((gateOf s i).mode.discharging = true ∨
      (gateOf s i).mode = .closing ∧ (gateOf s i).pendingGrant.isSome)) : closeWithTail i s = s := by
  rw [closeWithTail, if_neg fun n => shut (.inl n), if_neg fun n => shut (.inr n)]

/-- A shut gate's command is 0 already. -/
theorem closedGate_command {g : Gate} (stopped : g.mode.discharging = false → g.command = 0) :
    (closedGate g).command = 0 := by
  unfold closedGate
  split
  · rfl
  · next shut =>
    split <;> exact stopped (by simpa using shut)

/-- The outbound command after a close with tail. -/
theorem gateCommand_closeWithTail (i : Spout) (s : State) : (closeWithTail i s).sli.gateCommand.get i =
    if (gateOf s i).mode.discharging then 0 else s.sli.gateCommand.get i := by
  by_cases closes : (gateOf s i).mode.discharging = true ∨
      (gateOf s i).mode = .closing ∧ (gateOf s i).pendingGrant.isSome
  · rw [closeWithTail_eq closes]
    exact gateCommand_plainClose_eq i s
  · rw [closeWithTail_of_shut closes, if_neg fun n => closes (.inl n)]

/-- Outside the discharging modes a window step clears the accumulator alone (R92). -/
theorem steppedGate_of_shut {g : Gate} (shut : g.mode.discharging = false) (w : Params) (a : Nat) :
    steppedGate w a g = { g with flowSum := 0, flowCount := 0 } := by
  obtain ⟨mode, _, _, _, _, _, _, _⟩ := g
  cases mode with
  | opening => cases shut
  | regulating => cases shut
  | dribble => cases shut
  | closed => rfl
  | closing => rfl
  | fault => rfl

theorem endLoad_sli (i : Spout) (cause : EndCause) (tailEnd : Bool) (s : State) :
    (endLoad i cause tailEnd s).sli = s.sli := by
  have released : ∀ t, (dropPending i t).sli = t.sli := fun t => by unfold dropPending; split <;> rfl
  unfold endLoad
  split
  · rfl
  · next l _ =>
    have removed : (removedClaim i l s).sli = s.sli := by rw [removedClaim_eq]; rfl
    dsimp only
    rw [complete_eq, oauLoadEnded_eq]
    split
    · exact removed
    · exact (released _).trans removed

/-! ### One spout -/

/-- What a load and its gate keep of one another, with the outbound command the gate's, which is 0 outside the discharging
modes: `GateInv` at one spout. -/
structure GateAgrees (i : Spout) (l : Option Load) (g : Gate) (c : Nat) : Prop extends
    ClaimAgrees False i l g none [] where
  outbound : c = g.command
  stopped : g.mode.discharging = false → g.command = 0

/-- Spout `i` as it stands in the state. -/
def GateAgreesAt (i : Spout) (s : State) : Prop :=
  GateAgrees i (loadOf s i) (gateOf s i) (s.sli.gateCommand.get i)

namespace GateAgrees

variable {i : Spout} {l : Option Load} {x : Load} {g : Gate} {c : Nat}

theorem claim (h : GateAgrees i l g c) : ClaimAgrees False i l g none [] := h.toClaimAgrees

theorem rests (h : GateAgrees i l g c) (still : ∀ x, l = some x → x.state ≠ .discharging ∧ x.state ≠ .tailing) :
    g.Rests ∧ g.command = 0 := by
  have rests := h.claim.covered.rests still
  exact ⟨rests, h.stopped rests.shut⟩

/-- A shut gate agrees with any load, its tail with a TAILING one. -/
theorem of_shut (shut : g.mode.discharging = false) (ungranted : g.pendingGrant = none) (command : g.command = 0)
    (tailing : g.tail.isSome → ∃ x, l = some x ∧ x.state = .tailing) (outbound : c = g.command) : GateAgrees i l g c where
  toClaimAgrees :=
    have covered : ClaimCovered False i l g none [] :=
      .of_unclaimed shut ungranted tailing (fun _ hq => nomatch hq) False.elim False.elim
    { covered with allocated := False.elim, asked := False.elim }
  outbound := outbound
  stopped _ := command

theorem of_rests (rests : g.Rests) (command : g.command = 0) (outbound : c = g.command) : GateAgrees i l g c :=
  of_shut rests.shut rests.ungranted command (fun n => by simp [rests.untailed] at n) outbound

/-- The gate of a DISCHARGING load may be open, or wait for a grant. -/
theorem of_discharging (discharging : x.state = .discharging) (pending : g.pendingGrant.isSome → g.mode = .closing)
    (untailed : g.tail = none) (outbound : c = g.command) (stopped : g.mode.discharging = false → g.command = 0) :
    GateAgrees i (some x) g c where
  toClaimAgrees := .of_granted discharging pending untailed (fun _ hq => nomatch hq) nofun
  outbound := outbound
  stopped := stopped

end GateAgrees

theorem gateInv_iff (s : State) : GateInv s ↔ ∀ i, GateAgreesAt i s := by
  constructor
  · intro h i
    exact
      { pendingCloses := h.pendingCloses i
        opened := h.opened i
        tailing := h.tailing i
        queued := fun _ hq => nomatch hq
        granted := nofun
        faulted := nofun
        allocated := nofun
        asked := nofun
        outbound := h.outbound i
        stopped := h.shut i }
  · exact fun h => ⟨fun i => (h i).outbound, fun i => (h i).stopped, fun i => (h i).pendingCloses,
      fun i => (h i).opened, fun i => (h i).tailing⟩

namespace GateInv

variable {s t : State}

theorem at_ (h : GateInv s) (i : Spout) : GateAgreesAt i s := (gateInv_iff s).mp h i

/-- The agreement of a spout with a load, in which the load is named. -/
theorem of_load (h : GateInv s) {i : Spout} {l : Load} (hl : loadOf s i = some l) :
    GateAgrees i (some l) (gateOf s i) (s.sli.gateCommand.get i) := hl ▸ h.at_ i

/-- A change of one spout is judged at that spout. -/
theorem at_spout (h : GateInv s) {i : Spout} (others : ∀ j ≠ i, SameAt j s t) (own : GateAgreesAt i t) : GateInv t := by
  refine (gateInv_iff t).mpr fun j => ?_
  by_cases hj : j = i
  · exact hj ▸ own
  · unfold GateAgreesAt
    rw [(others j hj).load, (others j hj).gate, (others j hj).command]
    exact h.at_ j

theorem congr (h : GateInv s) (slot : t.lm.slot = s.lm.slot := by rfl) (gate : t.gate = s.gate := by rfl)
    (command : t.sli.gateCommand = s.sli.gateCommand := by rfl) : GateInv t := by
  refine (gateInv_iff t).mpr fun i => ?_
  unfold GateAgreesAt loadOf gateOf
  rw [slot, gate, command]
  exact h.at_ i

theorem withDba (h : GateInv s) (x : Dba) : GateInv (s.withDba x) := h.congr

theorem setLoad (h : GateInv s) {i : Spout} {l : Option Load} (own : GateAgrees i l (gateOf s i) (s.sli.gateCommand.get i)) :
    GateInv (setLoad s i l) := by
  refine h.at_spout (setLoad_confined s i l).others ?_
  unfold GateAgreesAt
  rw [loadOf_setLoad_same]
  exact own

theorem setGate (h : GateInv s) {i : Spout} {g : Gate} (own : GateAgrees i (loadOf s i) g (s.sli.gateCommand.get i)) :
    GateInv (setGate s i g) := by
  refine h.at_spout (setGate_confined s i g).others ?_
  unfold GateAgreesAt
  rw [gateOf_setGate_same]
  exact own

/-- A load changed, but not in its state. -/
theorem load (h : GateInv s) {i : Spout} {l x : Load} (hl : loadOf s i = some l) (state : x.state = l.state)
    (number : x.number = l.number) (rate : x.rate = l.rate) : GateInv (Machine.setLoad s i (some x)) :=
  h.setLoad { h.of_load hl with toClaimAgrees := (h.of_load hl).claim.load state number rate }

/-! ### Holds, requests and grants -/

/-- A hold closes the gate of a DISCHARGING load, and finds the gate of any other shut (R122). -/
theorem hold (h : GateInv s) (cs : List Cause) (i : Spout) : GateInv (lmHold cs i s) := by
  by_cases hcs : cs = []
  · rw [lmHold, if_pos hcs]
    exact h
  refine h.at_spout (lmHold_confined cs i s).others ?_
  obtain ⟨closes, leaves⟩ := gateOf_lmHold hcs i s
  have own := h.at_ i
  unfold GateAgreesAt
  by_cases drawn : ∃ l, loadOf s i = some l ∧ l.state = .discharging
  · obtain ⟨l, hl, discharging⟩ := drawn
    obtain ⟨shut, ungranted, tail, -⟩ := closedGate_shut own.pendingCloses
    have untailed := (h.of_load hl).claim.covered.untailed fun x hx => by cases hx; rw [discharging]; exact nofun
    have command := closedGate_command own.stopped
    rw [(closes l hl discharging).1]
    refine .of_rests ⟨shut, ungranted, tail.trans untailed⟩ command ?_
    rw [command, lmHold_of_discharging hl discharging hcs, gateCommand_plainClose_eq]
    split
    · rfl
    · next open_ => exact own.outbound.trans (own.stopped (by simpa using open_))
  · have still : ∀ x, loadOf s i = some x → x.state ≠ .discharging := fun x hx n => drawn ⟨x, hx, n⟩
    obtain ⟨shut, ungranted⟩ := own.claim.covered.shut still
    rw [(leaves still).1, (leaves still).2, loadOf_lmHold hcs]
    refine .of_shut shut ungranted (own.stopped shut) (fun n => ?_) own.outbound
    obtain ⟨l, hl, tailing⟩ := own.tailing n
    exact ⟨l.heldBy cs, by rw [hl, Option.map_some], by simp [Load.heldBy, LoadState.records, tailing]⟩

theorem dbaRequest (h : GateInv s) (i : Spout) (l : Load) : GateInv (dbaRequest i l s) := by
  unfold Machine.dbaRequest
  split
  · exact h
  · split
    · exact h.hold _ i
    · exact h.withDba _

/-- The gate of an ARMED or HELD load is at rest, so the load may wait and ask (R121). -/
theorem asks (h : GateInv s) {i : Spout} {l x : Load} (hl : loadOf s i = some l)
    (rested : l.state = .armed ∨ l.state = .held) : GateInv (enterWaiting i (Machine.setLoad s i (some x))) := by
  have own := h.of_load hl
  obtain ⟨rests, command⟩ := own.rests fun y hy => by
    cases hy
    rcases rested with state | state <;> rw [state] <;> exact ⟨nofun, nofun⟩
  rw [enterWaiting_eq (loadOf_setLoad_same s i _), asking, setLoad_setLoad]
  exact GateInv.dbaRequest (h.setLoad (.of_rests rests command own.outbound)) i _

theorem lift (h : GateInv s) (c : Cause) (i : Spout) : GateInv (lmLift c i s) := by
  unfold lmLift
  split
  · exact h
  · next l hl =>
    split
    · next lifted =>
      dsimp only
      split
      · exact h.asks hl (.inr lifted.1)
      · exact h.load hl rfl rfl rfl
    · exact h

/-- A gate that opens for a DISCHARGING load sets its own command (R89, R90). -/
theorem gateOpen_agreesAt {i : Spout} {l : Load} (hl : loadOf s i = some l) (discharging : l.state = .discharging)
    (ungranted : (gateOf s i).pendingGrant = none) (untailed : (gateOf s i).tail = none) :
    GateAgreesAt i (gateOpen i s) := by
  obtain ⟨pending, tail⟩ := gateOf_gateOpen i s
  have opens := gateOpen_opens hl
  have outbound : (gateOpen i s).sli.gateCommand.get i = (gateOf (gateOpen i s) i).command := by
    have opened := gateOpen_opened hl
    by_cases near : remaining s i l ≤ ((working s).dribbleMassG : Int)
    · obtain ⟨-, command, sent, -⟩ := opened.near near
      exact sent.trans command.symm
    · obtain ⟨-, command, sent⟩ := opened.far near
      exact sent.trans command.symm
  unfold GateAgreesAt
  rw [loadOf_gateOpen, hl]
  refine .of_discharging discharging (fun n => by simp [pending, ungranted] at n) (tail.trans untailed) outbound fun n => ?_
  rw [opens] at n
  cases n

/-- A grant takes a WAITING load to DISCHARGING, and its gate, at rest, opens or keeps the grant for its close (R78, R90,
R91). -/
theorem grant (h : GateInv s) (q : QueuePlace) (rest : List QueuePlace) : GateInv (grant q rest s) := by
  have taken : ∀ {u : State} a, GateInv u → GateInv (grantTaken q a u) := by
    intro u a hu
    unfold grantTaken
    split
    · exact hu
    · next l hl =>
      split
      · next reaches =>
        have own := hu.of_load hl
        obtain ⟨rests, command⟩ := own.rests fun y hy => by cases hy; rw [reaches.2]; exact ⟨nofun, nofun⟩
        have discharging := hu.setLoad (l := some { l with state := .discharging })
          (.of_rests rests command own.outbound)
        refine discharging.at_spout (gateTakeGrant_confined q.spout a _).others ?_
        unfold gateTakeGrant
        split
        · exact gateOpen_agreesAt (loadOf_setLoad_same _ _ _) rfl rests.ungranted rests.untailed
        · next closing =>
          unfold GateAgreesAt
          rw [loadOf_setGate, loadOf_setLoad_same, gateOf_setGate_same]
          exact .of_discharging rfl (fun _ => closing) rests.untailed own.outbound fun _ => command
        · exact discharging.at_ q.spout
      · exact hu
  exact taken _ (h.withDba _)

/-! ### The effective budget and the revocation -/

theorem recomputeBudget (h : GateInv s) : GateInv (recomputeBudget s) := by
  have lifts : ∀ c {u}, GateInv u → GateInv (eachSpout (lmLift c) u) :=
    fun c {_} hu => eachSpout_preserves (P := GateInv) (fun i _ hv => hv.lift c i) hu
  have set : GateInv (s.withDba { s.dba with
      effectiveBudget := effectiveBudget (working s) s.dba.aerationLow s.dba.starved }) := h.withDba _
  unfold Machine.recomputeBudget lmBudgetRise
  dsimp only
  split
  · split <;> split
    · exact set
    · exact lifts _ set
    · exact lifts _ set
    · exact lifts _ (lifts _ set)
  · exact set

theorem revoke (h : GateInv s) : GateInv (revoke s) := by
  rw [revoke_eq]
  refine eachSpout_preserves (P := GateInv) (fun i u hu => ?_) (h.withDba _)
  unfold heldIfNamed
  split
  · exact hu.hold _ i
  · exact hu

theorem supply (h : GateInv s) (aerationLow starved : Bool) : GateInv (dbaSupply aerationLow starved s) := by
  have told := (h.withDba { s.dba with aerationLow := aerationLow, starved := starved }).recomputeBudget
  unfold dbaSupply
  dsimp only
  split
  · exact told.revoke
  · exact told

/-! ### The Gate Controllers -/

theorem steps (h : GateInv s) (i : Spout) : GateInv (windowStep i s) := by
  obtain ⟨mode, closing, pending⟩ := steppedGate_mode (working s) (rateOf s.dba i) (gateOf s i)
  have tail := steppedGate_tail (working s) (rateOf s.dba i) (gateOf s i)
  have own := h.at_ i
  refine h.at_spout ((setGate_confined s i _).trans (setCommand_confined i _ _)).others ?_
  unfold GateAgreesAt windowStep
  dsimp only
  rw [loadOf_setCommand, loadOf_setGate, gateOf_setCommand, if_pos rfl, gateOf_setGate_same]
  exact
    { toClaimAgrees := own.claim.gate mode (fun n => .inl (closing n)) steppedGate_fault pending fun n => tail ▸ n
      outbound := PerSpout.get_set_same _ _ _
      stopped := fun n => by
        rw [steppedGate_of_shut (mode ▸ n)]
        exact own.stopped (mode ▸ n) }

theorem dribbles (h : GateInv s) (i : Spout) (l : Load) : GateInv (dribbleTest i l s) := by
  unfold dribbleTest
  split
  · next dribbles =>
    have own := h.at_ i
    have opened : (gateOf s i).mode.discharging = true := by
      rcases dribbles.1 with mode | mode <;> rw [mode] <;> rfl
    have entered := h.setGate (i := i) (g := { gateOf s i with mode := .dribble })
      { toClaimAgrees :=
          own.claim.gate opened.symm (fun _ => .inr (own.claim.covered.ungranted opened)) nofun rfl id
        outbound := own.outbound
        stopped := nofun }
    exact entered.congr
  · exact h

/-- A gate that has closed takes the grant that waited for it (R91, R103). -/
theorem feedback (h : GateInv s) (i : Spout) (m : Mark) : GateInv (gateFeedback i m s) := by
  unfold gateFeedback
  split
  · split
    · next confirms =>
      have own := h.at_ i
      have command := own.stopped (by rw [confirms.1]; rfl)
      have shut : GateInv (Machine.setGate s i
          { gateOf s i with mode := .closed, closeTimer := none, pendingGrant := none }) :=
        h.setGate (.of_shut rfl rfl command own.tailing own.outbound)
      dsimp only
      split
      · next waits =>
        obtain ⟨l, hl, discharging⟩ := own.opened (.inr waits)
        have untailed := own.claim.covered.untailed fun x hx => by
          rw [hl] at hx; cases hx; rw [discharging]; exact nofun
        refine shut.at_spout (gateOpen_confined i _).others ?_
        exact gateOpen_agreesAt hl discharging (by rw [gateOf_setGate_same]) (by rw [gateOf_setGate_same]; exact untailed)
      · exact shut
    · exact h
  · exact h

theorem unfaults (h : GateInv s) (i : Spout) : GateInv (unfault i s) := by
  unfold unfault
  split
  · next fault =>
    have own := h.at_ i
    have shut : (gateOf s i).mode.discharging = false := by rw [fault]; rfl
    have ungranted : (gateOf s i).pendingGrant = none := by
      by_contra n
      have closing := own.pendingCloses (Option.isSome_iff_ne_none.mpr n)
      rw [fault] at closing
      cases closing
    exact h.setGate (.of_shut rfl ungranted (own.stopped shut) own.tailing own.outbound)
  · exact h

/-! ### Closes with a tail -/

/-- A cutoff shuts the gate, with the outbound command, and its load goes to TAILING (R89, R99, R131). -/
theorem cuts (h : GateInv s) {i : Spout} {x : Load} {c : Option CutoffRecord} {t : Option Tail}
    (opened : (gateOf s i).mode.discharging = true) (tailing : x.state = .tailing) :
    GateInv (Machine.setLoad (Machine.setGate (gateToClosing i s) i
      { gateOf (gateToClosing i s) i with cutoff := c, tail := t }) i (some x)) := by
  have closes : gateToClosing i s = plainClose i s := (if_pos opened).symm
  have sent : (gateToClosing i s).sli.gateCommand.get i = 0 := by rw [closes]; exact gateCommand_plainClose opened
  refine h.at_spout (((gateToClosing_confined i s).trans (setGate_confined _ i _)).trans
    (setLoad_confined _ i _)).others ?_
  unfold GateAgreesAt
  rw [loadOf_setLoad_same, gateOf_setLoad, gateOf_setGate_same, gateOf_gateToClosing]
  exact .of_shut rfl ((h.at_ i).claim.covered.ungranted opened) rfl (fun _ => ⟨x, rfl, tailing⟩) sent

/-- FINISH of a DISCHARGING load shuts the gate too, if it is open, and drops its pending grant (R102, R130). -/
theorem finishes (h : GateInv s) {i : Spout} {x : Load} (tailing : x.state = .tailing) :
    GateInv (closeWithTail i (Machine.setLoad s i (some x))) := by
  let u := Machine.setLoad s i (some x)
  have own := h.at_ i
  obtain ⟨shut, ungranted, -⟩ := closedGate_shut own.pendingCloses
  obtain ⟨tail, gate⟩ := gateOf_closeWithTail i u
  have load : loadOf (closeWithTail i u) i = some x := (loadOf_closeWithTail i u).trans (loadOf_setLoad_same s i _)
  have command := closedGate_command own.stopped
  refine h.at_spout ((setLoad_confined s i _).trans (closeWithTail_confined i u)).others ?_
  unfold GateAgreesAt
  rw [load, gate]
  refine .of_shut shut ungranted command (fun _ => ⟨x, rfl, tailing⟩) (Eq.trans ?_ command.symm)
  rw [gateCommand_closeWithTail]
  split
  · rfl
  · next open_ => exact own.outbound.trans (own.stopped (by simpa using open_))

/-! ### The ends of loads -/

/-- The end of a load whose gate is at rest, or is left so, empties its slot (R133). -/
theorem ended (h : GateInv s) {i : Spout} {l : Load} (cause : EndCause) (tailEnd : Bool) (hl : loadOf s i = some l)
    (rests : ((gatesAfterEnd i tailEnd s).get i).Rests) (command : ((gatesAfterEnd i tailEnd s).get i).command = 0)
    (sent : s.sli.gateCommand.get i = 0) : GateInv (endLoad i cause tailEnd s) := by
  obtain ⟨-, gates⟩ := endLoad_spouts cause tailEnd hl
  refine h.at_spout (fun j hj => endLoad_others hj cause tailEnd s) ?_
  unfold GateAgreesAt gateOf
  rw [gates, endLoad_sli]
  exact .of_rests rests command (sent.trans command.symm)

theorem ends (h : GateInv s) {i : Spout} {cause : EndCause}
    (still : ∀ l, loadOf s i = some l → l.state ≠ .discharging) : GateInv (endLoad i cause false s) := by
  cases hl : loadOf s i with
  | none =>
    rw [endLoad_of_none cause false hl]
    exact h
  | some l =>
    have own := h.at_ i
    obtain ⟨shut, -⟩ := own.claim.covered.shut still
    have gate : (gatesAfterEnd i false s).get i =
        { gateOf s i with tail := none, cutoff := none, pendingGrant := none } := PerSpout.get_set_same _ _ _
    refine h.ended cause false hl ?_ ?_ (own.outbound.trans (own.stopped shut)) <;> rw [gate]
    · exact ⟨shut, rfl, rfl⟩
    · exact own.stopped shut

/-- The load of a judged tail is TAILING, so its gate is shut (R107, R109). -/
theorem tailEnds (h : GateInv s) {i : Spout} {cause : EndCause} (judged : (gateOf s i).tail.isSome) :
    GateInv (endLoad i cause true (clearTail i s)) := by
  have own := h.at_ i
  obtain ⟨l, hl, tailing⟩ := own.tailing judged
  obtain ⟨shut, ungranted⟩ := own.claim.covered.shut fun x hx => by rw [hl] at hx; cases hx; rw [tailing]; exact nofun
  have command := own.stopped shut
  have cleared : GateInv (clearTail i s) := h.setGate (.of_shut shut ungranted command nofun own.outbound)
  have gate : (gatesAfterEnd i true (clearTail i s)).get i = { gateOf s i with tail := none, cutoff := none } :=
    gateOf_setGate_same s i _
  refine cleared.ended cause true (l := l) hl ?_ ?_ (own.outbound.trans command) <;> rw [gate]
  · exact ⟨shut, ungranted, rfl⟩
  · exact command

/-- A gate in FAULT is shut at command 0, and its spout has no load (R106, R135). -/
theorem faults (h : GateInv s) (i : Spout) (kind : FaultKind) : GateInv (gateFaultEnds i kind s) := by
  have own := h.at_ i
  have runs := gateFaultEnds_runsOn i kind s
  obtain ⟨mode, sent, -⟩ := faultEndedBase_at i kind s
  have idle : gateIdle (i ∈ []) (loadOf (faultEndedBase i kind s) i) (gateOf (faultEndedBase i kind s) i) := .inl mode
  have gate : (gateOf (faultEndedBase i kind s) i).Rests ∧ (gateOf (faultEndedBase i kind s) i).command = 0 := by
    have faulted : gateOf (faultedBase i kind s) i = { gateOf s i with
        mode := .fault, command := 0, closeTimer := none, pendingGrant := none, flowSum := 0, flowCount := 0 } :=
      PerSpout.get_set_same _ _ _
    unfold faultEndedBase
    split
    · next empty =>
      rw [faulted]
      exact ⟨⟨rfl, rfl, own.claim.covered.untailed fun x hx => by rw [empty] at hx; cases hx⟩, rfl⟩
    · have ended : ∀ l cause t, gateOf (endedBase i l cause t) i =
          { gateOf t i with tail := none, cutoff := none, pendingGrant := none } :=
        fun _ _ _ => PerSpout.get_set_same _ _ _
      rw [ended, faulted]
      exact ⟨⟨rfl, rfl, rfl⟩, rfl⟩
  refine h.at_spout (fun j hj => gateFaultEnds_others hj kind s) ?_
  unfold GateAgreesAt
  rw [(runs.gate i).2.2 idle, runs.command i idle]
  exact .of_rests gate.1 gate.2 (sent.trans gate.2.symm)

/-! ### New loads and restarts -/

theorem fills (h : GateInv s) {i : Spout} {x : Load} (empty : loadOf s i = none) : GateInv (Machine.setLoad s i (some x)) := by
  have own := h.at_ i
  obtain ⟨rests, command⟩ := own.rests fun y hy => by rw [empty] at hy; cases hy
  exact h.setLoad (.of_rests rests command own.outbound)

theorem resets (gate : s.gate = .all .reset) (command : s.sli.gateCommand = .all 0) : GateInv s := by
  refine (gateInv_iff s).mpr fun i => ?_
  have closed : gateOf s i = .reset := by rw [gateOf, gate, PerSpout.get_all]
  unfold GateAgreesAt
  rw [closed, command, PerSpout.get_all]
  exact .of_rests ⟨rfl, rfl, rfl⟩ rfl rfl

end GateInv

/-! ### Every step -/

theorem gateInv_closed : DischargeClosed GateInv where
  stands k h := h.congr k.slot k.gate k.command
  load hl state number rate h := h.load hl state number rate
  gate {_ i _} mode command pending tail h := h.setGate
    { toClaimAgrees :=
        (h.at_ i).claim.gate (by rw [mode]) (fun n => .inl (mode.trans n)) (fun n => mode ▸ n) pending tail
      outbound := (h.at_ i).outbound.trans command.symm
      stopped := fun n => command.trans ((h.at_ i).stopped (mode ▸ n)) }
  hold cs i h := h.hold cs i
  lift c i h := h.lift c i
  asks hl rested h := h.asks hl rested
  grants _ _ h := h.grant _ _
  supply aerationLow starved h := h.supply aerationLow starved
  rebudgets {s w} _ h := (h.congr (t := setWorking s w)).recomputeBudget
  steps i h := h.steps i
  dribbles i l h := h.dribbles i l
  feedback i m h := h.feedback i m
  cuts _ opened tailing h := h.cuts opened tailing
  finishes _ _ tailing h := h.finishes tailing
  ends still h := h.ends still
  tailEnds judged h := h.tailEnds judged
  faults i kind h := h.faults i kind
  unfaults i h := h.unfaults i
  fills empty _ _ h := h.fills empty
  resets _ gate command _ _ _ := .resets gate command

/-- Settles O3: a gate opens only as its load goes to DISCHARGING or on a grant that such a load left pending, and whatever
takes the load out of DISCHARGING closes it. -/
theorem gateInvKept : Obligations.GateInvKept := fun _ _ h run => gateInv_closed.step run h

end Sys2Proof.Machine
end

section
/-! The window step (O29): what it does to a gate in each mode, and how far it moves the command (R92 to R96). -/

namespace Sys2Proof.Machine

/-! ### The step of each mode -/

theorem steppedGate_of_opening {g : Gate} (opening : g.mode = .opening) (w : Params) (a : Nat) :
    steppedGate w a g = openingStep w a (g.flowSum / g.flowCount) (decide (g.flowCount ≠ 0))
      { g with flowSum := 0, flowCount := 0 } := by
  simp only [steppedGate, opening]

theorem steppedGate_of_regulating {g : Gate} (regulating : g.mode = .regulating) (w : Params) (a : Nat) :
    steppedGate w a g = regulatingStep w a (g.flowSum / g.flowCount) (decide (g.flowCount ≠ 0))
      { g with flowSum := 0, flowCount := 0 } := by
  simp only [steppedGate, regulating]

theorem steppedGate_of_dribble {g : Gate} (dribble : g.mode = .dribble) (w : Params) (a : Nat) :
    steppedGate w a g = dribbleStep w { g with flowSum := 0, flowCount := 0 } := by
  simp only [steppedGate, dribble]

/-- Whatever the mode, the accumulator is zero after the step (R92). -/
theorem steppedGate_flow (w : Params) (a : Nat) (g : Gate) :
    (steppedGate w a g).flowSum = 0 ∧ (steppedGate w a g).flowCount = 0 := by
  cases hm : g.mode with
  | opening =>
    rw [steppedGate_of_opening hm, openingStep]
    split <;> exact ⟨rfl, rfl⟩
  | regulating =>
    rw [steppedGate_of_regulating hm, regulatingStep]
    split <;> exact ⟨rfl, rfl⟩
  | dribble =>
    rw [steppedGate_of_dribble hm, dribbleStep]
    split <;> exact ⟨rfl, rfl⟩
  | closed => rw [steppedGate_of_shut (by rw [hm]; rfl)]; exact ⟨rfl, rfl⟩
  | closing => rw [steppedGate_of_shut (by rw [hm]; rfl)]; exact ⟨rfl, rfl⟩
  | fault => rw [steppedGate_of_shut (by rw [hm]; rfl)]; exact ⟨rfl, rfl⟩

/-! ### The correction (R94) -/

theorem regulationDelta_within (w : Params) (a mean : Nat) :
    -(w.gearStep : Int) ≤ regulationDelta w a mean ∧ regulationDelta w a mean ≤ w.gearStep := by
  unfold regulationDelta clamp
  omega

/-- The correction goes toward the allocation. -/
theorem regulationDelta_sign (w : Params) (a mean : Nat) :
    (mean ≤ a → 0 ≤ regulationDelta w a mean) ∧ (a ≤ mean → regulationDelta w a mean ≤ 0) := by
  have kp : (0 : Int) ≤ w.kp := Int.natCast_nonneg _
  unfold regulationDelta clamp
  constructor
  · intro below
    have raised : 0 ≤ (((a : Int) - mean) * w.kp).tdiv 1000 :=
      Int.tdiv_nonneg (Int.mul_nonneg (by omega) kp) (by decide)
    omega
  · intro above
    have lowered : (((a : Int) - mean) * w.kp).tdiv 1000 ≤ 0 := by
      rw [← neg_neg ((a : Int) - mean), neg_mul, Int.neg_tdiv, neg_nonpos]
      exact Int.tdiv_nonneg (Int.mul_nonneg (by omega) kp) (by decide)
    omega

/-- The command of a REGULATING gate after a step with a position counted, exactly and within its bounds. -/
theorem regulatingStep_command {w : Params} {a mean : Nat} {g : Gate} :
    ((regulatingStep w a mean true g).command : Int) =
      clamp 50 1000 ((g.command : Int) + regulationDelta w a mean) := by
  have range : 50 ≤ clamp 50 1000 ((g.command : Int) + regulationDelta w a mean) := le_max_left _ _
  rw [regulatingStep, if_pos rfl]
  exact Int.toNat_of_nonneg (by omega)

theorem regulatingStep_moves {w : Params} {a mean : Nat} {g : Gate} (low : 50 ≤ g.command) (high : g.command ≤ 1000) :
    let c := (regulatingStep w a mean true g).command
    c ≤ g.command + w.gearStep ∧ g.command ≤ c + w.gearStep ∧ (mean ≤ a → g.command ≤ c) ∧ (a ≤ mean → c ≤ g.command) := by
  intro c
  have exact_ : (c : Int) = clamp 50 1000 ((g.command : Int) + regulationDelta w a mean) := regulatingStep_command
  obtain ⟨down, up⟩ := regulationDelta_within w a mean
  obtain ⟨raises, lowers⟩ := regulationDelta_sign w a mean
  unfold clamp at exact_
  refine ⟨by omega, by omega, fun below => ?_, fun above => ?_⟩
  · have raised := raises below
    omega
  · have lowered := lowers above
    omega

/-! ### The step in the state -/

theorem gateOf_windowStep (i : Spout) (s : State) :
    gateOf (windowStep i s) i = steppedGate (working s) (rateOf s.dba i) (gateOf s i) := by
  unfold windowStep
  dsimp only
  rw [gateOf_setCommand, if_pos rfl, gateOf_setGate_same]

theorem gateCommand_windowStep (i : Spout) (s : State) :
    (windowStep i s).sli.gateCommand.get i = (gateOf (windowStep i s) i).command := by
  rw [gateOf_windowStep]
  exact PerSpout.get_set_same _ _ _

theorem windowStep_confined (i : Spout) (s : State) : Confined i s (windowStep i s) :=
  (setGate_confined s i _).trans (setCommand_confined i _ _)

/-- Settles O29: the step of each mode is read off, and the correction's bounds and sign say how far REGULATING moves. -/
theorem windowStepMovesTheGate : Obligations.WindowStepMovesTheGate := by
  intro s i w g t g' mean
  have gate : g' = steppedGate w (rateOf s.dba i) g := gateOf_windowStep i s
  have flow := steppedGate_flow w (rateOf s.dba i) g
  have others := (windowStep_confined i s).others
  refine ⟨gate ▸ flow.1, gate ▸ flow.2, gateCommand_windowStep i s, fun opening => ?_, fun regulating => ?_,
    fun dribble => ?_, fun shut => ?_, fun j hj => ⟨(others j hj).gate, (others j hj).command⟩,
    rfl, rfl, rfl, rfl, rfl, rfl, rfl⟩
  · rw [steppedGate_of_opening opening] at gate
    constructor
    · rintro ⟨counted, reached⟩
      rw [gate, openingStep, if_pos ⟨decide_eq_true (Nat.pos_iff_ne_zero.mp counted), reached⟩]
      exact ⟨rfl, rfl⟩
    · intro below
      rw [gate, openingStep, if_neg fun n => below ⟨Nat.pos_of_ne_zero (of_decide_eq_true n.1), n.2⟩]
      exact ⟨rfl, rfl⟩
  · rw [steppedGate_of_regulating regulating] at gate
    by_cases counted : g.flowCount = 0
    · have stays : g' = { g with flowSum := 0, flowCount := 0 } := by
        rw [gate, regulatingStep, if_neg (by simpa using counted)]
      rw [stays]
      exact ⟨regulating, fun _ => rfl, fun n => absurd counted (Nat.pos_iff_ne_zero.mp n)⟩
    · rw [decide_eq_true counted] at gate
      have mode : g'.mode = .regulating := by rw [gate]; exact regulating
      have command : (g'.command : Int) = clamp 50 1000 ((g.command : Int) + regulationDelta w (rateOf s.dba i) mean) := by
        rw [gate]
        exact regulatingStep_command
      refine ⟨mode, fun n => absurd n counted, fun _ => ⟨?_, ?_, command, fun low high => ?_⟩⟩
      · unfold clamp at command; omega
      · unfold clamp at command; omega
      · rw [gate]
        exact regulatingStep_moves (g := { g with flowSum := 0, flowCount := 0 }) low high
  · rw [steppedGate_of_dribble dribble, dribbleStep] at gate
    by_cases above : w.dribblePos < g.command
    · rw [if_pos above] at gate
      rw [gate, if_pos above]
      exact ⟨dribble, rfl⟩
    · rw [if_neg above] at gate
      rw [gate, if_neg above]
      exact ⟨dribble, rfl⟩
  · rw [gate, steppedGate_of_shut shut]

end Sys2Proof.Machine
end

section
/-! The holds of one spout: a request HOLD (O50), the link timer at its limit (O34) and a fall of the interlock line (O36).
What each hold leaves before the reports of its event is the statements' record, and no such report undoes it. -/

namespace Sys2Proof.Machine

/-! ### A hold and the reports of its event -/

/-- A plain close comes to the statements' close order, but for the allocation released and the departure from DRIBBLE
(R102, R156). -/
theorem orderClosed_runsOn (i : Spout) (s : State) : RunsOn [] (orderClosed i s) (plainClose i s) := by
  have released : (plainClose i s).dba = { s.dba with allocation := (plainClose i s).dba.allocation } := by
    unfold plainClose
    split
    · rw [gateToClosing_dba]
      rfl
    · split
      · unfold dropPending
        split <;> rfl
      · rfl
  have dba : RunsOn [] (orderClosed i s) ((orderClosed i s).withDba (plainClose i s).dba) :=
    withDba_runsOn (by rw [released]; rfl)
  rw [plainClose_eq]
  exact dba.trans (leftDribble_runsOn [] _ i _)

/-- A hold comes to the statements' record, but for the claim given up and the departure from DRIBBLE (R122). -/
theorem lmHold_heldBase_runsOn {c : Cause} {i : Spout} {l : Load} {s : State} (hl : loadOf s i = some l)
    (records : recordsHolds l.state) : RunsOn [] (heldBase c i l s) (lmHold [c] i s) := by
  have hcs : [c] ≠ [] := List.cons_ne_nil c []
  let x : Load := { l with state := .held, causes := l.causes.put c true }
  rcases records with waiting | discharging | held
  · have base : heldBase c i l s = setLoad s i (some x) := by
      rw [heldBase, if_neg (by rw [waiting]; exact nofun)]
      rfl
    have holds : lmHold [c] i s = dbaRemoval i (setLoad s i (some x)) := by
      simp only [lmHold, if_neg hcs, hl, waiting]
      rfl
    rw [base, holds]
    exact dbaRemoval_runsOn [] _ i
  · have base : heldBase c i l s = orderClosed i (setLoad s i (some x)) := by
      rw [heldBase, if_pos discharging]
      rfl
    have holds : lmHold [c] i s = plainClose i (setLoad s i (some x)) := lmHold_of_discharging hl discharging hcs
    rw [base, holds]
    exact orderClosed_runsOn i _
  · have base : heldBase c i l s = setLoad s i (some x) := by
      rw [heldBase, if_neg (by rw [held]; exact nofun)]
      rfl
    have holds : lmHold [c] i s = setLoad s i (some x) := by
      simp only [lmHold, if_neg hcs, hl, held]
      rfl
    rw [base, holds]
    exact .refl _ _

/-- What a hold leaves at its spout when the reports of its event have run to their end. -/
structure HoldTaken (c : Cause) (i : Spout) (l : Load) (s t : State) : Prop where
  load : ∃ x, loadOf t i = some x ∧ x.state = .held ∧ x.causes.has c = true
  closed : l.state = .discharging → gateOf t i = closedGate (gateOf s i) ∧
    ((gateOf s i).mode.discharging = true → t.sli.gateCommand.get i = 0) ∧ LeavesDribble i s t
  stands : l.state ≠ .discharging →
    gateOf t i = gateOf s i ∧ t.sli.gateCommand.get i = s.sli.gateCommand.get i

/-- No report of the event takes the cause away again, SENSOR apart. -/
theorem Unheld.taken {c : Cause} {i : Spout} {l : Load} {s u : State} (h : Unheld i l s u)
    (records : recordsHolds l.state) (other : c ≠ .sensor) : HoldTaken c i l s (settle (lmHold [c] i u)) := by
  have hcs : [c] ≠ [] := List.cons_ne_nil c []
  have holds := h.held records hcs
  have load : loadOf (lmHold [c] i u) i = some (l.heldBy [c]) := by rw [loadOf_lmHold hcs, h.load, Option.map_some]
  have recorded := (recordsHolds_iff _).mp records
  have under : HeldUnder c i (lmHold [c] i u) (settle (lmHold [c] i u)) := by
    refine HeldUnder.settle ⟨⟨_, load, ?_, heldBy_has (.inr ⟨recorded, List.mem_cons_self⟩)⟩, rfl, rfl, rfl⟩ other
    rw [Load.heldBy, if_pos recorded]
  refine ⟨under.load, fun discharging => ?_, fun still => ?_⟩
  · obtain ⟨gate, command, leaves⟩ := holds.closed discharging
    exact ⟨under.gate.trans gate, fun n => under.command.trans (command n),
      leaves.runsOn (settle_runsOn [] _) under.dribble.trans⟩
  · obtain ⟨gate, command⟩ := (gateOf_lmHold hcs i u).2 fun x hx => by
      rw [h.load] at hx
      cases hx
      exact still
    exact ⟨under.gate.trans (gate.trans h.gate), under.command.trans (command.trans h.command)⟩

/-- A HELD load has no claim (R77, R80). -/
theorem HoldTaken.noClaim {c : Cause} {i : Spout} {l : Load} {s t : State} (h : HoldTaken c i l s t)
    (claims : ClaimsAgree True t) : noClaim i t := by
  obtain ⟨x, hx, held, -⟩ := h.load
  refine (claims.agrees i).covered.noClaim fun y hy => ?_
  rw [hx] at hy
  cases hy
  rw [held]
  exact ⟨nofun, nofun⟩

/-- A command leaves the claims in agreement with the loads and the gates. -/
theorem GrantsAgree.claimsAgree_exec {c : Instr} {s t : State} (h : GrantsAgree s) (run : exec c s = .next t) :
    ClaimsAgree True t :=
  ((claimsFit_closed True).exec c run h.claimsFit).1

/-! ### HOLD (O50) -/

theorem answer_withRequest (i : Spout) (c : Instr) (kind : Byte) (r : Result) (fields : List Byte) {s t : State}
    (pc : t.pc = s.pc) : answer (.bay i) kind r fields { t with pc := (bayInProgress i c s).pc } =
      onBay i c (kind ||| 0x80) r fields t := by
  simp only [answer, setPort, portOf, bayInProgress, onBay, answered, State.withPc, PerSpout.get_set_same,
    PerSpout.set_set, pc]

theorem heldBase_withPc (c : Cause) (i : Spout) (l : Load) (s : State) (x : Pc) :
    heldBase c i l { s with pc := x } = { heldBase c i l s with pc := x } := by
  unfold heldBase
  split <;> rfl

theorem heldBase_pc (c : Cause) (i : Spout) (l : Load) (s : State) : (heldBase c i l s).pc = s.pc := by
  unfold heldBase
  split <;> rfl

theorem holdLoad_of_records {i : Spout} {l : Load} {s : State} (hl : loadOf s i = some l)
    (records : recordsHolds l.state) : holdLoad i s = accept (settle (lmHold [.bay] i s)) := by
  rcases records with state | state | state <;> simp only [holdLoad, hl, state]

/-- Settles O50: the request is a hold with BAY, answered beside the reports of its event. -/
theorem holdHoldsTheLoad : Obligations.HoldHoldsTheLoad := by
  intro s i l running hl records taken
  let u := bayInProgress i (.hold (.bay i) 1) s
  have run : exec (.hold (.bay i) 1) s = .next (answer (.bay i) 0x12 .ok [] (settle (lmHold [.bay] i u))) :=
    whileRunning_serveBay running taken (holdLoad_of_records (s := u) hl records)
  have begun : Unheld i l s u := ⟨hl, rfl, rfl, fun deferred others => .inl ⟨deferred, others⟩⟩
  obtain ⟨load, closed, stands⟩ := begun.taken (c := .bay) records nofun
  refine ⟨_, run, ?_, load, closed, stands, fun agree =>
    HoldTaken.noClaim (l := l) (s := s) ⟨load, closed, stands⟩ (agree.claimsAgree_exec run)⟩
  have runs : RunsOn [] (heldBase .bay i l u) (settle (lmHold [.bay] i u)) :=
    (lmHold_heldBase_runsOn (s := u) hl records).trans (settle_runsOn [] _)
  have base : answer (.bay i) 0x12 .ok [] (heldBase .bay i l u) =
      onBay i (.hold (.bay i) 1) 0x92 .ok [] (heldBase .bay i l (bayTaken i s)) := by
    rw [show u = { bayTaken i s with pc := u.pc } from rfl, heldBase_withPc]
    exact answer_withRequest i _ 0x12 .ok [] (heldBase_pc .bay i l (bayTaken i s))
  exact base ▸ runs.answeredAt i 0x12 .ok []

/-! ### The interlock line (O36) -/

theorem heldBase_setLoad (c : Cause) {i : Spout} (l : Load) {x : Option Load} (s : State) :
    heldBase c i l (setLoad s i x) = heldBase c i l s := by
  unfold heldBase orderClosed setLoad
  split
  · simp only [State.withLm, PerSpout.set_set]
    rfl
  · simp only [State.withLm, PerSpout.set_set]

theorem exec_interlockFallingEdge {s : State} (running : s.power = .running) (i : Spout) :
    exec (.interlockFallingEdge i) s = .next (settle (lmHold [.interlock] i (countTrip i (setInterlock i false s)))) :=
  if_pos running

theorem countTrip_of_records {i : Spout} {l : Load} {s : State} (hl : loadOf s i = some l)
    (records : recordsHolds l.state) :
    countTrip i s = setLoad s i (some { l with trips := min 255 (l.trips + 1) }) := by
  simp only [countTrip, hl, if_pos ((recordsHolds_iff _).mp records), satAdd]

theorem countTrip_of_unrecorded {i : Spout} {s : State}
    (unrecorded : ∀ l, loadOf s i = some l → ¬ recordsHolds l.state) : countTrip i s = s := by
  cases hl : loadOf s i with
  | none => simp only [countTrip, hl]
  | some l => simp only [countTrip, hl, if_neg (mt (recordsHolds_iff _).mpr (unrecorded l hl))]

/-- A hold finds nothing to hold in a slot that is empty, or whose load records no hold (R122). -/
theorem lmHold_of_stays {i : Spout} {s : State} (unrecorded : ∀ l, loadOf s i = some l → ¬ recordsHolds l.state)
    (cs : List Cause) : lmHold cs i s = s := by
  cases hl : loadOf s i with
  | none => simp only [lmHold, hl, ite_self]
  | some l => exact lmHold_of_unrecorded hl (unrecorded l hl) cs

/-- Settles O36: a fall is a hold with INTERLOCK of the load with one more trip. -/
theorem interlockEdgesActOnTheirSpout : Obligations.InterlockEdgesActOnTheirSpout := by
  intro s i running
  let low := setInterlock i false s
  refine ⟨if_pos running, fun l hl records => ?_, fun unrecorded => ?_⟩
  · let tripped : Load := { l with trips := min 255 (l.trips + 1) }
    have run : exec (.interlockFallingEdge i) s =
        .next (settle (lmHold [.interlock] i (setLoad low i (some tripped)))) := by
      rw [exec_interlockFallingEdge running, countTrip_of_records (s := low) hl records]
    have load : loadOf (setLoad low i (some tripped)) i = some tripped := loadOf_setLoad_same low i _
    have begun : Unheld i tripped s (setLoad low i (some tripped)) :=
      ⟨load, rfl, rfl, fun deferred others => .inl ⟨deferred, others⟩⟩
    have taken := begun.taken (c := .interlock) records nofun
    refine ⟨_, run, ?_, fun agree => taken.noClaim (agree.claimsAgree_exec run), taken.closed⟩
    have runs : RunsOn [] (heldBase .interlock i tripped (setLoad low i (some tripped)))
        (settle (lmHold [.interlock] i (setLoad low i (some tripped)))) :=
      (lmHold_heldBase_runsOn load records).trans (settle_runsOn [] _)
    rw [heldBase_setLoad] at runs
    exact runs
  · refine ⟨_, exec_interlockFallingEdge running i, ?_⟩
    rw [countTrip_of_unrecorded (s := low) unrecorded, lmHold_of_stays (s := low) unrecorded]
    exact settle_runsOn [] low

/-! ### The link timer and the hold limit (O34) -/

theorem exec_linkTimerExpiry {s : State} (running : s.power = .running) (i : Spout) :
    exec (.linkTimerExpiry i) s = .next (if linkDue s i then linkExpires i s else s) := if_pos running

theorem exec_holdExpired {s : State} (running : s.power = .running) (i : Spout) :
    exec (.holdExpired i) s = .next (if holdDue s i then settle (endLoad i .holdExpired false s) else s) := if_pos running

/-- A request that its port takes starts the link timer of a load again, so that it is not at its limit (R128, R173). -/
theorem linkTimerExpiry_of_taken {i : Spout} {s u : State} (running : u.power = .running)
    (loaded : (s.lm.slot.get i).isSome) (lm : u.lm = (bayTaken i s).lm) : exec (.linkTimerExpiry i) u = .next u := by
  have started : u.lm.linkTimer.get i = some 0 := by
    rw [lm, bayTaken, if_pos loaded]
    exact PerSpout.get_set_same _ _ _
  rw [exec_linkTimerExpiry running, if_neg]
  rw [linkDue_iff, started]
  rintro ⟨limited, n, hn, reached⟩
  cases hn
  exact limited (Nat.le_zero.mp reached)

/-- The end of a load comes to the statements' record, but for the claim given up (R133). -/
theorem endLoad_runsOn {i : Spout} {l : Load} (cause : EndCause) {s : State} (hl : loadOf s i = some l) :
    RunsOn [] (endedBase i l cause s) (endLoad i cause false s) := by
  rw [endLoad_eq cause hl]
  exact withDba_runsOn (by rw [gateLoadEnded_dba, removedClaim_eq]; rfl)

/-- An ended load has no claim left when the reports of its event have run to their end, a place in the queue being a
WAITING load's only (R77, R80, R81, R133). -/
theorem settle_endLoad_noClaim {i : Spout} {l : Load} (cause : EndCause) {s : State} (hl : loadOf s i = some l)
    (queued : ∀ q ∈ s.dba.queue, q.spout = i → ∃ x, loadOf s i = some x ∧ x.state = .waiting) :
    noClaim i (settle (endLoad i cause false s)) := by
  have emptied : loadOf (endLoad i cause false s) i = none := by
    rw [loadOf, (endLoad_spouts cause false hl).1]
    exact PerSpout.get_set_same _ _ _
  refine settle_noClaim emptied (endLoad_noClaim cause hl fun q hq hi => ?_)
  obtain ⟨x, hx, waiting⟩ := queued q hq hi
  rw [hl] at hx
  cases hx
  exact waiting

/-- Settles O34: at its limit the link timer is a hold with LINK, and a load past its hold limit ends. -/
theorem linkAndHoldLimitsActOnTheLoad : Obligations.LinkAndHoldLimitsActOnTheLoad := by
  intro s i running
  dsimp only
  let stopped := s.withLm { s.lm with linkTimer := s.lm.linkTimer.set i none }
  refine ⟨fun early => ?_, fun due => ?_, fun l hl taken => ?_, fun l hl held limited beyond => ?_, fun within => ?_⟩
  · rw [exec_linkTimerExpiry running, if_neg (mt (linkDue_iff s i).mp early)]
  · have run : exec (.linkTimerExpiry i) s = .next (settle (lmHold [.link] i stopped)) := by
      rw [exec_linkTimerExpiry running, if_pos ((linkDue_iff s i).mpr due)]
      rfl
    constructor
    · intro l hl records
      have begun : Unheld i l s stopped := ⟨hl, rfl, rfl, fun deferred others => .inl ⟨deferred, others⟩⟩
      have taken := begun.taken (c := .link) records nofun
      exact ⟨_, run, (lmHold_heldBase_runsOn (s := stopped) hl records).trans (settle_runsOn [] _),
        fun agree => taken.noClaim (agree.claimsAgree_exec run), taken.closed⟩
    · intro unrecorded
      rw [lmHold_of_stays (s := stopped) unrecorded] at run
      exact ⟨_, run, settle_runsOn [] stopped⟩
  · have run := whileRunning_serveBay (kind := 0x15) (len := 1) (act := spoutStatus) running taken rfl
    exact ⟨_, run, linkTimerExpiry_of_taken (s := s) running (Option.isSome_iff_exists.mpr ⟨l, hl⟩) rfl⟩
  · have due := (holdDue_iff s i).mpr ⟨l, hl, held, limited, beyond⟩
    refine ⟨_, (exec_holdExpired running i).trans (by rw [if_pos due]), ?_,
      fun agree => settle_endLoad_noClaim .holdExpired hl (agree.claim i).2⟩
    exact (endLoad_runsOn .holdExpired hl).trans (settle_runsOn [] _)
  · rw [exec_holdExpired running, if_neg]
    rw [holdDue_iff]
    rintro ⟨l, hl, held, limited, beyond⟩
    exact absurd (within l hl held limited) (not_le.mpr beyond)

end Sys2Proof.Machine
end

section
/-! A close that takes its load to TAILING: FINISH (O51), and the tail it begins. -/

namespace Sys2Proof.Machine

/-! ### A spout whose load is TAILING -/

/-- Spout `i` stands as state `s` left it. -/
structure SpoutStands (i : Spout) (s t : State) : Prop where
  load : loadOf t i = loadOf s i
  gate : gateOf t i = gateOf s i
  command : t.sli.gateCommand.get i = s.sli.gateCommand.get i
  dribble : t.bsc.dribbleSet.get i = s.bsc.dribbleSet.get i

theorem SpoutStands.refl (i : Spout) (s : State) : SpoutStands i s s := ⟨rfl, rfl, rfl, rfl⟩

theorem SpoutStands.trans {i : Spout} {s t u : State} (h : SpoutStands i s t) (k : SpoutStands i t u) :
    SpoutStands i s u :=
  ⟨k.load.trans h.load, k.gate.trans h.gate, k.command.trans h.command, k.dribble.trans h.dribble⟩

theorem SameAt.spoutStands {i : Spout} {s t : State} (h : SameAt i s t) : SpoutStands i s t :=
  ⟨h.load, h.gate, h.command, h.dribble⟩

/-- A demand holds and lifts nothing where the load is TAILING (R122, R125). -/
theorem demandChanged_of_tailing {i : Spout} {l : Load} {s : State} (hl : loadOf s i = some l)
    (tailing : l.state = .tailing) (before after : PerSpout Bool) : demandChanged before after i s = s := by
  have unrecorded : ¬ recordsHolds l.state := by
    rw [tailing]
    rintro (n | n | n) <;> cases n
  have unheld : ¬ (l.state = .held ∧ l.causes.has .sensor = true) := fun n => by
    rw [tailing] at n
    cases n.1
  unfold demandChanged
  split
  · exact lmHold_of_unrecorded hl unrecorded _
  · split
    · exact lmLift_of_stays hl unheld
    · rfl

/-- No report of an event reaches a spout whose load is TAILING. -/
theorem settle_of_tailing {i : Spout} {l : Load} {s : State} (hl : loadOf s i = some l) (tailing : l.state = .tailing) :
    SpoutStands i s (settle s) := by
  refine settle_preserves (Q := SpoutStands i s) (fun t ht => ?_) (fun t ht => ?_) (.refl i s)
  · obtain ⟨load, gate, command, dribble⟩ := examine_of_not_waiting (s := t) (i := i) fun x hx => by
      rw [ht.load, hl] at hx
      cases hx
      rw [tailing]
      exact nofun
    exact ht.trans ⟨load, gate, command, dribble⟩
  · obtain ⟨u, before, after⟩ := rejudge_at t i
    rw [demandChanged_of_tailing ((before.load.trans ht.load).trans hl) tailing] at after
    exact (ht.trans before.spoutStands).trans after.spoutStands

/-- A TAILING load has no claim (R77, R80). -/
theorem ClaimsAgree.noClaim_of_tailing {i : Spout} {l : Load} {s : State} (h : ClaimsAgree True s)
    (hl : loadOf s i = some l) (tailing : l.state = .tailing) : noClaim i s := by
  refine (h.agrees i).covered.noClaim fun x hx => ?_
  rw [hl] at hx
  cases hx
  rw [tailing]
  exact ⟨nofun, nofun⟩

/-! ### A close into a tail -/

/-- The load of spout `i` becomes `x` and its gate, after a plain close, `g`. -/
def closedInto (i : Spout) (x : Load) (g : Gate) (s : State) : State :=
  setGate (plainClose i (setLoad s i (some x))) i g

/-- What runs on beside a gate runs on under another gate, if it leaves the command. -/
theorem RunsOn.setGate {acts : List Spout} {s t : State} (h : RunsOn acts s t) (i : Spout) (g : Gate)
    (command : t.sli.gateCommand.get i = s.sli.gateCommand.get i) :
    RunsOn acts (setGate s i g) (setGate t i g) := by
  have gate : ∀ j, GateRunsOn (j ∈ acts) (loadOf s j) (gateOf (Machine.setGate s i g) j)
      (gateOf (Machine.setGate t i g) j) := by
    intro j
    by_cases hj : j = i
    · subst hj
      have stands := (RunsOn.refl acts (Machine.setGate s j g)).gate j
      rw [gateOf_setGate_same] at stands ⊢
      rw [gateOf_setGate_same]
      exact stands
    · rw [gateOf_setGate_other _ _ hj, gateOf_setGate_other _ _ hj]
      exact h.gate j
  refine { h with gate := gate, command := fun j idle => ?_ }
  by_cases hj : j = i
  · exact hj ▸ command
  · rw [gateOf_setGate_other _ _ hj] at idle
    exact h.command j idle

theorem closedInto_runsOn (i : Spout) (x : Load) (g : Gate) (s : State) :
    RunsOn [] (setGate (orderClosed i (setLoad s i (some x))) i g) (settle (closedInto i x g s)) := by
  refine .trans ((orderClosed_runsOn i _).setGate i g ?_) (settle_runsOn [] _)
  rw [gateCommand_plainClose_eq]
  unfold orderClosed
  split
  · exact (PerSpout.get_set_same _ _ _).symm
  · rfl

theorem loadOf_closedInto (i : Spout) (x : Load) (g : Gate) (s : State) : loadOf (closedInto i x g s) i = some x := by
  rw [closedInto, plainClose_setLoad]
  exact loadOf_setLoad_same _ _ _

/-- What the close comes to, as the statements write it. -/
theorem closedBase_eq (i : Spout) (x : Load) (g : Gate) (s : State) : setGate (orderClosed i (setLoad s i (some x))) i g =
    { orderClosed i s with
      gate := s.gate.set i g
      lm := { s.lm with slot := s.lm.slot.set i (some x) } } := by
  simp only [setGate, orderClosed, PerSpout.set_set]
  rfl

/-- The close is the gate's departure from DRIBBLE, which the reports of the event leave so (R156, R159). -/
theorem closedInto_leavesDribble {i : Spout} {x : Load} {g : Gate} {s : State} (tailing : x.state = .tailing) :
    LeavesDribble i s (settle (closedInto i x g s)) := by
  have leaves : LeavesDribble i s (closedInto i x g s) :=
    plainClose_leavesDribble (t := setLoad s i (some x)) rfl fun deferred others => .inl ⟨deferred, others⟩
  exact leaves.runsOn (settle_runsOn [] _) (settle_of_tailing (loadOf_closedInto i x g s) tailing).dribble.trans

/-! ### FINISH (O51) -/

theorem finishLoad_of_discharging {i : Spout} {l : Load} {s : State} (hl : loadOf s i = some l)
    (discharging : l.state = .discharging) (closes : (gateOf s i).mode.discharging = true ∨
      (gateOf s i).mode = .closing ∧ (gateOf s i).pendingGrant.isSome) :
    finishLoad i s = accept (settle (closedInto i { l with state := .tailing, finished := true }
      { closedGate (gateOf s i) with tail := some { kind := .finished, timer := 0, lowCount := 0, spoiled := false } } s)) := by
  simp only [finishLoad, hl, discharging]
  rw [closeWithTail_eq (s := setLoad s i _) closes, beginTail, gateOf_plainClose]
  rfl

theorem finishLoad_of_still {i : Spout} {l : Load} {s : State} (hl : loadOf s i = some l)
    (still : l.state = .armed ∨ l.state = .waiting ∨ l.state = .held) :
    finishLoad i s = accept (settle (endLoad i .finished false s)) := by
  rcases still with state | state | state <;> simp only [finishLoad, hl, state]

theorem endedBase_withPc (i : Spout) (l : Load) (cause : EndCause) (s : State) (x : Pc) :
    endedBase i l cause { s with pc := x } = { endedBase i l cause s with pc := x } := by
  have completed : (complete i l cause { s with pc := x }).ots = (complete i l cause s).ots :=
    complete_ots_congr i l cause rfl
  rw [endedBase, completed]
  rfl

/-- Settles O51: a DISCHARGING load's close begins a tail, and any other load ends, each answered beside the reports of
the event. -/
theorem finishEndsOrClosesWithTail : Obligations.FinishEndsOrClosesWithTail := by
  intro s i l running hl taken
  dsimp only
  let u := bayInProgress i (.finish (.bay i) 1) s
  refine ⟨fun discharging closes => ?_, fun still => ?_⟩
  · let x : Load := { l with state := .tailing, finished := true }
    let g : Gate := { closedGate (gateOf s i) with
      tail := some { kind := .finished, timer := 0, lowCount := 0, spoiled := false } }
    have run : exec (.finish (.bay i) 1) s = .next (answer (.bay i) 0x14 .ok [] (settle (closedInto i x g u))) :=
      whileRunning_serveBay running taken (finishLoad_of_discharging (s := u) hl discharging closes)
    refine ⟨_, run, ?_, fun agree => ?_, closedInto_leavesDribble (s := u) (x := x) rfl⟩
    · have base : answer (.bay i) 0x14 .ok [] (setGate (orderClosed i (setLoad u i (some x))) i g) =
          onBay i (.finish (.bay i) 1) 0x94 .ok [] (setGate (orderClosed i (setLoad (bayTaken i s) i (some x))) i g) :=
        answer_withRequest (s := s) (t := setGate (orderClosed i (setLoad (bayTaken i s) i (some x))) i g)
          i _ 0x14 .ok [] rfl
      rw [closedBase_eq i x g (bayTaken i s)] at base
      exact base ▸ (closedInto_runsOn i x g u).answeredAt i 0x14 .ok []
    · have load : loadOf (settle (closedInto i x g u)) i = some x :=
        (settle_of_tailing (loadOf_closedInto i x g u) rfl).load.trans (loadOf_closedInto i x g u)
      exact (agree.claimsAgree_exec run).noClaim_of_tailing load rfl
  · have run : exec (.finish (.bay i) 1) s = .next (answer (.bay i) 0x14 .ok [] (settle (endLoad i .finished false u))) :=
      whileRunning_serveBay running taken (finishLoad_of_still (s := u) hl still)
    refine ⟨_, run, ?_, fun agree => settle_endLoad_noClaim (s := u) .finished hl (agree.claim i).2⟩
    have runs : RunsOn [] (endedBase i l .finished u) (settle (endLoad i .finished false u)) :=
      (endLoad_runsOn (s := u) .finished hl).trans (settle_runsOn [] _)
    have base : answer (.bay i) 0x14 .ok [] (endedBase i l .finished u) =
        onBay i (.finish (.bay i) 1) 0x94 .ok [] (endedBase i l .finished (bayTaken i s)) := by
      rw [show u = { bayTaken i s with pc := u.pc } from rfl, endedBase_withPc]
      exact answer_withRequest i _ 0x14 .ok [] rfl
    exact base ▸ runs.answeredAt i 0x14 .ok []

end Sys2Proof.Machine
end

section
/-! The two ends of a tail (O31): what the load's end leaves, and what the tail has taught (R107 to R114). -/

namespace Sys2Proof.Machine

/-! ### The tail-learning step -/

/-- The tail time after a tail of kind and spoil `x` (R111, R112). -/
def tauAfter (tau : Nat) (x : Tail) (cutoff : Option CutoffRecord) (d : Nat) : Nat :=
  match cutoff with
  | some c => if tailLearns x c then learnedTail tau c d else tau
  | none => tau

/-- The parameters after the tail-learning step (R112). -/
def pmAfterTail (i : Spout) (l : Load) (x : Tail) (s : State) : Pm :=
  { s.pm with working := { s.pm.working with
    tailMs := s.pm.working.tailMs.set i (tauAfter (s.pm.working.tailMs.get i) x (gateOf s i).cutoff l.d) } }

theorem learnTail_tail {i : Spout} {l : Load} {s : State} {x : Tail} (tail : (gateOf s i).tail = some x) :
    learnTail i l s = s.withPm (pmAfterTail i l x s) := by
  cases cutoff : (gateOf s i).cutoff with
  | none =>
    simp only [learnTail, tail, cutoff, pmAfterTail, tauAfter, PerSpout.set_get]
    rfl
  | some c =>
    by_cases learns : tailLearns x c = true
    · simp only [learnTail, tail, cutoff, pmAfterTail, tauAfter, if_pos learns]
      rfl
    · simp only [learnTail, tail, cutoff, pmAfterTail, tauAfter, if_neg learns, PerSpout.set_get]
      rfl

/-- A CUTOFF tail of 5,000 g/s or more that is not spoiled moves τ a quarter of the way to what it observed (R111,
R112). -/
theorem tauAfter_some (tau : Nat) (x : Tail) (c : CutoffRecord) (d : Nat) : tauAfter tau x (some c) d =
    if x.kind = .cutoff ∧ 5000 ≤ c.qCut ∧ x.spoiled = false then
      (max 0 (min 4000 ((tau : Int) + (((((d : Int) - c.dCut).toNat * 1000 / c.qCut : Nat) : Int) - tau).tdiv 4))).toNat
    else tau := by
  have learns : tailLearns x c = true ↔ x.kind = .cutoff ∧ 5000 ≤ c.qCut ∧ x.spoiled = false := by
    simp [tailLearns, and_assoc]
  simp only [tauAfter, learns]
  rfl

/-! ### The end of a tail -/

/-- The end of a load at its tail's end is the record of R133, but for the gate, which was reported already, and the
DBA's part. -/
theorem endLoad_tail_eq {i : Spout} {l : Load} (cause : EndCause) {s : State} (hl : loadOf s i = some l) :
    endLoad i cause true s = { endedBase i l cause s with gate := s.gate, dba := (removedClaim i l s).dba } := by
  have unfolded : endLoad i cause true s =
      emptySlot i (complete i l cause (oauLoadEnded i l.number (removedClaim i l s))) := by
    simp only [endLoad, hl, removedClaim, if_true]
  rw [unfolded, complete_eq, oauLoadEnded_eq, complete_ots_congr i l cause (t := s), removedClaim_eq]
  · rfl
  · rw [removedClaim_eq]
    rfl

/-- The end of a load reads neither the gates nor the parameters for more than it replaces. -/
theorem endedBase_replaced (i : Spout) (l : Load) (cause : EndCause) (s : State) (gate newGate : PerSpout Gate)
    (pm newPm : Pm) (newDba : Dba) :
    { endedBase i l cause { s with gate := gate, pm := pm } with gate := newGate, pm := newPm, dba := newDba } =
      { endedBase i l cause s with gate := newGate, pm := newPm, dba := newDba } := by
  have completed : (complete i l cause { s with gate := gate, pm := pm }).ots = (complete i l cause s).ots :=
    complete_ots_congr i l cause rfl
  unfold endedBase
  rw [completed]

theorem removedClaim_dba_congr {i : Spout} {l : Load} {s t : State} (h : s.dba = t.dba) :
    (removedClaim i l s).dba = (removedClaim i l t).dba := by
  unfold removedClaim dbaRemoval
  rw [h]
  split
  · rfl
  · exact h

/-- The DBA's removal leaves the spout without a claim, a place in the queue being a WAITING load's only. -/
theorem removedClaim_noClaim {i : Spout} {l : Load} {s : State}
    (queued : ∀ q ∈ s.dba.queue, q.spout = i → l.state = .waiting) : noClaim i (removedClaim i l s) := by
  unfold removedClaim
  split
  · refine ⟨PerSpout.get_set_same _ _ _, fun q hm => ?_⟩
    simp only [dbaRemoval, State.withDba_dba, List.mem_filter, decide_eq_true_eq] at hm
    exact hm.2
  · next h =>
    obtain ⟨unwaiting, free⟩ := not_or.mp h
    exact ⟨Option.not_isSome_iff_eq_none.mp free, fun q hm hs => unwaiting (queued q hm hs)⟩

/-- The gates with the tail state and the cutoff record of spout `i` cleared (R109). -/
def gatesCleared (i : Spout) (s : State) : PerSpout Gate :=
  s.gate.set i { gateOf s i with tail := none, cutoff := none }

/-- What a tail's end leaves before the reports of its event (R109, R112, R133). -/
def tailEnded (i : Spout) (l : Load) (x : Tail) (s : State) : State :=
  { endedBase i l (if l.finished then .finished else .cutoff) s with
    gate := gatesCleared i s, pm := pmAfterTail i l x s }

section
variable {i : Spout} {l : Load} {x : Tail} {s : State}

theorem tailEnds_eq (hl : loadOf s i = some l) (tail : (gateOf s i).tail = some x) :
    tailEnds i s = settle ((tailEnded i l x s).withDba (removedClaim i l s).dba) := by
  have load : loadOf (clearTail i (learnTail i l s)) i = some l := by
    rw [learnTail_tail tail]
    exact hl
  rw [tailEnds, hl]
  dsimp only
  have ended := endLoad_tail_eq (if l.finished then .finished else .cutoff) load
  rw [removedClaim_dba_congr (t := s) (by rw [learnTail_tail tail]; rfl), learnTail_tail tail] at ended
  rw [learnTail_tail tail, ended]
  exact congrArg settle (endedBase_replaced i l _ s (gatesCleared i s) (gatesCleared i s)
    (pmAfterTail i l x s) (pmAfterTail i l x s) _)

theorem tailEnds_runsOn (hl : loadOf s i = some l) (tail : (gateOf s i).tail = some x) :
    RunsOn [] (tailEnded i l x s) (tailEnds i s) := by
  rw [tailEnds_eq hl tail]
  exact .trans (withDba_runsOn (by rw [removedClaim_eq]; rfl)) (settle_runsOn [] _)

theorem tailEnds_noClaim (hl : loadOf s i = some l) (tail : (gateOf s i).tail = some x)
    (queued : ∀ q ∈ s.dba.queue, q.spout = i → ∃ y, loadOf s i = some y ∧ y.state = .waiting) :
    noClaim i (tailEnds i s) := by
  rw [tailEnds_eq hl tail]
  refine settle_noClaim (PerSpout.get_set_same _ _ _) (removedClaim_noClaim fun q hq hi => ?_)
  obtain ⟨y, hy, waiting⟩ := queued q hq hi
  rw [hl] at hy
  cases hy
  exact waiting

/-- A tail that its last position has marked ends as the same record. -/
theorem tailEnded_setGate (y : Tail) :
    tailEnded i l x (setGate s i { gateOf s i with tail := some y }) = tailEnded i l x s := by
  let u := setGate s i { gateOf s i with tail := some y }
  have gate : gatesCleared i u = gatesCleared i s := by
    rw [gatesCleared, gateOf_setGate_same]
    exact PerSpout.set_set _ _ _ _
  have pm : pmAfterTail i l x u = pmAfterTail i l x s := by
    rw [pmAfterTail, gateOf_setGate_same]
    rfl
  rw [tailEnded, gate, pm]
  exact endedBase_replaced i l _ s _ _ s.pm _ s.dba

end

theorem exec_tailTimerExpiry {s : State} (running : s.power = .running) (i : Spout) :
    exec (.tailTimerExpiry i) s = .next (if tailDue s i then tailEnds i s else s) := if_pos running

/-- Settles O31: the expiry and the fifth position in a row end the load in the same way. -/
theorem tailTimerEndsTheLoad : Obligations.TailTimerEndsTheLoad := by
  intro s i l x hl w learned ended
  have base : ∀ y : Tail, y.kind = x.kind → tailEnded i l y s = ended y.spoiled := by
    intro y kind
    have teaches : tauAfter (w.tailMs.get i) y (gateOf s i).cutoff l.d = learned y.spoiled := by
      simp only [learned]
      cases (gateOf s i).cutoff with
      | none => rfl
      | some c => rw [tauAfter_some, kind]
    rw [tailEnded, pmAfterTail, teaches]
    rfl
  refine ⟨fun running tail due => ?_, fun running early => ?_, fun fl => ⟨fun below => ?_, fun fifth => ?_⟩⟩
  · refine ⟨_, (exec_tailTimerExpiry running i).trans (by rw [if_pos ((tailDue_iff s i).mpr ⟨x, tail, due⟩)]), ?_,
      fun agree => tailEnds_noClaim hl tail (agree.claim i).2⟩
    exact base x rfl ▸ tailEnds_runsOn hl tail
  · rw [exec_tailTimerExpiry running, if_neg]
    rw [tailDue_iff]
    rintro ⟨y, hy, due⟩
    exact absurd (early y hy) (not_lt.mpr due)
  · exact if_neg (not_le.mpr below)
  · let y : Tail := { x with
      lowCount := if fl.q < s.pm.working.tailEndFlow then x.lowCount + 1 else 0
      spoiled := x.spoiled || fl.substituted }
    let u := setGate s i { gateOf s i with tail := some y }
    have tail : (gateOf u i).tail = some y := by rw [gateOf_setGate_same]
    have ends : tailPosition i x fl s = tailEnds i u := if_pos fifth
    rw [ends]
    refine ⟨?_, fun agree => tailEnds_noClaim (s := u) hl tail (agree.claim i).2⟩
    exact base y rfl ▸ tailEnded_setGate y ▸ tailEnds_runsOn (s := u) hl tail

end Sys2Proof.Machine
end

section
/-! SET_PARAMETER (O56): the columns of the parameter table as the statement writes them, the checks in their order, and
the parameters whose new value is only used at its next use. -/

namespace Sys2Proof.Machine

/-! ### The columns of the table -/

theorem paramIsLevel_iff (p : ParamId) :
    paramIsLevel p = true ↔ p = .lEmpty ∨ p = .lLow ∨ p = .lHigh ∨ p = .binCapacityG := by
  cases p <;> simp [paramIsLevel]

theorem levelsOrdered_iff (w : Params) :
    levelsOrdered w = true ↔ w.lEmpty < w.lLow ∧ w.lLow < w.lHigh ∧ w.lHigh ≤ w.binCapacityG := by
  simp [levelsOrdered, and_assoc]

theorem paramLocked_iff (p : ParamId) : paramLocked p = true ↔
    p = .framePeriodUs ∨ p = .syncRole ∨ p = .binZero ∨ p = .binSpan ∨ p = .rateSpan := by
  cases p <;> simp [paramLocked]

theorem anyAllocation_iff (s : State) : anyAllocation s = true ↔ ∃ i, (s.dba.allocation.get i).isSome := by
  simp only [anyAllocation, List.any_eq_true, mem_allSpouts, true_and]

/-- The BUSY column, by what makes a parameter busy: a load anywhere, a running zero, the spout's own load, a grant. -/
theorem paramBusy_iff (s : State) (p : ParamId) : paramBusy s p = true ↔
    (p = .framePeriodUs ∨ p = .syncRole ∨ p = .rateSpan) ∧ (∃ i, (loadOf s i).isSome) ∨
    (p = .binZero ∨ p = .binSpan ∨ p = .rateSpan) ∧ s.bmu.zero.state = .running ∨
    (∃ i, (p = .spoutZero i ∨ p = .spoutGain i ∨ p = .tailMs i) ∧ (loadOf s i).isSome) ∨
    p = .budget ∧ ∃ i, (s.dba.allocation.get i).isSome := by
  rw [← anyLoad_iff, ← anyAllocation_iff]
  cases p <;> simp [paramBusy, zeroRunning]

/-- A parameter that a block uses at its next use has no other effect (R114, R139, R155, R166). -/
theorem paramEffect_of_next_use {p : ParamId}
    (next : ¬ ((p = .framePeriodUs ∨ p = .syncRole ∨ p = .binZero ∨ p = .binSpan ∨ p = .rateSpan) ∨
      (∃ i, p = .spoutZero i ∨ p = .spoutGain i) ∨ p = .sensorPolicy ∨ p = .budget)) (s : State) :
    paramEffect p s = s := by
  cases p <;> simp_all [paramEffect]

/-! ### The request -/

theorem changeParam_of_refusal {id : Byte} {p : ParamId} {v : Int} {s : State} {r : Result}
    (mem : (id.toNat, p) ∈ paramTable) (refusal : paramRefusal s p v = some r) : changeParam id v s = refuse r s := by
  simp only [changeParam, paramOfId_of_mem mem, refusal]

/-- Settles O56: the refusals are the checks in their order, and behind the last the new value stands. -/
theorem setParameterChecksInOrder : Obligations.SetParameterChecksInOrder := by
  intro s id value running taken c refused
  let u := dispatchTaken c s
  constructor
  · intro absent
    refine whileRunning_serveDispatch running taken (a := refuse .outOfRange u) ?_
    simp only [changeParam, paramOfId_eq_none absent]
    rfl
  intro p mem after level disordered guarded occupied zeroing busy effective
  have refuses : ∀ {r}, paramRefusal u p value.toInt = some r → refused r := fun refusal =>
    whileRunning_serveDispatch running taken (changeParam_of_refusal mem refusal)
  have levels : (paramIsLevel p && !levelsOrdered (paramSet (working u) p value.toInt)) = true ↔ level ∧ disordered := by
    rw [Bool.and_eq_true, Bool.not_eq_true', ← Bool.not_eq_true, paramIsLevel_iff, levelsOrdered_iff]
    rfl
  have locks : (paramLocked p && u.pm.custodyLock) = true ↔ guarded ∧ s.pm.custodyLock = true := by
    rw [Bool.and_eq_true, paramLocked_iff]
    rfl
  have waits : paramBusy u p = true ↔ busy := paramBusy_iff u p
  refine ⟨fun outside => refuses ?_, fun inside isLevel isDisordered => refuses ?_,
    fun inside ordered isGuarded isLocked => refuses ?_, fun inside ordered unlocked isBusy => refuses ?_,
    fun inside ordered unlocked free => ⟨paramGet_paramSet_same inside _, fun next => ?_⟩⟩
  · rw [paramRefusal, if_pos outside]
  · rw [paramRefusal, if_neg (by simp [inside]), if_pos (levels.mpr ⟨isLevel, isDisordered⟩)]
  · rw [paramRefusal, if_neg (by simp [inside]), if_neg (mt levels.mp ordered), if_pos (locks.mpr ⟨isGuarded, isLocked⟩)]
  · rw [paramRefusal, if_neg (by simp [inside]), if_neg (mt levels.mp ordered), if_neg (mt locks.mp unlocked),
      if_pos (waits.mpr isBusy)]
  · have accepted : paramRefusal u p value.toInt = none := by
      rw [paramRefusal, if_neg (by simp [inside]), if_neg (mt levels.mp ordered), if_neg (mt locks.mp unlocked),
        if_neg (mt waits.mp free)]
    exact (exec_setParameter running mem taken accepted).trans
      (congrArg (Host.Outcome.next ∘ answer .dispatch 0x27 .ok []) (paramEffect_of_next_use next _))

end Sys2Proof.Machine
end

section
/-! The cutoff (O30): the check of a position, and the feedback that confirms a close (R97 to R99, R103). -/

namespace Sys2Proof.Machine

/-! ### The cutoff check -/

/-- What the cutoff check used (R99). -/
def cutoffRecord (s : State) (i : Spout) (l : Load) (fl : Flow) : CutoffRecord :=
  { dCut := provisional s i l, qCut := fl.effective, load := l.number, substituted := fl.substituted }

/-- A gate that its cutoff has closed (R99, R107). -/
def cutoffGate (g : Gate) (c : CutoffRecord) : Gate :=
  { g with
    mode := .closing, command := 0, closeTimer := some 0, cutoff := some c
    tail := some { kind := .cutoff, timer := 0, lowCount := 0, spoiled := c.substituted } }

/-- A cutoff is a close into a tail (R99, R131). -/
theorem cutOff_eq {i : Spout} {s : State} (l : Load) (fl : Flow) (open_ : (gateOf s i).mode.discharging = true) :
    cutOff i l fl s = settle (closedInto i { l with state := .tailing, cutoff := some (cutoffRecord s i l fl) }
      (cutoffGate (gateOf s i) (cutoffRecord s i l fl)) s) := by
  have closes : gateToClosing i s = plainClose i s := (if_pos open_).symm
  have gate : gateOf (plainClose i s) i =
      { gateOf s i with mode := .closing, command := 0, closeTimer := some 0 } := by
    rw [gateOf_plainClose, closedGate, if_pos open_]
  rw [closedInto, plainClose_setLoad]
  simp only [cutOff, beginTail, closes, gateOf_setGate_same, setGate_setGate, gate]
  rfl

/-- At a projection at or above the target (R97 to R99). -/
theorem cutoffCheck_of_reached {i : Spout} {l : Load} {fl : Flow} {s : State} (hl : loadOf s i = some l)
    (open_ : (gateOf s i).mode.discharging = true) (reached : (l.target : Int) ≤ projection s i l fl) :
    cutoffCheck i fl s = settle (closedInto i { l with state := .tailing, cutoff := some (cutoffRecord s i l fl) }
      (cutoffGate (gateOf s i) (cutoffRecord s i l fl)) s) := by
  rw [cutoffCheck, hl]
  exact (if_pos reached).trans (cutOff_eq l fl open_)

theorem cutoffCheck_of_below {i : Spout} {l : Load} {fl : Flow} {s : State} (hl : loadOf s i = some l)
    (below : projection s i l fl < l.target) : cutoffCheck i fl s = dribbleTest i l s := by
  rw [cutoffCheck, hl]
  exact if_neg (not_le.mpr below)

theorem dribbleTest_eq (i : Spout) (l : Load) (s : State) : dribbleTest i l s =
    if ((gateOf s i).mode = .opening ∨ (gateOf s i).mode = .regulating) ∧
        (l.target : Int) - provisional s i l ≤ (s.pm.working.dribbleMassG : Int) then
      { s with
        gate := s.gate.set i { gateOf s i with mode := .dribble }
        bsc := { s.bsc with dribbleSet := s.bsc.dribbleSet.set i true } }
    else s := rfl

/-- A gate that discharges but not in DRIBBLE is in OPENING or REGULATING. -/
theorem not_dribble_iff {m : GateMode} (open_ : m.discharging = true) :
    m ≠ .dribble ↔ m = .opening ∨ m = .regulating := by
  cases m with
  | opening => simp
  | regulating => simp
  | dribble => simp
  | closed => cases open_
  | closing => cases open_
  | fault => cases open_

/-! ### The feedback -/

theorem gateFeedback_of_not_confirms {i : Spout} {m : Mark} {s : State}
    (h : ¬ ((gateOf s i).mode = .closing ∧ ∃ v, m = .good v ∧ v ≤ 20)) : gateFeedback i m s = s := by
  cases m with
  | good v => exact if_neg fun n => h ⟨n.1, v, rfl, n.2⟩
  | held v => rfl
  | nothing => rfl

theorem gateFeedback_of_confirms {i : Spout} {m : Mark} {s : State}
    (h : (gateOf s i).mode = .closing ∧ ∃ v, m = .good v ∧ v ≤ 20) : gateFeedback i m s =
      (let shut := setGate s i { gateOf s i with mode := .closed, closeTimer := none, pendingGrant := none }
       if (gateOf s i).pendingGrant.isSome then gateOpen i shut else shut) := by
  obtain ⟨closing, v, rfl, low⟩ := h
  exact if_pos ⟨closing, low⟩

/-- Without a pending grant the gate closes, and that is all (R103). -/
theorem gateFeedback_of_ungranted {i : Spout} {m : Mark} {s : State}
    (h : (gateOf s i).mode = .closing ∧ ∃ v, m = .good v ∧ v ≤ 20) (ungranted : (gateOf s i).pendingGrant = none) :
    gateFeedback i m s =
      setGate s i { gateOf s i with mode := .closed, closeTimer := none, pendingGrant := none } := by
  rw [gateFeedback_of_confirms h, ungranted]
  rfl

/-- The opening of a gate that stands as `g`, as the statements write it (R90). -/
theorem gateOpen_setGate {i : Spout} {l : Load} {s : State} (g : Gate) (hl : loadOf s i = some l) :
    gateOpen i (setGate s i g) = if (s.pm.working.dribbleMassG : Int) < l.target - provisional s i l then
      { s with
        gate := s.gate.set i { g with mode := .opening, command := s.pm.working.startPos, flowSum := 0, flowCount := 0 }
        sli := { s.sli with gateCommand := s.sli.gateCommand.set i s.pm.working.startPos } }
    else
      { s with
        gate := s.gate.set i { g with mode := .dribble, command := s.pm.working.dribblePos, flowSum := 0, flowCount := 0 }
        sli := { s.sli with gateCommand := s.sli.gateCommand.set i s.pm.working.dribblePos }
        bsc := { s.bsc with dribbleSet := s.bsc.dribbleSet.set i true } } := by
  have test : (((working (setGate s i { g with flowSum := 0, flowCount := 0 })).dribbleMassG : Int) <
      remaining (setGate s i { g with flowSum := 0, flowCount := 0 }) i l) =
      ((s.pm.working.dribbleMassG : Int) < l.target - provisional s i l) := rfl
  have load : loadOf (setGate s i g) i = some l := hl
  simp only [gateOpen, load, setCommand, setGateCommand, gateOf_setGate_same, setGate_setGate, test]
  rfl

end Sys2Proof.Machine
end

section
/-! A spout that draws with a FRESH channel while a frame position is taken (O30): what the link, the other spouts and the
window's part leave of it, and what its own flow does to it (R92, R97 to R99, R190). -/

namespace Sys2Proof.Machine

/-! ### A spout beside the other events -/

/-- What spout `i` sees of an event that is not its own. -/
structure Bystands (i : Spout) (s t : State) : Prop extends SpoutStands i s t where
  demand : (sensorOf t i).demand = (sensorOf s i).demand
  fresh : (s.sli.impact.get i).state = .fresh → (t.sli.impact.get i).state = .fresh
  blind : t.bmu.mode = .blind ↔ s.bmu.mode = .blind
  tau : t.pm.working.tailMs.get i = s.pm.working.tailMs.get i
  near : t.pm.working.dribbleMassG = s.pm.working.dribbleMassG
  pending : t.oau.pending.get i = s.oau.pending.get i

/-- Spout `i` draws, or no report of the event reaches it for another reason: it does not wait for a grant, and no demand
on it begins or ends. -/
structure Drawing (i : Spout) (s : State) : Prop where
  unwaiting : ∀ l, loadOf s i = some l → l.state ≠ .waiting
  undemanded : (sensorOf s i).demand = false
  fresh : (s.sli.impact.get i).state = .fresh
  sighted : s.bmu.mode ≠ .blind

section
variable {i j : Spout} {s t u : State}

theorem Bystands.refl (i : Spout) (s : State) : Bystands i s s :=
  { SpoutStands.refl i s with demand := rfl, fresh := id, blind := .rfl, tau := rfl, near := rfl, pending := rfl }

theorem Bystands.trans (h : Bystands i s t) (k : Bystands i t u) : Bystands i s u :=
  { h.toSpoutStands.trans k.toSpoutStands with
    demand := k.demand.trans h.demand
    fresh := k.fresh ∘ h.fresh
    blind := k.blind.trans h.blind
    tau := k.tau.trans h.tau
    near := k.near.trans h.near
    pending := k.pending.trans h.pending }

theorem Drawing.of_bystands (h : Drawing i s) (k : Bystands i s t) : Drawing i t where
  unwaiting l hl := h.unwaiting l (k.load.symm.trans hl)
  undemanded := k.demand.trans h.undemanded
  fresh := k.fresh h.fresh
  sighted := mt k.blind.mp h.sighted

/-- An operation of another spout. -/
theorem Confined.bystands (h : Confined j s t) (other : i ≠ j) (pending : t.oau.pending.get i = s.oau.pending.get i) :
    Bystands i s t :=
  { (h.others i other).spoutStands with
    demand := by rw [sensorOf, h.shared.ssu]; rfl
    fresh := by rw [h.shared.impact]; exact id
    blind := h.shared.blind
    tau := by rw [h.shared.pm]
    near := by rw [h.shared.pm]
    pending := pending }

theorem Confined.bystands_of_windowStands (h : Confined j s t) (other : i ≠ j) (stands : WindowStands s t) :
    Bystands i s t := h.bystands other (by rw [stands.oau])

/-- The reports of the event. -/
theorem settle_bystands (h : Drawing i s) : Bystands i s (settle s) := by
  have kept : SpoutStands i s (settle s) ∧ (sensorOf (settle s) i).demand = false ∧
      (settle s).sli.impact = s.sli.impact := by
    refine settle_preserves (Q := fun t => SpoutStands i s t ∧ (sensorOf t i).demand = false ∧
      t.sli.impact = s.sli.impact) (fun t ⟨stands, demand, impact⟩ => ?_) (fun t ⟨stands, demand, impact⟩ => ?_)
      ⟨.refl i s, h.undemanded, rfl⟩
    · obtain ⟨load, gate, command, dribble⟩ := examine_of_not_waiting (s := t) (i := i) fun l hl =>
        h.unwaiting l (stands.load.symm.trans hl)
      have shared := examine_shared t
      exact ⟨stands.trans ⟨load, gate, command, dribble⟩, by rw [sensorOf, shared.ssu]; exact demand,
        shared.impact.trans impact⟩
    · have judged : demandOf t i = false := demandOf_of_fresh (by rw [impact]; exact h.fresh)
      exact ⟨stands.trans (rejudge_sameAt (demand.trans judged.symm)).spoutStands, (rejudge_demand t i).trans judged,
        (rejudge_inputs t).1.trans impact⟩
  obtain ⟨stands, demand, impact⟩ := kept
  have runs := settle_runsOn [] s
  exact { stands with
    demand := demand.trans h.undemanded.symm
    fresh := by rw [impact]; exact id
    blind := settle_blind s
    tau := by rw [runs.pm]
    near := by rw [runs.pm]
    pending := by rw [runs.oau] }

/-- An event of another spout with the reports that follow it. -/
theorem Bystands.settled (k : Bystands i s t) (h : Drawing i s) : Bystands i s (settle t) :=
  k.trans (settle_bystands (h.of_bystands k))

/-! ### The flows of the other spouts -/

theorem setGate_bystands (s : State) (other : i ≠ j) (g : Gate) : Bystands i s (setGate s j g) :=
  (setGate_confined s j g).bystands other rfl

/-- A tail that ends on another spout. -/
theorem tailEnded_bystands {l : Load} {x : Tail} {d : Dba} (other : i ≠ j) :
    Bystands i s ((tailEnded j l x s).withDba d) where
  load := PerSpout.get_set_other _ _ other
  gate := PerSpout.get_set_other _ _ other
  command := rfl
  dribble := rfl
  demand := rfl
  fresh := id
  blind := .rfl
  tau := PerSpout.get_set_other _ _ other
  near := rfl
  pending := by
    show (pendingAfterEnd j l.number s.oau.pending).get i = _
    unfold pendingAfterEnd
    split
    · split
      · exact PerSpout.get_set_other _ _ other
      · rfl
    · rfl

theorem tailPosition_bystands (h : Drawing i s) (other : i ≠ j) (x : Tail) (fl : Flow) :
    Bystands i s (tailPosition j x fl s) := by
  let y : Tail := { x with
    lowCount := if fl.q < (working s).tailEndFlow then x.lowCount + 1 else 0
    spoiled := x.spoiled || fl.substituted }
  have marked := setGate_bystands s other { gateOf s j with tail := some y }
  by_cases ends : 5 ≤ y.lowCount
  · rw [show tailPosition j x fl s = tailEnds j (setGate s j { gateOf s j with tail := some y }) from if_pos ends]
    cases hl : loadOf (setGate s j { gateOf s j with tail := some y }) j with
    | none =>
      rw [tailEnds, hl]
      exact marked.trans (setGate_bystands _ other _)
    | some l =>
      rw [tailEnds_eq hl (by rw [gateOf_setGate_same])]
      exact (marked.trans (tailEnded_bystands other)).settled h
  · rw [show tailPosition j x fl s = setGate s j { gateOf s j with tail := some y } from if_neg ends]
    exact marked

theorem closedInto_bystands (other : i ≠ j) (x : Load) (g : Gate) : Bystands i s (closedInto j x g s) :=
  (((setLoad_confined s j _).bystands other rfl).trans
    ((plainClose_confined j _).bystands other (by rw [(orderClosed_runsOn j _).oau]; rfl))).trans
      (setGate_bystands _ other g)

theorem cutoffCheck_bystands (h : Drawing i s) (other : i ≠ j) (open_ : (gateOf s j).mode.discharging = true)
    (fl : Flow) : Bystands i s (cutoffCheck j fl s) := by
  cases hl : loadOf s j with
  | none =>
    rw [cutoffCheck, hl]
    exact .refl i s
  | some l =>
    rcases le_or_gt (l.target : Int) (projection s j l fl) with reached | below
    · rw [cutoffCheck_of_reached hl open_ reached]
      exact (closedInto_bystands other _ _).settled h
    · rw [cutoffCheck_of_below hl below, dribbleTest]
      split
      · exact (setGate_bystands s other _).trans ((dribbleEntered_confined j _).bystands other rfl)
      · exact .refl i s

end

/-- The accumulator of a gate takes a flow (R92). -/
def flowCounted (g : Gate) (q : Nat) : Gate := { g with flowSum := g.flowSum + q, flowCount := g.flowCount + 1 }

/-- A spout's flow at a position, but for the window step that BLIND takes there (R92, R98, R107). -/
def flowJudged (fl : PerSpout Flow) (i : Spout) (s : State) : State :=
  let counted := setGate s i (flowCounted (gateOf s i) (fl.get i).effective)
  match (gateOf s i).tail with
  | some x => tailPosition i x (fl.get i) counted
  | none => if (gateOf s i).mode.discharging then cutoffCheck i (fl.get i) counted else counted

section
variable {i j : Spout} {s t u : State}

theorem gateFlows_of_sighted (fl : PerSpout Flow) (i : Spout) (sighted : s.bmu.mode ≠ .blind) :
    gateFlows fl i s = flowJudged fl i s := by
  have stepped : gateFlows fl i s = blindStep i (flowJudged fl i s) := rfl
  have sees : (flowJudged fl i s).bmu.mode ≠ .blind := fun n =>
    sighted ((gateFlows_gateKeeps fl i s).blind.mp (stepped ▸ (blindStep_gateKeeps i _).blind.mpr n))
  rw [stepped, blindStep, if_neg fun n => sees n.1]

theorem gateFlows_bystands (h : Drawing i s) (other : i ≠ j) (fl : PerSpout Flow) : Bystands i s (gateFlows fl j s) := by
  have counted := setGate_bystands s other (flowCounted (gateOf s j) (fl.get j).effective)
  have drawing := h.of_bystands counted
  rw [gateFlows_of_sighted fl j h.sighted, flowJudged]
  split
  · exact counted.trans (tailPosition_bystands drawing other _ _)
  · split
    · next open_ =>
      exact counted.trans (cutoffCheck_bystands drawing other (by rw [gateOf_setGate_same]; exact open_) _)
    · exact counted

/-! ### The parts of a position -/

theorem gateFeedback_bystands (m : Mark) (s : State) (standing : i ≠ j ∨ (gateOf s i).mode ≠ .closing) :
    Bystands i s (gateFeedback j m s) := by
  have confined : Confined j s (gateFeedback j m s) := by
    by_cases confirms : (gateOf s j).mode = .closing ∧ ∃ v, m = .good v ∧ v ≤ 20
    · rw [gateFeedback_of_confirms confirms]
      dsimp only
      split
      · exact (setGate_confined s j _).trans (gateOpen_confined j _)
      · exact setGate_confined s j _
    · rw [gateFeedback_of_not_confirms confirms]
      exact .refl j s
  by_cases other : i = j
  · subst other
    rw [gateFeedback_of_not_confirms fun n => standing.elim (absurd rfl) (absurd n.1)]
    exact .refl i s
  · exact confined.bystands_of_windowStands other (gateFeedback_windowStands j m s)

/-- The feedback of a position, where the spout's own gate does not wait for one. -/
theorem feedbackPosition_bystands (p : PositionIn) (standing : (gateOf s i).mode ≠ .closing) :
    Bystands i s (feedbackPosition p s) := by
  unfold feedbackPosition
  split
  · exact .refl i s
  · refine eachSpout_preserves (P := fun t => Bystands i s t) (fun j t ht => ?_) (.refl i s)
    exact ht.trans (gateFeedback_bystands _ t (.inr (by rw [ht.gate]; exact standing)))

theorem oauPosition_bystands (fl : PerSpout Flow) (s : State) : Bystands i s (oauPosition fl s) :=
  { SpoutStands.refl i s with demand := rfl, fresh := id, blind := .rfl, tau := rfl, near := rfl, pending := rfl }

theorem ssuPosition_bystands (p : PositionIn) (s : State) : Bystands i s (ssuPosition p s) :=
  { SpoutStands.refl i s with
    demand := by rw [sensorOf_ssuPosition]; rfl
    fresh := id, blind := .rfl, tau := rfl, near := rfl, pending := rfl }

/-- A position that closes no window (R21). -/
theorem bmuPosition_of_room (p : PositionIn) (sighted : s.bmu.mode ≠ .blind) (room : s.bmu.position < 9) :
    bmuPosition p s = s.withBmu (countPosition (working s) s.sli.refillCommand p.bin s.bmu) := by
  rw [bmuPosition_of_sighted p sighted, if_neg (by omega)]

theorem bmuPosition_oau (p : PositionIn) (sighted : s.bmu.mode ≠ .blind) (room : s.bmu.position < 9) :
    (bmuPosition p s).oau = s.oau := by
  rw [bmuPosition_of_room p sighted room]
  rfl

theorem oauPosition_bmu (fl : PerSpout Flow) (s : State) : (oauPosition fl s).bmu = s.bmu := rfl

theorem bmuPosition_bystands (p : PositionIn) (sighted : s.bmu.mode ≠ .blind) (room : s.bmu.position < 9) :
    Bystands i s (bmuPosition p s) := by
  rw [bmuPosition_of_room p sighted room]
  exact { SpoutStands.refl i s with
    demand := rfl
    fresh := id
    blind := by rw [State.withBmu_bmu, (countPosition_window _ _ _ _).2.2.2]
    tau := rfl
    near := rfl
    pending := rfl }

/-! ### The spout's own flow within the position -/

/-- Of the flows of a position spout `i` sees its own, between those of the spouts before it and behind it. -/
theorem gateFlows_at (fl : PerSpout Flow) (h : Drawing i s)
    (own : ∀ b, Bystands i s b → Drawing i (gateFlows fl i b)) :
    ∃ b, Bystands i s b ∧ b.oau.openPart = s.oau.openPart ∧
      Bystands i (gateFlows fl i b) (eachSpout (gateFlows fl) s) := by
  have step : ∀ {j t}, Drawing i t → i ≠ j → Bystands i t (gateFlows fl j t) :=
    fun d other => gateFlows_bystands d other fl
  have parts : ∀ j t, (gateFlows fl j t).oau.openPart = t.oau.openPart := fun j t => (gateFlows_gateKeeps fl j t).openPart
  have two : ∀ {j k t}, Drawing i t → i ≠ j → i ≠ k → Bystands i t (gateFlows fl k (gateFlows fl j t)) :=
    fun d first second => (step d first).trans (step (d.of_bystands (step d first)) second)
  cases i with
  | A => exact ⟨s, .refl _ s, rfl, two (own s (.refl _ s)) (by decide) (by decide)⟩
  | B =>
    have before := step (j := .A) h (by decide)
    exact ⟨_, before, parts _ _, step (own _ before) (by decide)⟩
  | C =>
    have before := two (j := .A) (k := .B) h (by decide) (by decide)
    exact ⟨_, before, (parts _ _).trans (parts _ _), .refl _ _⟩

/-- Of a position that closes no window spout `i` sees its own flow, before its frame mass or after it (R66, R98). -/
theorem pathOrder_at (o : Sched) (p : PositionIn) (fl : PerSpout Flow) (h : Drawing i s) (room : s.bmu.position < 9)
    (own : ∀ b, Bystands i s b → Drawing i (gateFlows fl i b)) :
    ∃ b, Bystands i s b ∧ b.oau.openPart.get i =
        s.oau.openPart.get i + (if o.flowsBeforeMass then 0 else ((fl.get i).grams : Int)) ∧
      Bystands i (gateFlows fl i b) (pathOrder o p fl s) := by
  have masses := fun t => oauPosition_bystands (i := i) fl t
  have position : ∀ t, (eachSpout (gateFlows fl) t).bmu.position = t.bmu.position := fun t => by
    rw [(eachSpout_gateFlows_gateKeeps fl t).bmu]
  have sighted : ∀ {t}, t.bmu.mode ≠ .blind → (eachSpout (gateFlows fl) t).bmu.mode ≠ .blind := fun {t} =>
    mt (eachSpout_gateFlows_gateKeeps fl t).blind.mp
  have flows : ∀ {t}, Bystands i s t → ∃ b, Bystands i s b ∧ b.oau.openPart = t.oau.openPart ∧
      Bystands i (gateFlows fl i b) (eachSpout (gateFlows fl) t) := fun k => by
    obtain ⟨b, before, part, after⟩ := gateFlows_at fl (h.of_bystands k) fun b hb => own b (k.trans hb)
    exact ⟨b, k.trans before, part, after⟩
  unfold pathOrder
  cases close : o.closeBeforeFlows with
  | false =>
    cases mass : o.flowsBeforeMass with
    | false =>
      obtain ⟨b, before, part, after⟩ := flows (masses s)
      refine ⟨b, before, by rw [part]; exact oauPosition_openPart fl s i, after.trans (bmuPosition_bystands p ?_ ?_)⟩
      · exact sighted (oauPosition_bmu fl s ▸ h.sighted)
      · rw [position, oauPosition_bmu]
        exact room
    | true =>
      obtain ⟨b, before, part, after⟩ := flows (.refl i s)
      refine ⟨b, before, by rw [part]; exact (Int.add_zero _).symm,
        (after.trans (masses _)).trans (bmuPosition_bystands p ?_ ?_)⟩
      · rw [oauPosition_bmu]
        exact sighted h.sighted
      · rw [oauPosition_bmu, position]
        exact room
  | true =>
    cases mass : o.flowsBeforeMass with
    | false =>
      have sees : (oauPosition fl s).bmu.mode ≠ .blind := oauPosition_bmu fl s ▸ h.sighted
      have fits : (oauPosition fl s).bmu.position < 9 := oauPosition_bmu fl s ▸ room
      obtain ⟨b, before, part, after⟩ := flows ((masses s).trans (bmuPosition_bystands p sees fits))
      refine ⟨b, before, ?_, after⟩
      rw [part, bmuPosition_oau p sees fits]
      exact oauPosition_openPart fl s i
    | true =>
      obtain ⟨b, before, part, after⟩ := flows (bmuPosition_bystands p h.sighted room)
      refine ⟨b, before, ?_, after.trans (masses _)⟩
      rw [part, bmuPosition_oau p h.sighted room]
      exact (Int.add_zero _).symm

end

end Sys2Proof.Machine
end

section
/-! A normal frame at a gate that discharges (O30): the cutoff check on the frame's own flow, whatever the other events of
the position (R92, R97 to R99, R107). -/

namespace Sys2Proof.Machine

/-! ### The spout's own flow -/

/-- The gate of a position that does not cut off (R95). -/
theorem gateOf_dribbleTest {i : Spout} {s : State} (l : Load) (open_ : (gateOf s i).mode.discharging = true) :
    gateOf (dribbleTest i l s) i = { gateOf s i with
      mode := if (l.target : Int) - provisional s i l ≤ (s.pm.working.dribbleMassG : Int) then .dribble
        else (gateOf s i).mode } := by
  rw [dribbleTest_eq]
  by_cases near : (l.target : Int) - provisional s i l ≤ (s.pm.working.dribbleMassG : Int)
  · by_cases dribble : (gateOf s i).mode = .dribble
    · rw [if_neg fun n => (not_dribble_iff open_).mpr n.1 dribble, if_pos near, ← dribble]
    · rw [if_pos ⟨(not_dribble_iff open_).mp dribble, near⟩, if_pos near]
      exact PerSpout.get_set_same _ _ _
  · rw [if_neg fun n => near n.2, if_neg near]

theorem loadOf_dribbleTest (i j : Spout) (l : Load) (s : State) : loadOf (dribbleTest i l s) j = loadOf s j := by
  rw [dribbleTest_eq]
  split <;> rfl

/-- Spout `i` after a cutoff of its gate, which was in mode `was`. -/
structure CutOffAs (i : Spout) (x : Load) (c : CutoffRecord) (was : GateMode) (s : State) : Prop where
  load : loadOf s i = some x
  shut : (gateOf s i).mode.discharging = false
  ungranted : (gateOf s i).pendingGrant = none
  command : (gateOf s i).command = 0
  outbound : s.sli.gateCommand.get i = 0
  cutoff : (gateOf s i).cutoff = some c
  tail : (gateOf s i).tail = some { kind := .cutoff, timer := 0, lowCount := 0, spoiled := c.substituted }
  dribble : was = .dribble → s.bsc.dribbleSet.get i = false

section
variable {i : Spout} {x : Load} {c : CutoffRecord} {was : GateMode} {s t : State}

theorem CutOffAs.of_stands (h : CutOffAs i x c was s) (k : SpoutStands i s t) : CutOffAs i x c was t where
  load := k.load.trans h.load
  shut := k.gate ▸ h.shut
  ungranted := k.gate ▸ h.ungranted
  command := k.gate ▸ h.command
  outbound := k.command.trans h.outbound
  cutoff := k.gate ▸ h.cutoff
  tail := k.gate ▸ h.tail
  dribble was := k.dribble.trans (h.dribble was)

/-- Feedback after the cutoff may find the gate shut already (R103). -/
theorem CutOffAs.feedback (h : CutOffAs i x c was s) (j : Spout) (m : Mark) : CutOffAs i x c was (gateFeedback j m s) := by
  by_cases own : i = j
  · subst own
    by_cases confirms : (gateOf s i).mode = .closing ∧ ∃ v, m = .good v ∧ v ≤ 20
    · rw [gateFeedback_of_ungranted confirms h.ungranted]
      let shut : Gate := { gateOf s i with mode := .closed, closeTimer := none, pendingGrant := none }
      have gate : gateOf (setGate s i shut) i = shut := gateOf_setGate_same s i shut
      exact
        { load := h.load
          shut := by rw [gate]; rfl
          ungranted := by rw [gate]
          command := by rw [gate]; exact h.command
          outbound := h.outbound
          cutoff := by rw [gate]; exact h.cutoff
          tail := by rw [gate]; exact h.tail
          dribble := h.dribble }
    · rw [gateFeedback_of_not_confirms confirms]
      exact h
  · exact h.of_stands (gateFeedback_bystands m s (.inl own)).toSpoutStands

theorem CutOffAs.feedbackPosition (h : CutOffAs i x c was s) (p : PositionIn) :
    CutOffAs i x c was (feedbackPosition p s) := by
  unfold Machine.feedbackPosition
  split
  · exact h
  · exact eachSpout_preserves (P := CutOffAs i x c was) (fun j t ht => ht.feedback j _) h

end

section
variable {i : Spout} {l : Load} {fl : Flow} {s : State}

/-- The cutoff of a position (R99). -/
theorem cutoffCheck_cutOffAs (hl : loadOf s i = some l) (open_ : (gateOf s i).mode.discharging = true)
    (ungranted : (gateOf s i).pendingGrant = none) (reached : (l.target : Int) ≤ projection s i l fl) :
    CutOffAs i { l with state := .tailing, cutoff := some (cutoffRecord s i l fl) } (cutoffRecord s i l fl)
      (gateOf s i).mode (cutoffCheck i fl s) := by
  let c := cutoffRecord s i l fl
  let y : Load := { l with state := .tailing, cutoff := some c }
  let w := closedInto i y (cutoffGate (gateOf s i) c) s
  have cuts : cutoffCheck i fl s = settle w := cutoffCheck_of_reached hl open_ reached
  have gate : gateOf w i = cutoffGate (gateOf s i) c := gateOf_setGate_same _ _ _
  have leaves : LeavesDribble i s (settle w) := closedInto_leavesDribble rfl
  have command : w.sli.gateCommand.get i = 0 := gateCommand_plainClose (s := setLoad s i (some y)) open_
  have stands : SpoutStands i w (settle w) := settle_of_tailing (loadOf_closedInto i y _ s) rfl
  rw [cuts]
  exact
    { load := stands.load.trans (loadOf_closedInto i y _ s)
      shut := by rw [stands.gate, gate]; rfl
      ungranted := by rw [stands.gate, gate]; exact ungranted
      command := by rw [stands.gate, gate]; rfl
      outbound := stands.command.trans command
      cutoff := by rw [stands.gate, gate]; rfl
      tail := by rw [stands.gate, gate]; rfl
      dribble := fun was => (leaves was).1 }

/-- A spout that has had its cutoff check draws on, or its tail runs. -/
theorem cutoffCheck_drawing (h : Drawing i s) (hl : loadOf s i = some l)
    (open_ : (gateOf s i).mode.discharging = true) : Drawing i (cutoffCheck i fl s) := by
  have keeps := (cutoffCheck_gateKeeps i fl s).1
  have fresh : ((cutoffCheck i fl s).sli.impact.get i).state = .fresh := by rw [keeps.sli]; exact h.fresh
  have sighted := mt keeps.blind.mp h.sighted
  rcases le_or_gt (l.target : Int) (projection s i l fl) with reached | below
  · let c := cutoffRecord s i l fl
    let y : Load := { l with state := .tailing, cutoff := some c }
    let w := closedInto i y (cutoffGate (gateOf s i) c) s
    have cuts : cutoffCheck i fl s = settle w := cutoffCheck_of_reached hl open_ reached
    have load : loadOf w i = some y := loadOf_closedInto i y _ s
    rw [cuts] at fresh sighted ⊢
    have freshBefore : (w.sli.impact.get i).state = .fresh := by
      rw [(settle_runsOn [] w).sli] at fresh
      exact fresh
    refine ⟨fun x hx => ?_, settle_demand_of_fresh freshBefore, fresh, sighted⟩
    rw [(settle_of_tailing load rfl).load, load] at hx
    cases hx
    exact nofun
  · rw [cutoffCheck_of_below hl below] at fresh sighted ⊢
    refine ⟨fun x hx => h.unwaiting x ((loadOf_dribbleTest i i l s).symm.trans hx), ?_, fresh, sighted⟩
    rw [dribbleTest_eq]
    split <;> exact h.undemanded

end

/-! ### The position -/

/-- The delivered mass that the cutoff check of a position uses (R66, R98). -/
def deliveredAt (o : Sched) (fl : Flow) (s : State) (i : Spout) (l : Load) : Int :=
  provisional s i l + if o.flowsBeforeMass then 0 else (fl.grams : Int)

/-- The projection of that check (R97). -/
def projectedAt (o : Sched) (fl : Flow) (s : State) (i : Spout) (l : Load) : Int :=
  deliveredAt o fl s i l + ((fl.effective * s.pm.working.tailMs.get i / 1000 : Nat) : Int)

/-- What a position does to a gate that discharges under load `l`. -/
structure FlowTaken (o : Sched) (fl : Flow) (i : Spout) (l : Load) (s t : State) : Prop where
  reached : (l.target : Int) ≤ projectedAt o fl s i l →
    let c : CutoffRecord :=
      { dCut := deliveredAt o fl s i l, qCut := fl.effective, load := l.number, substituted := fl.substituted }
    CutOffAs i { l with state := .tailing, cutoff := some c } c (gateOf s i).mode t
  below : projectedAt o fl s i l < l.target → loadOf t i = some l ∧
    gateOf t i = { flowCounted (gateOf s i) fl.effective with
      mode := if (l.target : Int) - deliveredAt o fl s i l ≤ (s.pm.working.dribbleMassG : Int) then .dribble
        else (gateOf s i).mode }

/-- A gate that discharges does not wait for feedback (R103). -/
theorem not_closing_of_open {g : Gate} (open_ : g.mode.discharging = true) : g.mode ≠ .closing := fun n => by
  rw [n] at open_
  cases open_

section
variable {i : Spout} {l : Load} {s : State}

theorem FlowTaken.of_stands {o : Sched} {fl : Flow} {t u : State} (h : FlowTaken o fl i l s t) (k : SpoutStands i t u) :
    FlowTaken o fl i l s u where
  reached n := (h.reached n).of_stands k
  below n := ⟨k.load.trans (h.below n).1, k.gate.trans (h.below n).2⟩

/-- What the flow of a position comes to may be read off the state before the link took the frame. -/
theorem FlowTaken.base {o : Sched} {fl : Flow} {t u : State} (h : FlowTaken o fl i l t u) (beside : Bystands i s t)
    (part : t.oau.openPart = s.oau.openPart) : FlowTaken o fl i l s u := by
  have provided : provisional t i l = provisional s i l := by
    simp only [provisional, pendingFor, part, beside.pending]
  have delivered : deliveredAt o fl t i l = deliveredAt o fl s i l := by rw [deliveredAt, provided]; rfl
  have projected : projectedAt o fl t i l = projectedAt o fl s i l := by
    rw [projectedAt, delivered, beside.tau]
    rfl
  obtain ⟨reached, below⟩ := h
  rw [projected, delivered, beside.gate] at reached
  rw [projected, delivered, beside.gate, beside.near] at below
  exact ⟨reached, below⟩

/-- Feedback that comes last finds the gate open still, or closing (log 4). -/
theorem FlowTaken.feedbackLast {o : Sched} {fl : Flow} {t : State} (h : FlowTaken o fl i l s t)
    (open_ : (gateOf s i).mode.discharging = true) (p : PositionIn) : FlowTaken o fl i l s (feedbackLast o p t) := by
  unfold Machine.feedbackLast
  split
  · refine ⟨fun reached => (h.reached reached).feedbackPosition p, fun below => ?_⟩
    obtain ⟨load, gate⟩ := h.below below
    have opened : (gateOf t i).mode.discharging = true := by
      rw [gate]
      dsimp only
      split
      · rfl
      · exact open_
    have stands := feedbackPosition_bystands p (not_closing_of_open opened)
    exact ⟨stands.load.trans load, stands.gate.trans gate⟩
  · exact h

/-- A discharging gate without a tail has its cutoff check (R98). -/
theorem gateFlows_of_open (fl : PerSpout Flow) (sighted : s.bmu.mode ≠ .blind)
    (open_ : (gateOf s i).mode.discharging = true) (untailed : (gateOf s i).tail = none) : gateFlows fl i s =
      cutoffCheck i (fl.get i) (setGate s i (flowCounted (gateOf s i) (fl.get i).effective)) := by
  rw [gateFlows_of_sighted fl i sighted, flowJudged, untailed]
  exact if_pos open_

/-- The spout's own flow, from the state that the other events of the position have come to. -/
theorem gateFlows_flowTaken {o : Sched} (fl : PerSpout Flow) {b : State} (h : Drawing i s) (beside : Bystands i s b)
    (part : b.oau.openPart.get i =
      s.oau.openPart.get i + (if o.flowsBeforeMass then 0 else ((fl.get i).grams : Int)))
    (hl : loadOf s i = some l) (open_ : (gateOf s i).mode.discharging = true) (untailed : (gateOf s i).tail = none)
    (ungranted : (gateOf s i).pendingGrant = none) : FlowTaken o (fl.get i) i l s (gateFlows fl i b) := by
  let u := setGate b i (flowCounted (gateOf s i) (fl.get i).effective)
  have gate : gateOf u i = flowCounted (gateOf s i) (fl.get i).effective := gateOf_setGate_same _ _ _
  have load : loadOf u i = some l := beside.load.trans hl
  have judged : gateFlows fl i b = cutoffCheck i (fl.get i) u := by
    rw [gateFlows_of_open fl (h.of_bystands beside).sighted (by rw [beside.gate]; exact open_)
      (by rw [beside.gate]; exact untailed), beside.gate]
  have delivered : provisional u i l = deliveredAt o (fl.get i) s i l := by
    show (l.d : Int) + (pendingFor b i l.number : Int) + b.oau.openPart.get i = _
    rw [part, pendingFor, beside.pending, ← Int.add_assoc]
    rfl
  have projected : projection u i l (fl.get i) = projectedAt o (fl.get i) s i l := by
    rw [projection, delivered, show (working u).tailMs.get i = s.pm.working.tailMs.get i from beside.tau]
    rfl
  have opened : (gateOf u i).mode.discharging = true := by rw [gate]; exact open_
  rw [judged]
  refine ⟨fun reached => ?_, fun below => ?_⟩
  · have cut := cutoffCheck_cutOffAs load opened (by rw [gate]; exact ungranted) (projected ▸ reached)
    rw [cutoffRecord, delivered, gate] at cut
    exact cut
  · rw [cutoffCheck_of_below load (projected ▸ below), loadOf_dribbleTest, gateOf_dribbleTest l opened, gate, delivered,
      show u.pm.working.dribbleMassG = s.pm.working.dribbleMassG from beside.near]
    exact ⟨load, rfl⟩

/-- A position that closes no window, at a gate that discharges under a load and a FRESH channel (R92, R98). -/
theorem framePosition_flowTaken (o : Sched) (p : PositionIn) (h : Drawing i s) (room : s.bmu.position < 9)
    (hl : loadOf s i = some l) (open_ : (gateOf s i).mode.discharging = true) (untailed : (gateOf s i).tail = none)
    (ungranted : (gateOf s i).pendingGrant = none) :
    FlowTaken o (flowOf (flowsFormed o p s) p i) i l s (framePosition o p s) := by
  let v := flowsFormed o p s
  let fl := PerSpout.of (flowOf v p)
  have flow : fl.get i = flowOf v p i := PerSpout.get_of _ i
  have keeps := flowsFormed_gateKeeps o p s
  have formed : Bystands i s v := by
    show Bystands i s (flowsFormed o p s)
    unfold flowsFormed
    split
    · exact .refl i s
    · exact feedbackPosition_bystands p (not_closing_of_open open_)
  have beside : Bystands i s (ssuPosition p v) := formed.trans (ssuPosition_bystands p v)
  have drawing := h.of_bystands beside
  have own : ∀ b, Bystands i (ssuPosition p v) b → Drawing i (gateFlows fl i b) := by
    intro b before
    have stands := beside.trans before
    obtain ⟨unwaiting, undemanded, fresh, sighted⟩ := h.of_bystands stands
    have opened : (gateOf b i).mode.discharging = true := by rw [stands.gate]; exact open_
    rw [gateFlows_of_open fl sighted opened (by rw [stands.gate]; exact untailed)]
    exact cutoffCheck_drawing ⟨unwaiting, undemanded, fresh, sighted⟩ (stands.load.trans hl)
      (by rw [gateOf_setGate_same]; exact opened)
  have window : (ssuPosition p v).bmu.position < 9 := by
    show v.bmu.position < 9
    rw [keeps.bmu]
    exact room
  obtain ⟨b, before, part, after⟩ := pathOrder_at o p fl drawing window own
  have openPart : (ssuPosition p v).oau.openPart = s.oau.openPart := keeps.openPart
  rw [openPart] at part
  have taken := gateFlows_flowTaken (o := o) fl h (beside.trans before) part hl open_ untailed ungranted
  rw [flow] at taken
  rw [framePosition_eq]
  exact (taken.of_stands after.toSpoutStands).feedbackLast open_ p

end

/-! ### The frame -/

/-- A flow under a FRESH channel is the channel's own (R40, R41). -/
theorem flowOf_of_fresh {s : State} {i : Spout} (fresh : (s.sli.impact.get i).state = .fresh) (p : PositionIn) :
    (flowOf s p i).substituted = false ∧ (flowOf s p i).effective = (flowOf s p i).q := by
  have own : substitutionHolds s i = false :=
    Bool.eq_false_iff.mpr fun n => ((substitutionHolds_iff s i).mp n).2.1 fresh
  exact ⟨own, if_neg (Bool.eq_false_iff.mp own)⟩

theorem frameTaken_bystands {f : InFrame} {n : Nat} {s : State} {i : Spout} (sighted : s.bmu.mode ≠ .blind)
    (fresh : (channelAfter (sampleOf (f.impact.get i)) (s.sli.impact.get i)).state = .fresh) :
    Bystands i s (frameTaken f n s) where
  load := by rw [loadOf, frameTaken_lm]; rfl
  gate := by rw [gateOf, frameTaken_gate]; rfl
  command := by rw [frameTaken_sli]
  dribble := by rw [frameTaken_eq]
  demand := by rw [sensorOf, frameTaken_ssu]; rfl
  fresh _ := by
    rw [frameTaken_sli]
    exact (congrArg Channel.state (PerSpout.get_of _ i)).trans fresh
  blind := by rw [frameTaken_bmu f n sighted]
  tau := by rw [frameTaken_pm]
  near := by rw [frameTaken_pm]
  pending := by rw [frameTaken_eq]

/-- The flow of an accepted frame under a FRESH channel (R40, R42). -/
theorem frameFlow_eq {f : InFrame} {n : Nat} (o : Sched) {s : State} {i : Spout}
    (fresh : ((frameTaken f n s).sli.impact.get i).state = .fresh) :
    flowOf (frameFormed f n o s) (positionOf f (settle (frameTaken f n s))) i =
      { q := frameFlow f s i, effective := frameFlow f s i, substituted := false
        grams := (frameFlow f s i * s.pm.working.framePeriodUs + (sensorOf s i).carry) / 1000000 } := by
  have formed := frameFormed_gateKeeps f n o s
  have q := frameFormed_q f n o s i
  have impact : ((frameFormed f n o s).sli.impact.get i).state = .fresh := by rw [formed.sli]; exact fresh
  obtain ⟨unsubstituted, effective⟩ := flowOf_of_fresh impact (positionOf f (settle (frameTaken f n s)))
  have period : (working (frameFormed f n o s)).framePeriodUs = s.pm.working.framePeriodUs := by
    rw [working, formed.pm, frameTaken_pm]
  have carry : (sensorOf (frameFormed f n o s) i).carry = (sensorOf s i).carry := by
    rw [formed.sensors i, show sensorOf (frameTaken f n s) i = sensorOf s i by rw [sensorOf, frameTaken_ssu]; rfl]
  have grams : (flowOf (frameFormed f n o s) (positionOf f (settle (frameTaken f n s))) i).grams =
      (frameFlow f s i * s.pm.working.framePeriodUs + (sensorOf s i).carry) / 1000000 := by
    rw [← period, ← carry, ← q, ← effective]
    rfl
  rw [← grams, ← unsubstituted, ← q]
  exact congrArg (fun e => Flow.mk _ e _ _) effective

/-- A normal frame of a window in progress, at a gate that discharges under a load and a channel that the frame leaves
FRESH. -/
theorem acceptFrame_flowTaken {f : InFrame} {n : Nat} (o : Sched) {s : State} {i : Spout} {l : Load}
    (hl : loadOf s i = some l) (discharging : l.state = .discharging) (open_ : (gateOf s i).mode.discharging = true)
    (untailed : (gateOf s i).tail = none) (ungranted : (gateOf s i).pendingGrant = none)
    (undemanded : (sensorOf s i).demand = false) (sighted : s.bmu.mode ≠ .blind) (room : s.bmu.position < 9)
    (fresh : (channelAfter (sampleOf (f.impact.get i)) (s.sli.impact.get i)).state = .fresh) :
    FlowTaken o { q := frameFlow f s i, effective := frameFlow f s i, substituted := false
                  grams := (frameFlow f s i * s.pm.working.framePeriodUs + (sensorOf s i).carry) / 1000000 }
      i l s (acceptFrame f n o s) := by
  let v := settle (frameTaken f n s)
  let p := positionOf f v
  have taken := frameTaken_bystands (f := f) (n := n) sighted fresh
  have impact : ((frameTaken f n s).sli.impact.get i).state = .fresh := by
    rw [frameTaken_sli]
    exact (congrArg Channel.state (PerSpout.get_of _ i)).trans fresh
  have drawing : Drawing i (frameTaken f n s) :=
    { unwaiting := fun x hx => by
        rw [taken.load, hl] at hx
        cases hx
        rw [discharging]
        exact nofun
      undemanded := taken.demand.trans undemanded
      fresh := impact
      sighted := mt taken.blind.mp sighted }
  have settled := settle_bystands drawing
  have beside : Bystands i s v := taken.trans settled
  have keeps : GateKeeps [] (frameTaken f n s) v := settle_gateKeeps _
  have window : v.bmu.position < 9 := by
    rw [keeps.bmu]
    exact frameTaken_position f n s ▸ room
  have part : v.oau.openPart = s.oau.openPart := keeps.openPart.trans (frameTaken_openPart f n s)
  have flow := framePosition_flowTaken o p (drawing.of_bystands settled) window (beside.load.trans hl)
    (by rw [beside.gate]; exact open_) (by rw [beside.gate]; exact untailed) (by rw [beside.gate]; exact ungranted)
  rw [show flowsFormed o p v = frameFormed f n o s from rfl, frameFlow_eq o impact] at flow
  exact flow.base beside part

/-- Settles O30: the check itself, the check within a frame, and the feedback that confirms a close. -/
theorem cutoffClosesTheGate : Obligations.CutoffClosesTheGate := by
  refine ⟨?check, ?frame, ?confirm⟩
  case check =>
    intro s i l fl hl open_ tau projected record left
    refine ⟨fun reached => ?_, fun below stays => ?_, fun below other near => ?_⟩
    · have cuts := cutoffCheck_of_reached hl open_ reached
      have load : loadOf (cutoffCheck i fl s) i = some { l with state := .tailing, cutoff := some record } := by
        rw [cuts, (settle_of_tailing (loadOf_closedInto i _ _ s) rfl).load, loadOf_closedInto]
        rfl
      refine ⟨?_, fun agree => ?_, cuts ▸ closedInto_leavesDribble rfl⟩
      · have runs := closedInto_runsOn i { l with state := .tailing, cutoff := some record }
          (cutoffGate (gateOf s i) record) s
        rw [closedBase_eq, orderClosed, if_pos open_] at runs
        rw [cuts]
        exact runs
      · exact ((claimsFit_closed True).cutoffCheck open_ fl agree.claimsFit).1.noClaim_of_tailing load rfl
    · rw [cutoffCheck_of_below hl below, dribbleTest_eq, if_neg]
      rintro ⟨mode, near⟩
      rcases stays with dribble | far
      · exact (not_dribble_iff open_).mpr mode dribble
      · exact absurd near (not_le.mpr far)
    · rw [cutoffCheck_of_below hl below, dribbleTest_eq, if_pos ⟨(not_dribble_iff open_).mp other, near⟩]
  case frame =>
    rintro f o s _ m i l running locked number wf rfl sighted room hl discharging open_ untailed ungranted undemanded fresh
    let arrived := s.withSli { s.sli with frameInProgress := false }
    have runs : exec (.frameArrival f o) s = .next (acceptFrame f ((m + 1) % 256) o arrived) := by
      rw [exec_frameArrival running, frameArrives_locked wf locked number, lockedFrame_next]
    have flow := acceptFrame_flowTaken (f := f) (n := (m + 1) % 256) o (s := arrived) hl discharging open_ untailed
      ungranted undemanded sighted room fresh
    refine ⟨_, runs, fun reached => ?_, flow.below⟩
    obtain ⟨load, shut, -, command, outbound, cutoff, tail, dribble⟩ := flow.reached reached
    exact ⟨load, shut, command, outbound, cutoff, tail, dribble⟩
  case confirm =>
    intro s i m g w confirms shut taken
    refine ⟨gateFeedback_of_not_confirms, fun closes ungranted => gateFeedback_of_ungranted closes ungranted,
      fun closes granted l hl => ?_⟩
    have opens : gateFeedback i m s = gateOpen i (setGate s i shut) := by
      rw [gateFeedback_of_confirms closes]
      exact if_pos (Option.isSome_iff_ne_none.mpr granted)
    rw [opens, gateOpen_setGate shut hl]
    exact ⟨fun far => if_pos far, fun near => if_neg (not_lt.mpr near)⟩

end Sys2Proof.Machine
end
